-- ==== Sys2Proof/Word.lean ====
section
/-! DEFINITION. The number types of the LC4: memory coordinates (00_scope section 5, R48), link and
configuration numbers, and moments in time. -/

namespace Sys2Proof

/-- One byte, of a message or of the DRAM. -/
abbrev Byte := BitVec 8

/-- A bank number, 0 to 7. -/
abbrev Bank := Fin 8

/-- A row number, 0 to 16383. -/
abbrev Row := BitVec 14

/-- A column number, 0 to 1023; one column is one beat of 4 bytes. -/
abbrev Column := BitVec 10

/-- A lane number, 0 to 3. -/
abbrev Lane := Fin 4

/-- A capture delay, 0 to 63 (R83). -/
abbrev Delay := BitVec 6

/-- A request tag, 0 to 15 (R157). -/
abbrev Tag := Fin 16

/-- A wrapping number 0 to 255: a frame number, a notification number, a proposal number. -/
abbrev Seq := BitVec 8

/-- A moment in time, in ns. -/
abbrev Time := Nat

/-- A set of banks as the messages carry it: bit n is bank n (R185). -/
abbrev BankSet := BitVec 8

end Sys2Proof
end

