-- ==== Sys2Proof/Syntax.lean ====
section
/-! DEFINITION. The commands the LC4 takes: one constructor of `Instr` for each row of
spec/opcode_table.json, with the operands its rules give it. -/

namespace Sys2Proof

/-- The four hosts, ports 0 to 3 in this order (00_scope section 5). -/
inductive HostId where
  | a | b | c | d
  deriving DecidableEq, Repr

/-- The lease modes of an OPEN (R12). -/
inductive LeaseMode where
  | shared | exclusive
  deriving DecidableEq, Repr

/-- The header of a received frame: its sequence number and the sender's acknowledgement (R146). -/
structure FrameHdr where
  seq : Seq
  ack : Seq
  deriving DecidableEq, Repr

/-- A change item as PROPOSE carries it, eight bytes (R189); the agreement unit judges its fields. -/
structure RawItem where
  kind    : Byte
  target  : Byte
  bankSet : BankSet
  rights  : Byte
  valueA  : BitVec 16
  valueB  : BitVec 16
  deriving DecidableEq, Repr

/-- The write data of one burst: 32 bytes in beat order and 32 enable flags. Flag 4 * i + j governs
byte j of beat i (R189: bit j + 4 * (i mod 2) of enable byte i div 2, the four bytes read as one
little-endian word). -/
structure WriteBurst where
  data    : Vector Byte 32
  enables : BitVec 32
  deriving DecidableEq, Repr

/-- The commands: the rows of spec/opcode_table.json. A request command (from `join` to `noteAck`) is
the arrival of a valid MESSAGE frame with header `f` that carries the request. -/
inductive Instr where
  /-- RESET_N_ASSERT (R174). -/
  | resetNAssert
  /-- RESET_N_RELEASE (R175). -/
  | resetNRelease
  /-- HOLD_PHASE_END (R175). -/
  | holdPhaseEnd
  /-- SETTLE_PHASE_END (R175). -/
  | settlePhaseEnd
  /-- LOCK_PHASE_END (R177). -/
  | lockPhaseEnd
  /-- INTERVAL_EXPIRY (R90). -/
  | intervalExpiry
  /-- HOLD_DEADLINE_EXPIRY (R25): of host `h` on bank `b`. -/
  | holdDeadlineExpiry (b : Bank) (h : HostId)
  /-- WAIT_DEADLINE_EXPIRY (R28): of host `h` on bank `b`. -/
  | waitDeadlineExpiry (b : Bank) (h : HostId)
  /-- BALLOT_DEADLINE_EXPIRY (R118). -/
  | ballotDeadlineExpiry
  /-- DRAIN_DEADLINE_EXPIRY (R124). -/
  | drainDeadlineExpiry
  /-- SILENCE_DEADLINE_EXPIRY (R148). -/
  | silenceDeadlineExpiry (h : HostId)
  /-- QUIET_END (R147). -/
  | quietEnd (h : HostId)
  /-- SEND_TIMER_EXPIRY (R151). -/
  | sendTimerExpiry (h : HostId)
  /-- SEND_FRAME (R151). -/
  | sendFrame (h : HostId)
  /-- RECEIVE_IDLE_FRAME (R149). -/
  | receiveIdleFrame (h : HostId) (f : FrameHdr)
  /-- RECEIVE_NAK_FRAME (R153): the NAK carries the number `n`. -/
  | receiveNakFrame (h : HostId) (f : FrameHdr) (n : Seq)
  /-- RECEIVE_CORRUPTED_FRAME (R149). -/
  | receiveCorruptedFrame (h : HostId)
  /-- MESSAGE_FRAME_DISCARDED (R150): `tagged` says whether its message is a request with a tag. -/
  | messageFrameDiscarded (h : HostId) (f : FrameHdr) (tagged : Bool)
  /-- MALFORMED_MESSAGE (R188): `tagged` says whether its kind is that of a request with a tag. -/
  | malformedMessage (h : HostId) (f : FrameHdr) (tagged : Bool)
  /-- JOIN (R158). -/
  | join (h : HostId) (f : FrameHdr) (tag : Tag)
  /-- JOIN_COMPLETE (R158): of every JOINING port. -/
  | joinComplete
  /-- LEAVE (R159). -/
  | leave (h : HostId) (f : FrameHdr) (tag : Tag)
  /-- LEAVE_COMPLETE (R160). -/
  | leaveComplete (h : HostId)
  /-- OPEN (R12). -/
  | openLease (h : HostId) (f : FrameHdr) (tag : Tag) (bank : Byte) (row : BitVec 16)
      (mode : LeaseMode) (wait : BitVec 16)
  /-- CLOSE (R23). -/
  | closeLease (h : HostId) (f : FrameHdr) (tag : Tag) (bank : Byte)
  /-- CLOSE_COMPLETE (R21). -/
  | closeComplete (b : Bank) (h : HostId)
  /-- REVOCATION_FINISH (R30). -/
  | revocationFinish (b : Bank) (h : HostId)
  /-- GRANT_FROM_QUEUE (R17). -/
  | grantFromQueue (b : Bank)
  /-- READ (R53). -/
  | read (h : HostId) (f : FrameHdr) (tag : Tag) (bank : Byte) (bursts : Byte) (col : BitVec 16)
  /-- WRITE (R51): `bursts` is the burst count byte, `payload` the bursts that follow. -/
  | write (h : HostId) (f : FrameHdr) (tag : Tag) (bank : Byte) (bursts : Byte) (col : BitVec 16)
      (payload : List WriteBurst)
  /-- INTAKE_TAKE (R56). -/
  | intakeTake
  /-- PROPOSE (R112). -/
  | propose (h : HostId) (f : FrameHdr) (tag : Tag) (base : BitVec 16) (items : List RawItem)
  /-- VOTE (R114). -/
  | vote (h : HostId) (f : FrameHdr) (tag : Tag) (number : Seq) (accept : Bool)
  /-- DRAIN_COMPLETE (R123). -/
  | drainComplete
  /-- COMMIT (R128). -/
  | commit
  /-- PARK (R133). -/
  | park (h : HostId) (f : FrameHdr) (tag : Tag)
  /-- UNPARK (R134). -/
  | unpark (h : HostId) (f : FrameHdr) (tag : Tag)
  /-- STANDBY_ENTERING (R137). -/
  | standbyEntering
  /-- STANDBY_ENTER_OFFER (R137). -/
  | standbyEnterOffer
  /-- QUERY (R172). -/
  | query (h : HostId) (f : FrameHdr) (tag : Tag)
  /-- QUERY_BANK (R173). -/
  | queryBank (h : HostId) (f : FrameHdr) (tag : Tag) (bank : Byte)
  /-- NOTE_ACK (R167). -/
  | noteAck (h : HostId) (f : FrameHdr) (n : Seq)
  /-- NOTIFICATION_DELIVERY (R166). -/
  | notificationDelivery (h : HostId)
  /-- REFRESH_REQUEST (R94). -/
  | refreshRequest
  /-- SETUP_END (R71). -/
  | setupEnd (b : Bank)
  /-- COMMAND_SLOT_END (R77). -/
  | commandSlotEnd
  /-- WRITE_RECOVERY_END (R73). -/
  | writeRecoveryEnd (b : Bank)
  /-- ACTIVATE_ISSUE (R71): of the bank the arbiter chooses (R79). -/
  | activateIssue
  /-- PRECHARGE_ISSUE (R73): of the bank the arbiter chooses (R79). -/
  | prechargeIssue
  /-- BURST_ISSUE (R58): of the entry the arbiter chooses (R79). -/
  | burstIssue
  /-- REFRESH_ISSUE (R79). -/
  | refreshIssue
  /-- SHORT_CAL_ISSUE (R99). -/
  | shortCalIssue
  /-- LONG_CAL_ISSUE (R177). -/
  | longCalIssue
  /-- MODE_LOAD_ISSUE (R82). -/
  | modeLoadIssue
  /-- TRAIN_STEP_ISSUE (R83). -/
  | trainStepIssue
  /-- STANDBY_ENTER_ISSUE (R85). -/
  | standbyEnterIssue
  /-- STANDBY_EXIT_ISSUE (R141). -/
  | standbyExitIssue
  /-- ACTIVATE_COMPLETION (R19). -/
  | activateCompletion (b : Bank)
  /-- PRECHARGE_COMPLETION (R24). -/
  | prechargeCompletion (b : Bank)
  /-- BURST_COMPLETION (R59). -/
  | burstCompletion (b : Bank)
  /-- REFRESH_COMPLETION (R97). -/
  | refreshCompletion
  /-- SHORT_CAL_COMPLETION (R99). -/
  | shortCalCompletion
  /-- LONG_CAL_COMPLETION (R177). -/
  | longCalCompletion
  /-- MODE_LOAD_COMPLETION (R82). -/
  | modeLoadCompletion
  /-- TRAIN_STEP_COMPLETION (R179): with the sample that the DRAM and the board gave. -/
  | trainStepCompletion (sample : Bool)
  /-- STANDBY_ENTER_COMPLETION (R138). -/
  | standbyEnterCompletion
  /-- STANDBY_EXIT_COMPLETION (R142). -/
  | standbyExitCompletion
  deriving DecidableEq, Repr

end Sys2Proof
end

