-- ==== Sys2Proof/Config.lean ====
section
/-! DEFINITION. What speed grade LC4-25 fixes (durations, in ns; sizes of lists) and the one free value
of the model: the bytes the DRAM holds where no host has written. -/

namespace Sys2Proof.Config

/-- R175: HOLD lasts 150 µs. -/
def holdPhase : Nat := 150000
/-- R175: SETTLE lasts 400 µs. -/
def settlePhase : Nat := 400000
/-- R176: LOCK lasts 1.6 µs. -/
def lockPhase : Nat := 1600
/-- R68: ACTIVATE takes 15 ns. -/
def activateTime : Nat := 15
/-- R68: PRECHARGE takes 15 ns. -/
def prechargeTime : Nat := 15
/-- R68: a burst takes 10 ns. -/
def burstTime : Nat := 10
/-- R68: REFRESH takes 330 ns. -/
def refreshTime : Nat := 330
/-- R68: SHORT_CAL takes 90 ns. -/
def shortCalTime : Nat := 90
/-- R68: LONG_CAL takes 1.1 µs. -/
def longCalTime : Nat := 1100
/-- R68: MODE_LOAD takes 24 ns. -/
def modeLoadTime : Nat := 24
/-- R68: TRAIN_STEP takes 60 ns. -/
def trainStepTime : Nat := 60
/-- R68: STANDBY_ENTER takes 30 ns. -/
def standbyEnterTime : Nat := 30
/-- R68: STANDBY_EXIT takes 420 ns. -/
def standbyExitTime : Nat := 420
/-- R71, R73: a row command's set-up takes 5 ns. -/
def setupTime : Nat := 5
/-- R77: the command slot lasts 2 ns. -/
def slotTime : Nat := 2
/-- R72: write recovery lasts 16 ns. -/
def recoveryTime : Nat := 16
/-- R89: the refresh interval at NORMAL rate, 6.4 µs. -/
def intervalNormal : Nat := 6400
/-- R89: the refresh interval at FAST rate, 3.2 µs. -/
def intervalFast : Nat := 3200
/-- R147: QUIET lasts 2.5 ms. -/
def quietTime : Nat := 2500000
/-- R148: the silence limit is 2 ms. -/
def silenceTime : Nat := 2000000
/-- R145: the send timer runs 100 µs. -/
def sendTime : Nat := 100000
/-- One µs in ns. -/
def us : Nat := 1000
/-- One ms in ns. -/
def ms : Nat := 1000000
/-- R86: the force limit. -/
def forceLimit : Int := 5
/-- R56: the transfer list holds at most 64 entries. -/
def transferLimit : Nat := 64
/-- R164: a notification queue holds at most 16 entries. -/
def noteLimit : Nat := 16
/-- R166: at most four entries are delivered, and at most four wait in the send queue. -/
def noteWindow : Nat := 4
/-- R145: the replay buffer holds at most 8 frames. -/
def replayLimit : Nat := 8
/-- R153: four replays are allowed. -/
def replayAttempts : Nat := 4
/-- R150: responses waiting plus tags outstanding never exceed 16. -/
def responseLimit : Nat := 16
/-- R99: a short calibration follows every 128th refresh. -/
def refreshesPerCal : Nat := 128
/-- R179: a lane is given three attempts. -/
def laneAttempts : Nat := 3

/-- FREE VALUE (log 9). The byte that the DRAM gives at an address that no host has written since the
DRAM's last reset (R75: "rows read after start-up hold whatever the DRAM gives, until a host writes
them"). The first argument counts the DRAM's resets. -/
opaque dramByte (generation address : Nat) : BitVec 8

end Sys2Proof.Config
end

