-- ==== Sys2Proof/Machine/State.lean ====
section
/-! DEFINITION. The state of the LC4 as the spec gives it, block by block, as plain data; the reasons a
step can stop; and `State.reset`, the state while RESET_N is asserted. -/

namespace Sys2Proof.Machine

/-! ## Things there are four of: one per host -/

/-- One value per host A to D. -/
structure PerHost (α : Type) where
  a : α
  b : α
  c : α
  d : α
  deriving DecidableEq, Repr

/-- The value of one host. -/
def PerHost.get {α : Type} (t : PerHost α) : HostId → α
  | .a => t.a
  | .b => t.b
  | .c => t.c
  | .d => t.d

/-- Replace the value of one host. -/
def PerHost.set {α : Type} (t : PerHost α) (h : HostId) (x : α) : PerHost α :=
  match h with
  | .a => { t with a := x }
  | .b => { t with b := x }
  | .c => { t with c := x }
  | .d => { t with d := x }

/-- The same value for every host. -/
def PerHost.const {α : Type} (x : α) : PerHost α := ⟨x, x, x, x⟩

/-- The value of each host given by a function. -/
def PerHost.of {α : Type} (f : HostId → α) : PerHost α := ⟨f .a, f .b, f .c, f .d⟩

/-- Change every host's value, told which host it is. -/
def PerHost.imap {α β : Type} (f : HostId → α → β) (t : PerHost α) : PerHost β :=
  ⟨f .a t.a, f .b t.b, f .c t.c, f .d t.d⟩

/-- A set of hosts: each host is in it or not, and it has no order (00_scope section 5, Sets). -/
abbrev HostSet := PerHost Bool

/-- The hosts in port order. -/
def allHosts : List HostId := [.a, .b, .c, .d]

/-- The banks in ascending order. -/
def allBanks : List Bank := [0, 1, 2, 3, 4, 5, 6, 7]

/-- The lanes in ascending order. -/
def allLanes : List Lane := [0, 1, 2, 3]

/-! ## The shared configuration (R36, R105) and change items (R107) -/

/-- R36: the rights a window grants to one host. -/
inductive Right where
  | none | read | readWrite
  deriving DecidableEq, Repr

/-- R36: a valid window record. An invalid record is an absent one. -/
structure Window where
  banks   : BankSet
  rowLow  : Row
  rowHigh : Row
  rights  : PerHost Right
  deriving DecidableEq, Repr

/-- R105: the refresh rate. -/
inductive RefreshRate where
  | normal | fast
  deriving DecidableEq, Repr

/-- R49: the burst order. -/
inductive BurstOrder where
  | linearWrap | xorWrap
  deriving DecidableEq, Repr

/-- R105: the shared configuration; the agreement unit holds it live and staged. -/
structure SharedConfig where
  windows       : Vector (Option Window) 16
  holdLimit     : PerHost (BitVec 16)
  rate          : RefreshRate
  threshold     : Nat
  ballotTimeout : BitVec 8
  drainTimeout  : BitVec 16
  burstOrder    : BurstOrder
  deriving DecidableEq, Repr

/-- R107: the nine kinds of change item, each with valid fields. -/
inductive ChangeItem where
  | setWindow (index : Fin 16) (w : Window)
  | clearWindow (index : Fin 16)
  | setHoldLimit (h : HostId) (limit : BitVec 16)
  | setRefreshRate (r : RefreshRate)
  | setThreshold (t : Nat)
  | setBallotTimeout (ms : BitVec 8)
  | setDrainTimeout (us : BitVec 16)
  | setBurstOrder (o : BurstOrder)
  | retrain
  deriving DecidableEq, Repr

/-! ## Notifications and responses -/

/-- R3: why a holder is revoked. -/
inductive RevokeReason where
  | holdExpired | refresh | config | hostLost
  deriving DecidableEq, Repr

/-- R91, R117: why leases are asked back. -/
inductive CloseReason where
  | refresh | config
  deriving DecidableEq, Repr

/-- R129: why a proposal is abandoned. -/
inductive AbandonReason where
  | rejected (h : HostId)
  | timeout
  | proposerLost
  | trainingFailed
  deriving DecidableEq, Repr

/-- R110: the outcome of a proposal. -/
inductive ProposalOutcome where
  | applied
  | abandoned (r : AbandonReason)
  deriving DecidableEq, Repr

/-- R170: the codes of a FAULT notification. -/
inductive FaultCode where
  | refreshMissed
  | tagInUse (tag : Tag)
  | badAck
  | malformed
  deriving DecidableEq, Repr

/-- Section 9.4: the eleven kinds of notification. -/
inductive Notification where
  | leaseRevoked (b : Bank) (r : RevokeReason)
  | overstayed (b : Bank)
  | closeRequested (r : CloseReason) (held : BankSet)
  | proposalPosted (number : Seq) (proposer : HostId) (items : Nat) (heavy : Bool)
  | proposalResolved (number : Seq) (o : ProposalOutcome) (epoch : BitVec 16)
  | hostJoined (h : HostId)
  | hostLeft (h : HostId) (lost : Bool)
  | standbyEntered
  | standbyLeft
  | fault (code : FaultCode)
  | overflow
  deriving DecidableEq, Repr

/-- R187: the kinds of tagged request, as the tag table records them (R157). -/
inductive ReqKind where
  | join | leave | openLease | closeLease | read | write | propose | vote | park | unpark
  | query | queryBank
  deriving DecidableEq, Repr

/-- R190: the status codes. -/
inductive Status where
  | ok | range | parked | alreadyHeld | noRight | notHeld | closing | revoked | mode | timedOut
  | withdrawn | busyLeases | busy | stale | invalid | noBallot | notElector | alreadyVoted
  | notAttached | alreadyJoined | deviceFailed
  deriving DecidableEq, Repr

/-! ## The lease table (chapter 1) -/

/-- R2: the states of a bank record. -/
inductive BankState where
  | closed | activating | opened | precharging
  deriving DecidableEq, Repr

/-- R3: the status of a holder, with the revoke reason that REVOKING carries. -/
inductive HolderStatus where
  | active
  | closing
  | revoking (r : RevokeReason)
  deriving DecidableEq, Repr

/-- R3: a holder entry. -/
structure Holder where
  host       : HostId
  grantTag   : Tag
  answered   : Bool
  deadline   : Option Time
  overstayed : Bool
  status     : HolderStatus
  closeTag   : Option Tag
  deriving DecidableEq, Repr

/-- R4: a waiter entry. -/
structure Waiter where
  host     : HostId
  tag      : Tag
  row      : Row
  mode     : LeaseMode
  deadline : Option Time
  deriving DecidableEq, Repr

/-- Section 1.1: a bank record. -/
structure BankRecord where
  state   : BankState
  row     : Option Row
  mode    : Option LeaseMode
  holders : List Holder
  waiters : List Waiter
  deriving DecidableEq, Repr

/-- R9: the grant gate, a set of four reasons. -/
structure Gate where
  startup : Bool
  refresh : Bool
  config  : Bool
  standby : Bool
  deriving DecidableEq, Repr

/-- R9: the reasons. -/
inductive GateReason where
  | startup | refresh | config | standby
  deriving DecidableEq, Repr

/-! ## The transfer engine (chapter 3) -/

/-- R55: the kind of a transfer. -/
inductive TransferKind where
  | read | write
  deriving DecidableEq, Repr

/-- R55: an entry of the transfer list. `data` is a WRITE's data in transfer order, or the read data
gathered so far; `enables` holds a WRITE's flags, one for each byte of `data`. -/
structure Transfer where
  host      : HostId
  tag       : Tag
  kind      : TransferKind
  bank      : Bank
  row       : Row
  col       : Column
  bursts    : Nat
  issued    : Nat
  completed : Nat
  cancelled : Bool
  data      : List Byte
  enables   : List Bool
  deriving DecidableEq, Repr

/-- R53, R56: a READ or WRITE as it is handed to the transfer engine, before its checks. -/
structure TransferReq where
  host    : HostId
  tag     : Tag
  kind    : TransferKind
  bank    : Byte
  bursts  : Byte
  col     : BitVec 16
  data    : List Byte
  enables : List Bool
  deriving DecidableEq, Repr

/-- R55, R56: the transfer list and the intake. -/
structure TransferEngine where
  list   : List Transfer
  intake : List TransferReq
  deriving DecidableEq, Repr

/-! ## The channel controller (chapter 4) -/

/-- R70: the operation in flight on a bank. ACTIVATE keeps the row it opens. -/
inductive Flight where
  | none
  | activate (row : Row)
  | precharge
  | readBurst
  | writeBurst
  deriving DecidableEq, Repr

/-- R70: the pending row command of a bank. -/
inductive RowCommand where
  | none
  | activate (row : Row)
  | precharge
  deriving DecidableEq, Repr

/-- R70: a bank operation record. `setupDone` and `recoveryDone` are the model's own: SETUP_END and
WRITE_RECOVERY_END have been taken (log 16). -/
structure BankOp where
  openRow      : Option Row
  inFlight     : Flight
  due          : Option Time
  pending      : RowCommand
  setupEnd     : Option Time
  setupDone    : Bool
  recoveryEnd  : Option Time
  recoveryDone : Bool
  deriving DecidableEq, Repr

/-- R74: the channel states. -/
inductive ChannelState where
  | uninit | active | maintenance | selfRefresh
  deriving DecidableEq, Repr

/-- R176: the four mode settings; the burst setting carries a burst order. -/
inductive ModeSetting where
  | latency
  | burst (o : BurstOrder)
  | drive
  | selfRefresh
  deriving DecidableEq, Repr

/-- R68: the maintenance operations. -/
inductive MaintOp where
  | refresh
  | shortCal
  | longCal
  | modeLoad (m : ModeSetting)
  | trainStep (lane : Lane) (delay : Delay)
  | standbyEnter
  | standbyExit
  deriving DecidableEq, Repr

/-- R68: the blocks that offer maintenance operations. -/
inductive Requester where
  | account | sequencer | agreement | standby
  deriving DecidableEq, Repr

/-- R69: a maintenance offer. -/
structure Offer where
  op : MaintOp
  by_ : Requester
  deriving DecidableEq, Repr

/-- R74: the maintenance operation in flight: its kind, its requester and its completion due. -/
structure MaintFlight where
  offer : Offer
  due   : Time
  deriving DecidableEq, Repr

/-- What can be first at the command bus: an offer, a bank's row command, or the next burst of a host on
a bank. -/
inductive Claim where
  | maint (o : Offer)
  | precharge (b : Bank)
  | activate (b : Bank)
  | burst (h : HostId) (b : Bank)
  deriving DecidableEq, Repr

/-- R81: the operation that the free bus would issue, kept with the moment at which it was so while a
later event of the same moment acts. -/
structure FirstClaim where
  moment : Time
  what   : Claim
  deriving DecidableEq, Repr

/-- The channel controller's state, with the DRAM pins of R75 and the command slot of R77. `first` is the
model's own: what events of the present moment found the bus free and were first to claim it (R81,
log 23). -/
structure Channel where
  state       : ChannelState
  maint       : Option MaintFlight
  offers      : List Offer
  first       : Option FirstClaim
  slotEnd     : Option Time
  ops         : Vector BankOp 8
  loadedOrder : Option BurstOrder
  capture     : Vector (Option Delay) 4
  dresetN     : Bool
  cke         : Bool
  csN         : Bool
  clockOn     : Bool
  deriving DecidableEq, Repr

/-! ## The refresh account (chapter 5) -/

/-- R86: the operation the account has offered and not yet seen complete. -/
inductive AccountOffer where
  | none | refresh | shortCal
  deriving DecidableEq, Repr

/-- R86: the refresh account. -/
structure Account where
  owed     : Int
  timer    : Option Time
  sinceCal : Nat
  calDue   : Bool
  hold     : Bool
  missed   : Nat
  offer    : AccountOffer
  deriving DecidableEq, Repr

/-! ## The agreement unit (chapter 6) -/

/-- R111: the states of the agreement unit. -/
inductive AgreeState where
  | idle | ballot | draining | applying
  deriving DecidableEq, Repr

/-- R110: the proposal record. -/
structure Proposal where
  number         : Seq
  proposer       : HostId
  items          : List ChangeItem
  heavy          : Bool
  electorate     : HostSet
  accepted       : HostSet
  ballotDeadline : Option Time
  drainDeadline  : Option Time
  outcome        : Option ProposalOutcome
  deriving DecidableEq, Repr

/-- R125: the step at which an apply stands. -/
inductive ApplyStep where
  | retrain | load | commit
  deriving DecidableEq, Repr

/-- The agreement unit's state. `applyStep` is the model's own (log 16). -/
structure Agreement where
  live      : SharedConfig
  staged    : SharedConfig
  epoch     : BitVec 16
  counter   : Seq
  state     : AgreeState
  proposal  : Option Proposal
  applyStep : Option ApplyStep
  deriving DecidableEq, Repr

/-! ## The standby controller (chapter 7) -/

/-- R135: the standby states. -/
inductive StandbyState where
  | running | entering | selfRefresh | exiting
  deriving DecidableEq, Repr

/-- R132, R135: the standby controller. -/
structure Standby where
  park        : HostSet
  state       : StandbyState
  exitPending : Bool
  deriving DecidableEq, Repr

/-! ## The start-up sequencer (chapter 10) -/

/-- R174: the start-up phases. -/
inductive Phase where
  | hold | settle | modes | lock | calibrate | train
  deriving DecidableEq, Repr

/-- R174: the device states. -/
inductive DeviceState where
  | starting (p : Phase)
  | ready
  | failed
  deriving DecidableEq, Repr

/-- R178: the status of a lane. -/
inductive LaneStatus where
  | untrained | trained | failed
  deriving DecidableEq, Repr

/-- R178: a lane training record. -/
structure LaneRecord where
  delay    : Delay
  status   : LaneStatus
  attempts : Nat
  deriving DecidableEq, Repr

/-- R183: a staged lane result. -/
structure StagedLane where
  delay    : Option Delay
  status   : LaneStatus
  attempts : Nat
  deriving DecidableEq, Repr

/-- R174: the kind of a sweep. -/
inductive SweepKind where
  | startUp | retrain
  deriving DecidableEq, Repr

/-- R174: a sweep. -/
structure Sweep where
  lane    : Lane
  delay   : Delay
  attempt : Nat
  prev    : Option Bool
  kind    : SweepKind
  deriving DecidableEq, Repr

/-- R174: the step offer. -/
inductive StepOffer where
  | none | offered | inFlight
  deriving DecidableEq, Repr

/-- R174: the start-up sequencer. -/
structure Sequencer where
  device        : DeviceState
  phaseEnd      : Option Time
  modeLoadsDone : Nat
  lanes         : Vector LaneRecord 4
  sweep         : Option Sweep
  staged        : Option (Vector StagedLane 4)
  yielding      : Bool
  stepOffer     : StepOffer
  deriving DecidableEq, Repr

/-! ## What the LC4 sends -/

/-- R172: the device status record, less the fixed family code and revision. -/
structure StatusRecord where
  device   : DeviceState
  epoch    : BitVec 16
  agree    : AgreeState
  counter  : Seq
  attached : HostSet
  park     : HostSet
  standby  : StandbyState
  owed     : Int
  missed   : Nat
  lanes    : Vector LaneRecord 4
  held     : BankSet
  waited   : BankSet
  deriving DecidableEq, Repr

/-- R35, R173: the content of a QUERY_BANK answer. -/
structure BankSnapshot where
  state   : BankState
  row     : Option Row
  mode    : Option LeaseMode
  holders : List (HostId × HolderStatus)
  waiters : List HostId
  deriving DecidableEq, Repr

/-- R190: what a response carries after its status. -/
inductive Payload where
  | none
  | data (bytes : List Byte)
  | number (n : Seq)
  | position (n : Nat)
  | joined (epoch : BitVec 16) (attached : HostSet)
  | status (r : StatusRecord)
  | bank (r : BankSnapshot)
  deriving DecidableEq, Repr

/-- R190: a response. -/
structure Response where
  tag     : Tag
  kind    : ReqKind
  status  : Status
  payload : Payload
  deriving DecidableEq, Repr

/-- R151: a message of the send queue. -/
inductive OutMsg where
  | response (r : Response)
  | note (number : Seq) (n : Notification)
  deriving DecidableEq, Repr

/-- R146: the body of a frame the LC4 sends. -/
inductive FrameBody where
  | idle
  | nak (n : Seq)
  | message (m : OutMsg)
  deriving DecidableEq, Repr

/-- R146: a frame the LC4 sends (its CRC is computed in Machine/Formats.lean). -/
structure Frame where
  seq  : Seq
  ack  : Seq
  body : FrameBody
  deriving DecidableEq, Repr

/-! ## Host links, ports and notification queues (chapters 8 and 9) -/

/-- R145: the link states. -/
inductive LinkState where
  | quiet | listening | up
  deriving DecidableEq, Repr

/-- R145: the receiver states. -/
inductive Receiver where
  | normal | nakSent
  deriving DecidableEq, Repr

/-- R145: a link controller. `nakDue` is the NAK called for and not yet sent (R151), `lastSent` the last
frame put on the wire (log 11, 17). -/
structure Link where
  state        : LinkState
  quietEnd     : Option Time
  idleRun      : Nat
  nextSend     : Seq
  replayBuffer : List (Seq × OutMsg)
  replayCount  : Nat
  replayPos    : Option Seq
  sendQueue    : List OutMsg
  expected     : Seq
  receiver     : Receiver
  silence      : Option Time
  sendTimer    : Option Time
  nakDue       : Option Seq
  lastSent     : Option Frame
  deriving DecidableEq, Repr

/-- R155: the port states. -/
inductive PortState where
  | down | linked | joining | attached | leaving
  deriving DecidableEq, Repr

/-- R164: an entry of a notification queue; it is delivered when it has a number. -/
structure NoteEntry where
  note   : Notification
  number : Option Seq
  deriving DecidableEq, Repr

/-- R164: a notification queue. -/
structure NoteQueue where
  entries  : List NoteEntry
  next     : Seq
  overflow : Bool
  deriving DecidableEq, Repr

/-- Everything the LC4 keeps for one host: link controller, port, tag table (R157), notifications. -/
structure HostSide where
  link  : Link
  port  : PortState
  tags  : Vector (Option ReqKind) 16
  notes : NoteQueue
  deriving DecidableEq, Repr

/-! ## The DRAM -/

/-- The bytes that hosts have written since the DRAM's last reset, addresses strictly rising. A byte that
is not listed has no stored value: it reads as whatever the DRAM gives (R75, log 9). -/
abbrev Memory := List Host.Cell

/-! ## The machine -/

/-- The whole state. `pending` is the queue of waiting commands, first in, first out. -/
structure State where
  pending : List Instr
  now     : Time
  resetN  : Bool
  seq     : Sequencer
  gate    : Gate
  banks   : Vector BankRecord 8
  chan    : Channel
  xfer    : TransferEngine
  account : Account
  agree   : Agreement
  standby : Standby
  hosts   : PerHost HostSide
  dram    : Memory
  dramGen : Nat
  deriving DecidableEq, Repr

/-- The reasons a step can stop with a fault. There is none: the spec gives the LC4 no event that stops
it (a FAULT is a notification, R170; a failed start-up is a device state, R182). -/
inductive Fault where
  deriving DecidableEq, Repr

/-- The reasons a step can be refused. -/
inductive Refusal where
  /-- Raised by `exec` for a command that has no meaning yet. Safe: nothing can be proved of a step that
  is refused. No arm of this model raises it. -/
  | notModelled (mnemonic : String)
  deriving DecidableEq, Repr

/-! ## The reset values -/

/-- R1: a bank record after RESET_N. -/
def BankRecord.reset : BankRecord :=
  { state := .closed, row := none, mode := none, holders := [], waiters := [] }

/-- R70: a bank operation record after RESET_N. -/
def BankOp.reset : BankOp :=
  { openRow := none, inFlight := .none, due := none, pending := .none, setupEnd := none
    setupDone := false, recoveryEnd := none, recoveryDone := false }

/-- R74, R75, R82, R83: the channel controller after RESET_N. -/
def Channel.reset : Channel :=
  { state := .uninit, maint := none, offers := [], first := none, slotEnd := none
    ops := Vector.replicate 8 BankOp.reset, loadedOrder := none
    capture := Vector.replicate 4 none
    dresetN := false, cke := false, csN := true, clockOn := false }

/-- R37: window 0 after RESET_N. -/
def Window.reset : Window :=
  { banks := 0xFF#8, rowLow := 0#14, rowHigh := 16383#14, rights := PerHost.const .readWrite }

/-- R105: the shared configuration after RESET_N. -/
def SharedConfig.reset : SharedConfig :=
  { windows := (Vector.replicate 16 none).set 0 (some Window.reset)
    holdLimit := PerHost.const 250#16, rate := .normal, threshold := 3
    ballotTimeout := 20#8, drainTimeout := 500#16, burstOrder := .linearWrap }

/-- R86: the refresh account after RESET_N. -/
def Account.reset : Account :=
  { owed := 0, timer := none, sinceCal := 0, calDue := false, hold := false, missed := 0
    offer := .none }

/-- R131: the agreement unit after RESET_N. -/
def Agreement.reset : Agreement :=
  { live := SharedConfig.reset, staged := SharedConfig.reset, epoch := 0#16, counter := 0#8
    state := .idle, proposal := none, applyStep := none }

/-- R132, R135: the standby controller after RESET_N. -/
def Standby.reset : Standby :=
  { park := PerHost.const false, state := .running, exitPending := false }

/-- R178: a lane training record after RESET_N. -/
def LaneRecord.reset : LaneRecord := { delay := 0#6, status := .untrained, attempts := 0 }

/-- R174: the start-up sequencer while RESET_N is asserted. -/
def Sequencer.reset : Sequencer :=
  { device := .starting .hold, phaseEnd := none, modeLoadsDone := 0
    lanes := Vector.replicate 4 LaneRecord.reset, sweep := none, staged := none
    yielding := false, stepOffer := .none }

/-- R145: the values a link controller takes at RESET_N and in each DOWN event, with the quiet end given. -/
def Link.down (quietEnd : Option Time) : Link :=
  { state := .quiet, quietEnd := quietEnd, idleRun := 0, nextSend := 0#8, replayBuffer := []
    replayCount := 0, replayPos := none, sendQueue := [], expected := 0#8, receiver := .normal
    silence := none, sendTimer := none, nakDue := none, lastSent := none }

/-- R164: an emptied notification queue whose numbers start again. -/
def NoteQueue.reset : NoteQueue := { entries := [], next := 0#8, overflow := false }

/-- R145, R155, R157, R164: what the LC4 keeps for a host whose link is DOWN. -/
def HostSide.down (quietEnd : Option Time) : HostSide :=
  { link := Link.down quietEnd, port := .down, tags := Vector.replicate 16 none
    notes := NoteQueue.reset }

/-- The machine after RESET_N, while RESET_N is still asserted: every block at its reset values, every
port DOWN, the grant gate holding STARTUP alone (R174), and no command waiting. -/
def State.reset : State :=
  { pending := [], now := 0, resetN := false
    seq := Sequencer.reset
    gate := { startup := true, refresh := false, config := false, standby := false }
    banks := Vector.replicate 8 BankRecord.reset
    chan := Channel.reset
    xfer := { list := [], intake := [] }
    account := Account.reset
    agree := Agreement.reset
    standby := Standby.reset
    hosts := PerHost.const (HostSide.down none)
    dram := []
    dramGen := 0 }

end Sys2Proof.Machine
end

