-- ==== Sys2Proof/Machine/Ops.lean ====
section
/-! DEFINITION. The named operations over the state: reading and replacing one host's side, one bank
record, one bank operation record; answering a request and queueing a notification; adding a gate
reason; making and withdrawing offers; the bytes of the DRAM. -/

namespace Sys2Proof.Machine

/-! ## Reading and replacing a part -/

/-- What the LC4 keeps for host `h`. -/
def State.host (s : State) (h : HostId) : HostSide := s.hosts.get h

/-- The link controller of host `h`. -/
def State.link (s : State) (h : HostId) : Link := (s.host h).link

/-- The port state of host `h`. -/
def State.port (s : State) (h : HostId) : PortState := (s.host h).port

/-- Replace what the LC4 keeps for host `h`. -/
def State.setHost (s : State) (h : HostId) (x : HostSide) : State :=
  { s with hosts := s.hosts.set h x }

/-- Change the link controller of host `h`. -/
def State.modLink (s : State) (h : HostId) (f : Link → Link) : State :=
  s.setHost h { s.host h with link := f (s.host h).link }

/-- Put host `h`'s port in a state (R155). -/
def State.setPort (s : State) (h : HostId) (p : PortState) : State :=
  s.setHost h { s.host h with port := p }

/-- Change the notification queue of host `h`. -/
def State.modNotes (s : State) (h : HostId) (f : NoteQueue → NoteQueue) : State :=
  s.setHost h { s.host h with notes := f (s.host h).notes }

/-- The bank record of bank `b`. -/
def State.bank (s : State) (b : Bank) : BankRecord := s.banks[b.val]

/-- Replace the bank record of bank `b`. -/
def State.setBank (s : State) (b : Bank) (r : BankRecord) : State :=
  { s with banks := s.banks.set b.val r }

/-- The bank operation record of bank `b`. -/
def State.op (s : State) (b : Bank) : BankOp := s.chan.ops[b.val]

/-- Replace the channel controller's state. -/
def State.setChan (s : State) (c : Channel) : State := { s with chan := c }

/-- Replace the bank operation record of bank `b`. -/
def State.setOp (s : State) (b : Bank) (o : BankOp) : State :=
  s.setChan { s.chan with ops := s.chan.ops.set b.val o }

/-- Replace the transfer list. -/
def State.setList (s : State) (l : List Transfer) : State :=
  { s with xfer := { s.xfer with list := l } }

/-- Replace the intake. -/
def State.setIntake (s : State) (l : List TransferReq) : State :=
  { s with xfer := { s.xfer with intake := l } }

/-- Replace the refresh account. -/
def State.setAccount (s : State) (a : Account) : State := { s with account := a }

/-- Replace the agreement unit's state. -/
def State.setAgree (s : State) (a : Agreement) : State := { s with agree := a }

/-- Replace the standby controller's state. -/
def State.setStandby (s : State) (x : Standby) : State := { s with standby := x }

/-- Replace the start-up sequencer's state. -/
def State.setSeq (s : State) (q : Sequencer) : State := { s with seq := q }

/-- Replace the grant gate. -/
def State.setGate (s : State) (g : Gate) : State := { s with gate := g }

/-- Replace the bytes of the DRAM. -/
def State.setDram (s : State) (m : Memory) : State := { s with dram := m }

/-! ## The attached set -/

/-- R155: the attached set is the set of hosts whose port is ATTACHED. -/
def State.attachedSet (s : State) : HostSet :=
  s.hosts.imap fun _ p => decide (p.port = .attached)

/-- R113: a set of hosts less one host. -/
def HostSet.without (t : HostSet) (h : HostId) : HostSet := t.set h false

/-- A set of hosts holds no host. -/
def HostSet.isEmpty (t : HostSet) : Bool := decide (t = PerHost.const false)

/-! ## Answers (R157) and notifications (R165) -/

/-- R157: a request is answered. Its tag returns to FREE, and the answer, carrying the kind recorded with
the tag, joins the tail of the link's send queue. A tag that is FREE names no request, and nothing is
sent (log 22). -/
def answer (h : HostId) (tag : Tag) (st : Status) (p : Payload) (s : State) : State :=
  match (s.host h).tags[tag.val] with
  | none => s
  | some kind =>
    s.setHost h
      { s.host h with
        tags := (s.host h).tags.set tag.val none
        link := { (s.host h).link with
          sendQueue := (s.host h).link.sendQueue ++ [.response ⟨tag, kind, st, p⟩] } }

/-- An answer that carries only its status. -/
def answerStatus (h : HostId) (tag : Tag) (st : Status) (s : State) : State :=
  answer h tag st .none s

/-- R3, R31: answer a tag that may be absent. -/
def answerOpt (h : HostId) (tag : Option Tag) (st : Status) (s : State) : State :=
  match tag with
  | none => s
  | some t => answerStatus h t st s

/-- R165: a notification joins the tail of the list undelivered, or is dropped when the list holds 16
entries, and the overflow flag is set. -/
def NoteQueue.push (q : NoteQueue) (n : Notification) : NoteQueue :=
  if q.entries.length < Config.noteLimit then { q with entries := q.entries ++ [⟨n, none⟩] }
  else { q with overflow := true }

/-- R165: a notification addressed to a host joins its queue; nothing is queued for a DOWN port. -/
def HostSide.notify (p : HostSide) (n : Notification) : HostSide :=
  if p.port = .down then p else { p with notes := p.notes.push n }

/-- R165: queue a notification to one host. -/
def notify (h : HostId) (n : Notification) (s : State) : State :=
  s.setHost h ((s.host h).notify n)

/-- R171: queue a notification, which may differ from host to host, to each host that `f` names. -/
def notifyEach (f : HostId → Option Notification) (s : State) : State :=
  { s with hosts := s.hosts.imap fun h p =>
      match f h with
      | none => p
      | some n => p.notify n }

/-- R171: queue one notification to each host of a set. -/
def notifySet (t : HostSet) (n : Notification) (s : State) : State :=
  notifyEach (fun h => if t.get h then some n else none) s

/-- R171: queue a notification to every host in the attached set. -/
def notifyAttached (n : Notification) (s : State) : State := notifySet s.attachedSet n s

/-! ## The grant gate (R9) -/

/-- R9: the gate holds no reason. -/
def Gate.isEmpty (g : Gate) : Bool := !g.startup && !g.refresh && !g.config && !g.standby

/-- R9: put a reason in or take it out. -/
def Gate.put (g : Gate) (r : GateReason) (v : Bool) : Gate :=
  match r with
  | .startup => { g with startup := v }
  | .refresh => { g with refresh := v }
  | .config => { g with config := v }
  | .standby => { g with standby := v }

/-- R9: a reason is in the gate. -/
def Gate.has (g : Gate) (r : GateReason) : Bool :=
  match r with
  | .startup => g.startup
  | .refresh => g.refresh
  | .config => g.config
  | .standby => g.standby

/-- R9: an owner adds its reason. -/
def addReason (r : GateReason) (s : State) : State := s.setGate (s.gate.put r true)

/-! ## Offers (R69, R80) -/

/-- R69: a requester hands a maintenance operation to the channel controller. -/
def offer (op : MaintOp) (by_ : Requester) (s : State) : State :=
  s.setChan { s.chan with offers := s.chan.offers ++ [⟨op, by_⟩] }

/-- R80: a requester withdraws those of its offers that have not issued. -/
def withdraw (by_ : Requester) (s : State) : State :=
  s.setChan { s.chan with offers := s.chan.offers.filter fun o => decide (o.by_ ≠ by_) }

/-- R77: the command slot after the issue of a bank operation; nothing is first at the bus any more. -/
def startSlot (s : State) : State :=
  s.setChan { s.chan with slotEnd := some (s.now + Config.slotTime), first := none }

/-- R71: the lease table offers ACTIVATE; set-up ends 5 ns later. -/
def requestActivate (b : Bank) (row : Row) (s : State) : State :=
  s.setOp b { s.op b with
    pending := .activate row, setupEnd := some (s.now + Config.setupTime), setupDone := false }

/-- R73: the lease table offers PRECHARGE; set-up ends 5 ns later. -/
def requestPrecharge (b : Bank) (s : State) : State :=
  s.setOp b { s.op b with
    pending := .precharge, setupEnd := some (s.now + Config.setupTime), setupDone := false }

/-! ## The bytes of the DRAM -/

/-- The address of a byte: bank, row, column and byte in ascending order (00_scope section 5, R48). -/
def dramAddress (b : Bank) (row : Row) (col : Column) (byte : Fin 4) : Nat :=
  ((b.val * 16384 + row.toNat) * 1024 + col.toNat) * 4 + byte.val

/-- The byte stored at an address, or none where no host has written since the DRAM's last reset. -/
def Memory.read (m : Memory) (addr : Nat) : Option Byte :=
  match m with
  | [] => none
  | (a, v) :: rest => if a = addr then some v else Memory.read rest addr

/-- Store a byte, keeping the addresses strictly rising. -/
def Memory.write (m : Memory) (addr : Nat) (v : Byte) : Memory :=
  match m with
  | [] => [(addr, v)]
  | (a, w) :: rest =>
    if addr < a then (addr, v) :: (a, w) :: rest
    else if addr = a then (addr, v) :: rest
    else (a, w) :: Memory.write rest addr v

/-- Every listed address is above `lo`, and the addresses rise strictly. -/
def Memory.above (lo : Nat) (m : Memory) : Bool :=
  match m with
  | [] => true
  | (a, _) :: rest => decide (lo < a) && Memory.above a rest

/-- The canonical form: the addresses rise strictly. An unlisted byte has no stored value, so no listed
entry can equal what an unlisted address holds. -/
def Memory.wf (m : Memory) : Bool :=
  match m with
  | [] => true
  | (a, _) :: rest => Memory.above a rest

/-- The byte the DRAM gives at an address: the stored one, or a free byte where no host has written since
the DRAM's last reset (R75, log 9). -/
def State.dramByteAt (s : State) (addr : Nat) : Byte :=
  match Memory.read s.dram addr with
  | some v => v
  | none => Config.dramByte s.dramGen addr

end Sys2Proof.Machine
end

