-- ==== Sys2Proof/Machine/Operands.lean ====
section
/-! DEFINITION. What the operands of the commands mean: bank bytes, the layout of a transfer (R48) and
its burst orders (R49), the range conditions (R50), change items and their validity (R42, R43, R107),
and a host's right under the windows (R38, R39). -/

namespace Sys2Proof.Machine

/-- R12, R23, R53, R173: the bank that a bank byte names, or none above 7. -/
def bankOfByte (x : Byte) : Option Bank :=
  if h : x.toNat < 8 then some ⟨x.toNat, h⟩ else none

/-- R12: the row that a row field names, or none above 16383. -/
def rowOfField (x : BitVec 16) : Option Row :=
  if x.toNat < 16384 then some (x.setWidth 14) else none

/-! ## The layout of a transfer (R48, R49) -/

/-- R48: the first block of a transfer, k = c div 8. -/
def firstBlock (c : Column) : Nat := c.toNat / 8

/-- R48: the starting beat position of burst `i` (counting from 0): c mod 8 for the first burst and 0
for each later one. -/
def startBeat (c : Column) (i : Nat) : BitVec 3 :=
  if i = 0 then c.setWidth 3 else 0#3

/-- R48: the block that burst `i` covers. -/
def burstBlock (c : Column) (i : Nat) : Nat := firstBlock c + i

/-- R49: the column, within its block, of beat `i` of a burst that starts at `s`. -/
def beatColumn (o : BurstOrder) (s i : BitVec 3) : BitVec 3 :=
  match o with
  | .linearWrap => s + i
  | .xorWrap => s ^^^ i

/-- The column of the row that beat `i` of burst `n` of a transfer carries. -/
def transferColumn (o : BurstOrder) (c : Column) (n : Nat) (i : BitVec 3) : Column :=
  BitVec.ofNat 10 (8 * burstBlock c n + (beatColumn o (startBeat c n) i).toNat)

/-- R48, R50: byte `k` of burst `n` of a transfer is byte `k mod 4` of the column of beat `k div 4`. -/
def transferAddress (o : BurstOrder) (b : Bank) (row : Row) (c : Column) (n : Nat) (k : Fin 32) :
    Nat :=
  dramAddress b row (transferColumn o c n (BitVec.ofNat 3 (k.val / 4)))
    ⟨k.val % 4, Nat.mod_lt _ (by decide)⟩

/-- The 32 byte positions of a burst, in transfer order. -/
def burstBytes : List (Fin 32) := List.finRange 32

/-- R50: the three range conditions of a transfer. -/
def rangeError (bursts : Byte) (col : BitVec 16) : Bool :=
  decide (bursts.toNat = 0) || decide (8 < bursts.toNat) || decide (1023 < col.toNat)
    || decide (128 < col.toNat / 8 + bursts.toNat)

/-- R51: the data of a WRITE in transfer order, burst by burst. -/
def payloadData (p : List WriteBurst) : List Byte := p.flatMap fun w => w.data.toList

/-- R51, R189: the enable flags of a WRITE in the order of its bytes. -/
def payloadEnables (p : List WriteBurst) : List Bool :=
  p.flatMap fun w => burstBytes.map fun k => w.enables.getLsbD k.val

/-! ## Rights (R38, R39) -/

/-- R38: NONE, then READ, then READ_WRITE. -/
def Right.rank : Right → Nat
  | .none => 0
  | .read => 1
  | .readWrite => 2

/-- R38: the stronger of two rights. -/
def Right.strongest (x y : Right) : Right := if x.rank ≤ y.rank then y else x

/-- R36: a window covers a bank and row. -/
def Window.covers (w : Window) (b : Bank) (row : Row) : Bool :=
  w.banks.getLsbD b.val && decide (w.rowLow.toNat ≤ row.toNat) &&
    decide (row.toNat ≤ w.rowHigh.toNat)

/-- R38: what one record grants a host on a bank and row; an invalid record grants nothing. -/
def windowRight (w : Option Window) (h : HostId) (b : Bank) (row : Row) : Right :=
  match w with
  | none => .none
  | some w => if w.covers b row then w.rights.get h else .none

/-- R38: the right of a host is the strongest that any window covering the bank and row grants it. -/
def rightOf (c : SharedConfig) (h : HostId) (b : Bank) (row : Row) : Right :=
  c.windows.toList.foldl (fun r w => r.strongest (windowRight w h b row)) .none

/-- R39: a right measured against a lease mode. -/
def Right.enough (r : Right) (m : LeaseMode) : Bool :=
  match r, m with
  | .none, _ => false
  | .read, .shared => true
  | .read, .exclusive => false
  | .readWrite, _ => true

/-! ## Change items (R42, R43, R107, R189) -/

/-- R189: a rights pair; 3 is no right. -/
def rightOfPair (x : BitVec 2) : Option Right :=
  match x.toNat with
  | 0 => some .none
  | 1 => some .read
  | 2 => some .readWrite
  | _ => none

/-- R189: the four rights of a SET_WINDOW, host A in bits 0 and 1. -/
def rightsOfByte (x : Byte) : Option (PerHost Right) :=
  match rightOfPair (x.setWidth 2), rightOfPair ((x >>> 2).setWidth 2),
      rightOfPair ((x >>> 4).setWidth 2), rightOfPair ((x >>> 6).setWidth 2) with
  | some a, some b, some c, some d => some ⟨a, b, c, d⟩
  | _, _, _, _ => none

/-- R107: a window index, or none above 15. -/
def windowIndex (x : Byte) : Option (Fin 16) :=
  if h : x.toNat < 16 then some ⟨x.toNat, h⟩ else none

/-- R185: the host of a port number, or none above 3. -/
def hostOfPort (x : Byte) : Option HostId :=
  match x.toNat with
  | 0 => some .a
  | 1 => some .b
  | 2 => some .c
  | 3 => some .d
  | _ => none

/-- R42: the window that a SET_WINDOW carries, where every check passes. -/
def windowOfItem (x : RawItem) : Option Window :=
  match rowOfField x.valueA, rowOfField x.valueB, rightsOfByte x.rights with
  | some lo, some hi, some rights =>
    if x.bankSet ≠ 0#8 ∧ lo.toNat ≤ hi.toNat then
      some { banks := x.bankSet, rowLow := lo, rowHigh := hi, rights := rights }
    else none
  | _, _, _ => none

/-- R42, R43, R107: a change item read from its fields, or none where it is INVALID. -/
def parseItem (x : RawItem) : Option ChangeItem :=
  match x.kind.toNat with
  | 1 =>
    match windowIndex x.target, windowOfItem x with
    | some i, some w => some (.setWindow i w)
    | _, _ => none
  | 2 => (windowIndex x.target).map .clearWindow
  | 3 => (hostOfPort x.target).map fun h => .setHoldLimit h x.valueA
  | 4 =>
    match x.valueA.toNat with
    | 0 => some (.setRefreshRate .normal)
    | 1 => some (.setRefreshRate .fast)
    | _ => none
  | 5 =>
    if 1 ≤ x.valueA.toNat ∧ x.valueA.toNat ≤ 4 then some (.setThreshold x.valueA.toNat) else none
  | 6 =>
    if 1 ≤ x.valueA.toNat ∧ x.valueA.toNat ≤ 255 then
      some (.setBallotTimeout (x.valueA.setWidth 8)) else none
  | 7 => if x.valueA = 0#16 then none else some (.setDrainTimeout x.valueA)
  | 8 =>
    match x.valueA.toNat with
    | 0 => some (.setBurstOrder .linearWrap)
    | 1 => some (.setBurstOrder .xorWrap)
    | _ => none
  | 9 => some .retrain
  | _ => none

/-- R107: a heavy item. -/
def ChangeItem.heavy : ChangeItem → Bool
  | .setWindow _ _ | .clearWindow _ | .setRefreshRate _ | .setBurstOrder _ | .retrain => true
  | .setHoldLimit _ _ | .setThreshold _ | .setBallotTimeout _ | .setDrainTimeout _ => false

/-- R107, R112: every item read in order, or the position of the first INVALID one. -/
def parseItems (at_ : Nat) (l : List RawItem) : Except Nat (List ChangeItem) :=
  match l with
  | [] => .ok []
  | x :: rest =>
    match parseItem x with
    | none => .error at_
    | some i =>
      match parseItems (at_ + 1) rest with
      | .error n => .error n
      | .ok is => .ok (i :: is)

/-- R42, R43, R105: one item carried out on a record. -/
def applyItem (c : SharedConfig) (i : ChangeItem) : SharedConfig :=
  match i with
  | .setWindow n w => { c with windows := c.windows.set n.val (some w) }
  | .clearWindow n => { c with windows := c.windows.set n.val none }
  | .setHoldLimit h l => { c with holdLimit := c.holdLimit.set h l }
  | .setRefreshRate r => { c with rate := r }
  | .setThreshold t => { c with threshold := t }
  | .setBallotTimeout t => { c with ballotTimeout := t }
  | .setDrainTimeout t => { c with drainTimeout := t }
  | .setBurstOrder o => { c with burstOrder := o }
  | .retrain => c

/-- R108: the items carried out in list order. -/
def applyItems (c : SharedConfig) (l : List ChangeItem) : SharedConfig := l.foldl applyItem c

/-! ## Durations -/

/-- R89: the period of the interval timer at a refresh rate. -/
def intervalOf : RefreshRate → Nat
  | .normal => Config.intervalNormal
  | .fast => Config.intervalFast

/-- R68: the duration of a maintenance operation. -/
def MaintOp.duration : MaintOp → Nat
  | .refresh => Config.refreshTime
  | .shortCal => Config.shortCalTime
  | .longCal => Config.longCalTime
  | .modeLoad _ => Config.modeLoadTime
  | .trainStep _ _ => Config.trainStepTime
  | .standbyEnter => Config.standbyEnterTime
  | .standbyExit => Config.standbyExitTime

/-- R16: the hold deadline of a grant moment, absent where the hold limit is 0. -/
def holdDeadline (now : Time) (limit : BitVec 16) : Option Time :=
  if limit = 0#16 then none else some (now + limit.toNat * Config.us)

/-- R15: the wait deadline of an arrival, absent where the wait limit is 0. -/
def waitDeadline (now : Time) (limit : BitVec 16) : Option Time :=
  if limit = 0#16 then none else some (now + limit.toNat * Config.us)

end Sys2Proof.Machine
end

