-- ==== Sys2Proof/Machine/Flags.lean ====
section
/-! DEFINITION. The conditions the blocks read of each other: all banks closed, queues empty, host idle
on banks (R8), host has no transfer (R61), quiet channel (R78), the account's state (R88), the join,
entry and request conditions (R158, R136, R94), which reactions stand open, and which moments are due. -/

namespace Sys2Proof.Machine

/-- A moment that is present has come. -/
def due (now : Time) (t : Option Time) : Bool :=
  match t with
  | none => false
  | some t => decide (t ≤ now)

/-! ## The lease table -/

/-- The holder entry of a host on a bank, if there is one. -/
def BankRecord.holder (r : BankRecord) (h : HostId) : Option Holder :=
  r.holders.find? fun x => decide (x.host = h)

/-- The waiter entry of a host on a bank, if there is one. -/
def BankRecord.waiter (r : BankRecord) (h : HostId) : Option Waiter :=
  r.waiters.find? fun x => decide (x.host = h)

/-- R3: the bank is one of the host's held banks. -/
def State.holds (s : State) (h : HostId) (b : Bank) : Bool := ((s.bank b).holder h).isSome

/-- R4: the bank is one of the host's waited banks. -/
def State.waits (s : State) (h : HostId) (b : Bank) : Bool := ((s.bank b).waiter h).isSome

/-- R185: a set of banks as one byte. -/
def bankSetOf (p : Bank → Bool) : BankSet :=
  allBanks.foldl (fun acc b => if p b then acc ||| (1#8 <<< b.val) else acc) 0#8

/-- R3, R172: the held banks of a host. -/
def State.heldBanks (s : State) (h : HostId) : BankSet := bankSetOf (s.holds h)

/-- R4, R172: the waited banks of a host. -/
def State.waitedBanks (s : State) (h : HostId) : BankSet := bankSetOf (s.waits h)

/-- R8: every bank record is CLOSED. -/
def State.allClosed (s : State) : Bool := allBanks.all fun b => decide ((s.bank b).state = .closed)

/-- R8: every wait queue is empty. -/
def State.queuesEmpty (s : State) : Bool := allBanks.all fun b => (s.bank b).waiters.isEmpty

/-- R8: the host has no holder entry and no waiter entry on any bank. -/
def State.idleOnBanks (s : State) (h : HostId) : Bool :=
  allBanks.all fun b => !s.holds h b && !s.waits h b

/-! ## The transfer engine (R61) -/

/-- R61: the list holds no entry of the host with this bank. -/
def State.noTransferOn (s : State) (h : HostId) (b : Bank) : Bool :=
  s.xfer.list.all fun e => !(decide (e.host = h) && decide (e.bank = b))

/-- R61: the list holds no entry and the intake no request of the host. -/
def State.noTransfer (s : State) (h : HostId) : Bool :=
  (s.xfer.list.all fun e => !decide (e.host = h)) &&
    (s.xfer.intake.all fun e => !decide (e.host = h))

/-- R61: the list holds no entry. -/
def State.listEmpty (s : State) : Bool := s.xfer.list.isEmpty

/-! ## The refresh account (R88) -/

/-- R88: the account is PRESSED or FORCING. Above the force limit the account is FORCING, and the
threshold never exceeds the limit, so one comparison says both. -/
def State.pressed (s : State) : Bool :=
  s.account.timer.isSome &&
    (decide ((s.agree.live.threshold : Int) ≤ s.account.owed) ||
      decide (Config.forceLimit ≤ s.account.owed))

/-- R94: the request condition, in which the account makes an offer. -/
def State.refreshWanted (s : State) : Bool :=
  s.account.timer.isSome && decide (s.account.offer = .none) && s.allClosed &&
    (s.account.calDue || decide (1 ≤ s.account.owed) ||
      (decide (-4 < s.account.owed) && s.queuesEmpty && s.listEmpty))

/-! ## The channel (R70, R77, R78) -/

/-- R70: an idle bank operation record. -/
def BankOp.idle (o : BankOp) : Bool :=
  decide (o.inFlight = .none) && decide (o.pending = .none) && decide (o.openRow = none)

/-- R78: the channel is quiet. -/
def State.quiet (s : State) : Bool :=
  s.allClosed && (allBanks.all fun b => (s.op b).idle) && !s.gate.isEmpty

/-- R77: the command bus is free: no maintenance operation in flight and no command slot running. -/
def State.busFree (s : State) : Bool := s.chan.maint.isNone && s.chan.slotEnd.isNone

/-- R70: a maintenance operation of this kind waits for the bus. -/
def State.offered (s : State) (op : MaintOp) : Bool := s.chan.offers.any fun o => decide (o.op = op)

/-- R74: this maintenance operation is in flight. -/
def State.inFlight (s : State) (op : MaintOp) : Bool :=
  match s.chan.maint with
  | none => false
  | some m => decide (m.offer.op = op)

/-- R74: the completion of the maintenance operation in flight has come. -/
def State.maintDue (s : State) : Bool :=
  match s.chan.maint with
  | none => false
  | some m => decide (m.due ≤ s.now)

/-- R77: the channel state allows an offer. -/
def State.channelAllows (s : State) (o : Offer) : Bool :=
  match s.chan.state with
  | .uninit => decide (o.by_ = .sequencer)
  | .active => decide (o.op ≠ .standbyExit)
  | .maintenance => false
  | .selfRefresh => decide (o.op = .standbyExit)

/-- R68, R77, R78: a maintenance offer is eligible. -/
def State.maintEligible (s : State) (o : Offer) : Bool := s.quiet && s.channelAllows o

/-- R79: the rank of a maintenance offer. A sequencer's step ranks first while the device is STARTING and
fifth while it is READY. -/
def State.rank (s : State) (o : Offer) : Nat :=
  match o.op, o.by_ with
  | .standbyExit, _ => 2
  | .refresh, _ => 3
  | .shortCal, _ => 4
  | .standbyEnter, _ => 6
  | .modeLoad _, .agreement => 5
  | .modeLoad _, _ => 1
  | .longCal, _ => 1
  | .trainStep _ _, _ => if s.seq.device = .ready then 5 else 1

/-- R71: a pending ACTIVATE is eligible. -/
def BankOp.activateEligible (o : BankOp) : Bool :=
  match o.pending with
  | .activate _ => o.setupDone && decide (o.openRow = none) && decide (o.inFlight = .none)
  | _ => false

/-- R73: a pending PRECHARGE is eligible. -/
def BankOp.prechargeEligible (o : BankOp) : Bool :=
  match o.pending with
  | .precharge => o.setupDone && o.openRow.isSome && decide (o.inFlight = .none) &&
      (o.recoveryEnd.isNone || o.recoveryDone)
  | _ => false

/-- R57: a transfer entry still has a burst not yet issued. -/
def Transfer.unissued (e : Transfer) : Bool := decide (e.issued < e.bursts)

/-- R57: the next burst of an entry, with the entries that stand before it, is a burst candidate: the
entry is its host's lead entry on the bank, the bank is OPEN, and the host is a holder. -/
def State.burstCandidate (s : State) (before : List Transfer) (e : Transfer) : Bool :=
  e.unissued &&
    (before.all fun x =>
      !(decide (x.host = e.host) && decide (x.bank = e.bank) && x.unissued)) &&
    decide ((s.bank e.bank).state = .opened) && s.holds e.host e.bank

/-- R72: a burst offer is eligible: its row is open and the bank has nothing pending or in flight. -/
def BankOp.burstEligible (o : BankOp) (row : Row) : Bool :=
  decide (o.openRow = some row) && decide (o.pending = .none) && decide (o.inFlight = .none)

/-- R57, R72: the next burst of the entry at a position is a burst candidate and eligible. -/
def State.burstReadyAt (s : State) (i : Nat) : Bool :=
  match s.xfer.list[i]? with
  | none => false
  | some e => s.burstCandidate (s.xfer.list.take i) e && (s.op e.bank).burstEligible e.row

/-- R79 rank 9: the position of the oldest entry whose burst is eligible. -/
def State.burstChoice (s : State) : Option Nat :=
  (List.range s.xfer.list.length).find? fun i => s.burstReadyAt i

/-- The position of the entry whose burst is eligible and is a host's on a bank: there is one at most
(R57). -/
def State.burstOf (s : State) (h : HostId) (b : Bank) : Option Nat :=
  (List.range s.xfer.list.length).find? fun i =>
    s.burstReadyAt i &&
      (s.xfer.list[i]?.any fun e => decide (e.host = h) && decide (e.bank = b))

/-- R83: the delay with which a lane captures: the step's while a training step on the lane is in flight,
and its capture delay otherwise. -/
def State.capturesWith (s : State) (lane : Lane) : Option Delay :=
  match s.chan.maint with
  | some ⟨⟨.trainStep l d, _⟩, _⟩ => if l = lane then some d else s.chan.capture[lane.val]
  | _ => s.chan.capture[lane.val]

/-! ## Holders and waiters that are ready to leave or to be served -/

/-- R21: a CLOSING holder of an OPEN bank has no transfer left. -/
def State.closeReady (s : State) (b : Bank) (h : HostId) : Bool :=
  match (s.bank b).holder h with
  | none => false
  | some x => decide (x.status = .closing) && decide ((s.bank b).state = .opened) &&
      s.noTransferOn h b

/-- R30: a REVOKING holder of an OPEN bank has no transfer left. -/
def State.revokeReady (s : State) (b : Bank) (h : HostId) : Bool :=
  match (s.bank b).holder h with
  | none => false
  | some x => (match x.status with | .revoking _ => true | _ => false) &&
      decide ((s.bank b).state = .opened) && s.noTransferOn h b

/-- R17: the bank's queue can be served. -/
def State.serveReady (s : State) (b : Bank) : Bool :=
  decide ((s.bank b).state = .closed) && !(s.bank b).waiters.isEmpty && s.gate.isEmpty

/-- R56: the transfer list has room and the intake is not empty. -/
def State.intakeReady (s : State) : Bool :=
  decide (s.xfer.list.length < Config.transferLimit) && !s.xfer.intake.isEmpty

/-! ## Attachment, agreement and standby -/

/-- R158: the join condition. -/
def State.joinCondition (s : State) : Bool :=
  decide (s.seq.device = .ready) && decide (s.agree.state = .idle) &&
    decide (s.standby.state = .running)

/-- R158: the join condition holds and some port is JOINING. -/
def State.joinReady (s : State) : Bool :=
  s.joinCondition && allHosts.any fun h => decide (s.port h = .joining)

/-- R160: a LEAVING host is idle on banks and has no transfer. -/
def State.leaveReady (s : State) (h : HostId) : Bool :=
  decide (s.port h = .leaving) && s.idleOnBanks h && s.noTransfer h

/-- R123: all banks are closed while DRAINING. -/
def State.drainReady (s : State) : Bool := decide (s.agree.state = .draining) && s.allClosed

/-- R125: the apply stands at its commit. -/
def State.commitReady (s : State) : Bool :=
  decide (s.agree.state = .applying) && decide (s.agree.applyStep = some .commit)

/-- R136: the entry condition. -/
def State.entryCondition (s : State) : Bool :=
  decide (s.standby.state = .running) &&
    (allHosts.all fun h => !decide (s.port h = .attached) || s.standby.park.get h) &&
    (allHosts.all fun h => !decide (s.port h = .joining)) &&
    decide (s.agree.state = .idle) && decide (s.seq.device = .ready) &&
    decide (s.chan.state ≠ .maintenance)

/-- R137: while ENTERING, all banks are closed and STANDBY_ENTER has not been offered. -/
def State.enterOfferReady (s : State) : Bool :=
  decide (s.standby.state = .entering) && s.allClosed && !s.offered .standbyEnter &&
    !s.inFlight .standbyEnter

/-! ## Notification queues (R166) -/

/-- R166: how many entries are delivered. -/
def NoteQueue.delivered (q : NoteQueue) : Nat := (q.entries.filter fun e => e.number.isSome).length

/-- A message of the send queue is a notification. -/
def OutMsg.isNote : OutMsg → Bool
  | .response _ => false
  | .note _ _ => true

/-- R166: how many of the host's notifications wait in the send queue. -/
def Link.notesWaiting (l : Link) : Nat := (l.sendQueue.filter OutMsg.isNote).length

/-- R150: how many responses wait in the send queue. -/
def Link.responsesWaiting (l : Link) : Nat := (l.sendQueue.filter fun m => !m.isNote).length

/-- R166: the queue delivers its oldest undelivered entry. -/
def HostSide.deliverReady (p : HostSide) : Bool :=
  (p.notes.entries.any fun e => e.number.isNone) &&
    decide (p.notes.delivered < Config.noteWindow) &&
    decide (p.link.notesWaiting < Config.noteWindow)

/-! ## The arbiter (R77, R79, R81) -/

/-- R81 (log 23): a reaction that the rules place in the event of its cause is still to be taken, so the
maintenance offers of that event are not all present yet. -/
def State.reactionOpen (s : State) : Bool :=
  (allBanks.any fun b => s.serveReady b ||
    allHosts.any fun h => s.closeReady b h || s.revokeReady b h) ||
    s.intakeReady || s.drainReady || s.commitReady || s.entryCondition || s.enterOfferReady ||
    s.refreshWanted

/-- What the arbiter may take. -/
inductive BusChoice where
  | maint (o : Offer)
  | precharge (b : Bank)
  | activate (b : Bank)
  | burst (i : Nat)
  deriving DecidableEq, Repr

/-- R79 ranks 1 to 6: the first eligible maintenance offer; within a rank the older offer first. -/
def State.maintChoice (s : State) : Option Offer :=
  [1, 2, 3, 4, 5, 6].findSome? fun r =>
    s.chan.offers.find? fun o => s.maintEligible o && decide (s.rank o = r)

/-- R77: bank operations issue in ACTIVE. -/
def State.bankOpsAllowed (s : State) : Bool := decide (s.chan.state = .active)

/-- R79 ranks 7 to 9: the bank operation that ranks first: a PRECHARGE, then an ACTIVATE, of the lowest
bank, then the oldest burst. -/
def State.bankChoice (s : State) : Option BusChoice :=
  if s.bankOpsAllowed then
    match allBanks.find? fun b => (s.op b).prechargeEligible with
    | some b => some (.precharge b)
    | none =>
      match allBanks.find? fun b => (s.op b).activateEligible with
      | some b => some (.activate b)
      | none => s.burstChoice.map .burst
  else none

/-- R79: the operation that ranks first. While a reaction is open no maintenance offer is chosen: the
reaction may bring one that ranks before it. A bank operation need not wait, since no reaction brings
one that could be chosen at once before it (log 23). -/
def State.rankChoice (s : State) : Option BusChoice :=
  match if s.reactionOpen then none else s.maintChoice with
  | some o => some (.maint o)
  | none => s.bankChoice

/-- What a claim is now, if it is still eligible. -/
def State.claimed (s : State) (c : Claim) : Option BusChoice :=
  match c with
  | .maint o => if o ∈ s.chan.offers ∧ s.maintEligible o then some (.maint o) else none
  | .precharge b =>
    if s.bankOpsAllowed && (s.op b).prechargeEligible then some (.precharge b) else none
  | .activate b =>
    if s.bankOpsAllowed && (s.op b).activateEligible then some (.activate b) else none
  | .burst h b => if s.bankOpsAllowed then (s.burstOf h b).map .burst else none

/-- R81: the operation that an earlier event of the present moment left first at the free bus, if it is
still eligible. -/
def State.firstChoice (s : State) : Option BusChoice :=
  match s.chan.first with
  | none => none
  | some f => if f.moment = s.now then s.claimed f.what else none

/-- R77, R79, R81: what the arbiter takes: on a free bus, the operation that an earlier event of the
moment left first, and otherwise the one that ranks first. -/
def State.arbiter (s : State) : Option BusChoice :=
  if s.busFree then
    match s.firstChoice with
    | some c => some c
    | none => s.rankChoice
  else none

/-- The claim of what the arbiter would take. -/
def State.claimOf (s : State) (c : BusChoice) : Option Claim :=
  match c with
  | .maint o => some (.maint o)
  | .precharge b => some (.precharge b)
  | .activate b => some (.activate b)
  | .burst i => s.xfer.list[i]?.map fun e => .burst e.host e.bank

/-- R81: what is first at the bus now, to be kept while an event acts that may make an operation eligible
that ranks before it. -/
def State.firstClaim (s : State) : Option FirstClaim :=
  (s.arbiter.bind s.claimOf).map fun c => { moment := s.now, what := c }

/-- R81 (log 23): two operations that become eligible in different events with the bus free are taken in
the order of those events: what the arbiter would take before an event keeps its place through it. -/
def keepPlace (s : State) : State := s.setChan { s.chan with first := s.firstClaim }

/-! ## Moments (log 2) -/

/-- A moment of bank `b` has come and its event has not been taken. -/
def State.bankTimerDue (s : State) (b : Bank) : Bool :=
  ((s.bank b).holders.any fun x => due s.now x.deadline) ||
    ((s.bank b).waiters.any fun x => due s.now x.deadline) ||
    due s.now (s.op b).due || (due s.now (s.op b).setupEnd && !(s.op b).setupDone) ||
    (due s.now (s.op b).recoveryEnd && !(s.op b).recoveryDone)

/-- A moment of the proposal has come. -/
def State.proposalTimerDue (s : State) : Bool :=
  match s.agree.proposal with
  | none => false
  | some p => due s.now p.ballotDeadline || due s.now p.drainDeadline

/-- A moment has come whose event has not been taken. -/
def State.timerDue (s : State) : Bool :=
  due s.now s.seq.phaseEnd || due s.now s.account.timer || s.proposalTimerDue ||
    due s.now s.chan.slotEnd || s.maintDue ||
    (allBanks.any fun b => s.bankTimerDue b) ||
    (allHosts.any fun h => due s.now (s.link h).silence || due s.now (s.link h).quietEnd)

/-- Something is still to happen at this moment: a timer's event, a reaction, a delivery, a port's join
or leave, or an issue. The clock stands until it has been taken (log 2). -/
def State.timeHeld (s : State) : Bool :=
  s.timerDue || s.reactionOpen || s.joinReady || s.arbiter.isSome ||
    (allHosts.any fun h => s.leaveReady h || (s.host h).deliverReady)

end Sys2Proof.Machine
end

