-- ==== Sys2Proof/Machine/LeaseOps.lean ====
section
/-! DEFINITION. The shared operations of the lease table: making and removing holder and waiter entries,
granting, serving a queue when the gate opens, closing and revoking a holder with the cancellations the
transfer engine makes in the same event, the checks of a transfer and the intake, mass revocation, and the
release of a host's entries. -/

namespace Sys2Proof.Machine

/-! ## Entries -/

/-- Replace the holder entry of one host in a list of entries. -/
def replaceHolder (l : List Holder) (h : HostId) (x : Holder) : List Holder :=
  l.map fun y => if y.host = h then x else y

/-- Replace the holder entry of a host on a bank. -/
def setHolder (b : Bank) (h : HostId) (x : Holder) (s : State) : State :=
  s.setBank b { s.bank b with holders := replaceHolder (s.bank b).holders h x }

/-- A holder entry as it is made at grant (R3): ACTIVE, not answered, not overstayed. -/
def Holder.granted (h : HostId) (tag : Tag) : Holder :=
  { host := h, grantTag := tag, answered := false, deadline := none, overstayed := false
    status := .active, closeTag := none }

/-- R16: the grant moment: the entry is marked answered and takes its hold deadline. -/
def Holder.atGrantMoment (x : Holder) (now : Time) (limit : BitVec 16) : Holder :=
  { x with answered := true, deadline := holdDeadline now limit }

/-- R24: a bank record whose holder list has become `l`: with an empty list an OPEN bank goes
PRECHARGING, its mode absent and its row kept. -/
def BankRecord.afterRemoval (r : BankRecord) (l : List Holder) : BankRecord :=
  if l.isEmpty then { r with holders := l, mode := none, state := .precharging }
  else { r with holders := l }

/-- R24: remove a holder entry from an OPEN bank; with the last one the bank precharges. -/
def removeHolder (b : Bank) (h : HostId) (s : State) : State :=
  let l := (s.bank b).holders.filter fun x => !decide (x.host = h)
  let s' := s.setBank b ((s.bank b).afterRemoval l)
  if l.isEmpty then requestPrecharge b s' else s'

/-- R20: a waiter entry leaves its queue; the entries behind it keep their order. What was first at the
bus keeps its place before the REFRESH that the shorter queue may bring (R81, R94). -/
def removeWaiter (b : Bank) (h : HostId) (s : State) : State :=
  (keepPlace s).setBank b { s.bank b with waiters := (s.bank b).waiters.filter fun x => !decide (x.host = h) }

/-- R20: a waiter is removed and its OPEN answered with the status of the cause. -/
def withdrawWaiter (b : Bank) (h : HostId) (st : Status) (s : State) : State :=
  match (s.bank b).waiter h with
  | none => s
  | some w => answerStatus h w.tag st (removeWaiter b h s)

/-! ## Granting (R14, R17) -/

/-- R2: a grant gives a CLOSED bank its row, mode and holders; the bank goes ACTIVATING and ACTIVATE is
requested. -/
def grant (b : Bank) (row : Row) (mode : LeaseMode) (holders : List Holder) (waiters : List Waiter)
    (s : State) : State :=
  requestActivate b row
    (s.setBank b { state := .activating, row := some row, mode := some mode, holders := holders
                   waiters := waiters })

/-- R17: the waiters granted with a head: a SHARED head takes along each waiter directly behind it that
is SHARED on the same row. -/
def grantBatch (head : Waiter) (rest : List Waiter) : List Waiter :=
  match head.mode with
  | .exclusive => [head]
  | .shared => head :: rest.takeWhile fun w => decide (w.mode = .shared) && decide (w.row = head.row)

/-- R17: serve a bank's queue when the bank is CLOSED, the queue is not empty and the gate is empty. -/
def serveBank (b : Bank) (s : State) : State :=
  if s.serveReady b then
    match (s.bank b).waiters with
    | [] => s
    | head :: rest =>
      let batch := grantBatch head rest
      grant b head.row head.mode (batch.map fun w => Holder.granted w.host w.tag)
        ((head :: rest).drop batch.length) s
  else s

/-- R11: serve every CLOSED bank with waiters. -/
def serveAll (s : State) : State := allBanks.foldl (fun s b => serveBank b s) s

/-- R9, R11: an owner removes its reason; when the gate becomes empty the queues are served. -/
def removeReason (r : GateReason) (s : State) : State :=
  let s' := s.setGate (s.gate.put r false)
  if !s.gate.isEmpty && s'.gate.isEmpty then serveAll s' else s'

/-! ## Transfers: acceptance and the intake (R53, R55, R56) -/

/-- R55: the entry of an accepted transfer. -/
def TransferReq.entry (q : TransferReq) (b : Bank) (row : Row) : Transfer :=
  { host := q.host, tag := q.tag, kind := q.kind, bank := b, row := row, col := q.col.setWidth 10
    bursts := q.bursts.toNat, issued := 0, completed := 0, cancelled := false
    data := q.data, enables := q.enables }

/-- R53: the checks of a READ or WRITE, in order: the status that refuses it, or none. -/
def transferRefusal (q : TransferReq) (r : BankRecord) : Option Status :=
  match r.holder q.host with
  | none => some .notHeld
  | some x =>
    match x.status with
    | .closing => some .closing
    | .revoking _ => some .revoked
    | .active =>
      if q.kind = .write ∧ r.mode = some .shared then some .mode
      else if rangeError q.bursts q.col then some .range
      else none

/-- R53, R55: a READ or WRITE is checked as things stand, and refused or appended. -/
def checkTransfer (q : TransferReq) (s : State) : State :=
  match bankOfByte q.bank with
  | none => answerStatus q.host q.tag .range s
  | some b =>
    match transferRefusal q (s.bank b) with
    | some st => answerStatus q.host q.tag st s
    | none => s.setList (s.xfer.list ++ [q.entry b ((s.bank b).row.getD 0#14)])

/-- R56: the oldest request in the intake is taken, checked as things stand, and refused or appended. -/
def takeFromIntake (s : State) : State :=
  if s.intakeReady then
    match s.xfer.intake with
    | [] => s
    | q :: rest => checkTransfer q (s.setIntake rest)
  else s

/-- R56: the intake is taken from, oldest first, until the list is full or the intake is empty. An event that
takes entries out of the list ends with this (log 35). -/
def takeIntake (s : State) : State := s.xfer.intake.foldl (fun s _ => takeFromIntake s) s

/-! ## Leaving: CLOSE, revocation, and the end of both -/

/-- R21, R30: a CLOSING or REVOKING holder of an OPEN bank whose host has no transfer left on the bank is
removed. A recorded CLOSE is answered OK, and a revocation queues LEASE_REVOKED; a lost host is told
nothing. -/
def finishHolder (b : Bank) (h : HostId) (s : State) : State :=
  match (s.bank b).holder h with
  | none => s
  | some x =>
    if (s.bank b).state = .opened ∧ s.noTransferOn h b then
      match x.status with
      | .active => s
      | .closing => answerOpt h x.closeTag .ok (removeHolder b h s)
      | .revoking .hostLost => removeHolder b h s
      | .revoking r =>
        answerOpt h x.closeTag .ok (notify h (.leaseRevoked b r) (removeHolder b h s))
    else s

/-- R62, R63: the entry is one of the host on the bank that has not begun. -/
def Transfer.unbegunOf (e : Transfer) (h : HostId) (b : Bank) : Bool :=
  decide (e.host = h) && decide (e.bank = b) && decide (e.issued = 0)

/-- R63: set cancelled on the entries of the host on the bank. -/
def markCancelled (l : List Transfer) (h : HostId) (b : Bank) : List Transfer :=
  l.map fun e => if e.host = h ∧ e.bank = b then { e with cancelled := true } else e

/-- R62: every entry of the host on the bank that has not begun is removed and answered REVOKED, in list
order (log 10). -/
def cancelUnbegun (b : Bank) (h : HostId) (s : State) : State :=
  let gone := s.xfer.list.filter fun e => e.unbegunOf h b
  let s' := s.setList (s.xfer.list.filter fun e => !e.unbegunOf h b)
  gone.foldl (fun s e => answerStatus h e.tag .revoked s) s'

/-- R63: for a lost host the entries that have not begun go without an answer, and those that have begun
are marked cancelled. -/
def cancelLost (b : Bank) (h : HostId) (s : State) : State :=
  s.setList (markCancelled (s.xfer.list.filter fun e => !e.unbegunOf h b) h b)

/-- R29, R32, R62, R63: revoke one holder. A REVOKING holder is left alone, but that HOST_LOST replaces
its reason. -/
def revoke (b : Bank) (h : HostId) (r : RevokeReason) (s : State) : State :=
  match (s.bank b).holder h with
  | none => s
  | some x =>
    match r, x.status with
    | .hostLost, _ =>
      finishHolder b h (cancelLost b h
        (setHolder b h { x with status := .revoking .hostLost, deadline := none } s))
    | _, .revoking _ => s
    | r, _ =>
      finishHolder b h (cancelUnbegun b h
        (setHolder b h { x with status := .revoking r, deadline := none } s))

/-- R21, R22: an ACTIVE holder goes CLOSING; its hold deadline is cancelled and the close tag recorded. On
an OPEN bank with no transfer left the close finishes in the same event. -/
def closeHolder (b : Bank) (h : HostId) (closeTag : Option Tag) (s : State) : State :=
  match (s.bank b).holder h with
  | none => s
  | some x =>
    finishHolder b h
      (setHolder b h { x with status := .closing, deadline := none, closeTag := closeTag } s)

/-- R15, R27: every ACTIVE overstayed holder of the bank is revoked HOLD_EXPIRED. -/
def revokeOverstayed (b : Bank) (s : State) : State :=
  let late := (s.bank b).holders.filter fun x => decide (x.status = .active) && x.overstayed
  if late.isEmpty then s
  else takeIntake (late.foldl (fun s x => revoke b x.host .holdExpired s) s)

/-- R33: every holder on every bank whose status is ACTIVE or CLOSING is revoked. -/
def massRevoke (r : RevokeReason) (s : State) : State :=
  takeIntake (allBanks.foldl
    (fun s b => (s.bank b).holders.foldl (fun s x => revoke b x.host r s) s) s)

/-- R34, for LEAVE: the host's waiters are answered WITHDRAWN, and its ACTIVE holders made CLOSING with
no close tag. -/
def withdrawAndClose (h : HostId) (s : State) : State :=
  allBanks.foldl
    (fun s b =>
      let s' := withdrawWaiter b h .withdrawn s
      match (s'.bank b).holder h with
      | none => s'
      | some x => if x.status = .active then closeHolder b h none s' else s') s

/-- R34: a waiter of a lost host leaves its queue without an answer. -/
def dropWaiter (b : Bank) (h : HostId) (s : State) : State :=
  if s.waits h b then removeWaiter b h s else s

/-- R34, for a lost host: its waiters go without an answer and its holders are revoked HOST_LOST; the
transfer engine discards its requests in the intake (R63). -/
def tearDown (h : HostId) (s : State) : State :=
  allBanks.foldl (fun s b => revoke b h .hostLost (dropWaiter b h s))
    (s.setIntake (s.xfer.intake.filter fun e => !decide (e.host = h)))

/-! ## Activation completion (R19) -/

/-- R19: one holder of a bank whose activation has just completed, dealt with by its status. -/
def settleHolder (b : Bank) (h : HostId) (s : State) : State :=
  match (s.bank b).holder h with
  | none => s
  | some x =>
    match x.status with
    | .active =>
      answerStatus h x.grantTag .ok
        (setHolder b h (x.atGrantMoment s.now (s.agree.live.holdLimit.get h)) s)
    | .closing =>
      finishHolder b h
        (answerStatus h x.grantTag .withdrawn (setHolder b h { x with answered := true } s))
    | .revoking .hostLost => removeHolder b h s
    | .revoking _ =>
      answerOpt h x.closeTag .ok (answerStatus h x.grantTag .revoked (removeHolder b h s))

/-- R19: the bank goes OPEN and its holders are dealt with in grant order. -/
def completeActivation (b : Bank) (s : State) : State :=
  let s' := s.setBank b { s.bank b with state := .opened }
  (s.bank b).holders.foldl (fun s x => settleHolder b x.host s) s'

/-- R24: the bank goes CLOSED, its row absent, and its queue is served. -/
def completePrecharge (b : Bank) (s : State) : State :=
  serveBank b (s.setBank b { s.bank b with state := .closed, row := none })

/-! ## The waiter recheck (R44) -/

/-- R44: a waiter whose host's right on the bank and row is no longer enough for its mode. -/
def waiterShort (c : SharedConfig) (b : Bank) (w : Waiter) : Bool :=
  !(rightOf c w.host b w.row).enough w.mode

/-- R44: every waiter on every bank whose right is no longer enough is removed, and its OPEN answered
NO_RIGHT. -/
def recheckWaiters (s : State) : State :=
  allBanks.foldl
    (fun s b =>
      (s.bank b).waiters.foldl
        (fun s w => if waiterShort s.agree.live b w then withdrawWaiter b w.host .noRight s else s) s) s

end Sys2Proof.Machine
end

