-- ==== Sys2Proof/Machine/UnitOps.lean ====
section
/-! DEFINITION. The shared operations of the refresh account, start-up sequencer, agreement unit, standby
controller and attachment unit: pressure and yielding, offering a step, ballots and their ends, the
steps of an apply, exit causes, joins, detaches and a link going DOWN. -/

namespace Sys2Proof.Machine

/-! ## The sweep and the refresh account (R91, R94, R180) -/

/-- R179, R180: offer the sweep's next step, or yield while the account is PRESSED or FORCING. -/
def offerStep (s : State) : State :=
  match s.seq.sweep with
  | none => s
  | some w =>
    if s.pressed then s.setSeq { s.seq with yielding := true, stepOffer := .none }
    else offer (.trainStep w.lane w.delay) .sequencer
      (s.setSeq { s.seq with yielding := false, stepOffer := .offered })

/-- R180: the sweep yields, withdrawing a step not yet issued, while the account is PRESSED or FORCING,
and offers the kept step when it no longer is. -/
def judgeYield (s : State) : State :=
  if s.seq.sweep.isNone then s
  else if s.pressed then
    if s.seq.stepOffer = .offered then
      withdraw .sequencer (s.setSeq { s.seq with yielding := true, stepOffer := .none })
    else s
  else if s.seq.yielding then offerStep s
  else s

/-- R91, R117: CLOSE_REQUESTED to each host with at least one held bank. -/
def askToClose (r : CloseReason) (s : State) : State :=
  notifyEach
    (fun h => if s.heldBanks h = 0#8 then none else some (.closeRequested r (s.heldBanks h))) s

/-- R91: the account enters PRESSED or FORCING while its pressure hold is no. -/
def enterPressed (s : State) : State :=
  askToClose .refresh (addReason .refresh (s.setAccount { s.account with hold := true }))

/-- R88, R91, R93, R180: the account's state is judged anew: a pressure hold begins, and the sweep yields
or goes on. -/
def judgeAccount (s : State) : State :=
  judgeYield (if s.pressed ∧ s.account.hold = false then enterPressed s else s)

/-- R94: the account adds REFRESH and offers SHORT_CAL if a calibration is due, REFRESH otherwise. -/
def makeAccountOffer (s : State) : State :=
  if s.account.calDue then
    offer .shortCal .account
      (addReason .refresh (s.setAccount { s.account with offer := .shortCal }))
  else
    offer .refresh .account
      (addReason .refresh (s.setAccount { s.account with offer := .refresh }))

/-- R98: what the account does after each completion of its own. -/
def afterAccountOp (s : State) : State :=
  if s.account.calDue then makeAccountOffer s
  else if s.account.hold then
    if 1 ≤ s.account.owed then makeAccountOffer s
    else removeReason .refresh (s.setAccount { s.account with hold := false })
  else removeReason .refresh s

/-! ## The agreement unit -/

/-- R116, R128, R129: the proposal is resolved: PROPOSAL_RESOLVED goes to the attached set with the epoch
as it stands, the unit returns to IDLE and the record is discarded. -/
def resolveProposal (o : ProposalOutcome) (s : State) : State :=
  match s.agree.proposal with
  | none => s
  | some p =>
    let s' := notifyAttached (.proposalResolved p.number o s.agree.epoch) s
    s'.setAgree { s'.agree with state := .idle, proposal := none, applyStep := none }

/-- R105, R106: the staged record becomes live and the epoch rises by one. -/
def makeLive (s : State) : State :=
  s.setAgree { s.agree with live := s.agree.staged, epoch := s.agree.epoch + 1#16 }

/-- R116: a light proposal is applied. That the refresh account judges a new threshold after
PROPOSAL_RESOLVED is queued is the model's choice, as in a heavy commit (log 32). -/
def applyLight (s : State) : State := judgeAccount (resolveProposal .applied (makeLive s))

/-- R129: a proposal is abandoned. -/
def abandon (r : AbandonReason) (s : State) : State :=
  resolveProposal (.abandoned r)
    (removeReason .config (s.setAgree { s.agree with staged := s.agree.live }))

/-- R179: an attempt on a lane begins: at start-up the lane's attempts field rises, in a retraining that
of its staged result; the sweep stands at delay 0 with no previous sample. -/
def beginAttempt (lane : Lane) (kind : SweepKind) (s : State) : State :=
  match kind with
  | .startUp =>
    let r := s.seq.lanes[lane.val]
    offerStep (s.setSeq { s.seq with
      lanes := s.seq.lanes.set lane.val { r with attempts := r.attempts + 1 }
      sweep := some { lane := lane, delay := 0#6, attempt := r.attempts + 1, prev := none
                      kind := .startUp } })
  | .retrain =>
    match s.seq.staged with
    | none => s
    | some st =>
      let r := st[lane.val]
      offerStep (s.setSeq { s.seq with
        staged := some (st.set lane.val { r with attempts := r.attempts + 1 })
        sweep := some { lane := lane, delay := 0#6, attempt := r.attempts + 1, prev := none
                        kind := .retrain } })

/-- R183: a retraining begins: staged results for four lanes, and lane 0's first attempt. -/
def beginRetrain (s : State) : State :=
  beginAttempt 0 .retrain
    (s.setSeq { s.seq with
      staged := some (Vector.replicate 4 { delay := none, status := .untrained, attempts := 0 }) })

/-- R125 steps 2 and 3: a MODE_LOAD where the staged burst order differs from the live one, else the
commit stands next. -/
def applyBurstOrder (s : State) : State :=
  if s.agree.staged.burstOrder = s.agree.live.burstOrder then
    s.setAgree { s.agree with applyStep := some .commit }
  else
    offer (.modeLoad (.burst s.agree.staged.burstOrder)) .agreement
      (s.setAgree { s.agree with applyStep := some .load })

/-- R125: the unit enters APPLYING; its drain deadline is cancelled (R123), and the first step begins. -/
def beginApply (s : State) : State :=
  match s.agree.proposal with
  | none => s
  | some p =>
    let s' := s.setAgree { s.agree with
      state := .applying, proposal := some { p with drainDeadline := none } }
    if ChangeItem.retrain ∈ p.items then
      beginRetrain (s'.setAgree { s'.agree with applyStep := some .retrain })
    else applyBurstOrder s'

/-- R117: the ballot of a heavy proposal has become unanimous. -/
def startDrain (s : State) : State :=
  match s.agree.proposal with
  | none => s
  | some p =>
    let s' := askToClose .config (addReason .config s)
    let s'' := s'.setAgree { s'.agree with
      state := .draining
      proposal := some { p with
        ballotDeadline := none
        drainDeadline := some (s.now + s.agree.live.drainTimeout.toNat * Config.us) } }
    if s''.allClosed then beginApply s'' else s''

/-- R116, R117: the ballot has become unanimous. -/
def ballotWon (s : State) : State :=
  match s.agree.proposal with
  | none => s
  | some p => if p.heavy then startDrain s else applyLight s

/-- R115, R121: the ballot is won if the accepted set now equals the electorate. -/
def judgeBallot (s : State) : State :=
  match s.agree.proposal with
  | none => s
  | some p => if p.accepted = p.electorate then ballotWon s else s

/-- R110, R155: a host leaves the electorate, and the accepted set with it. -/
def Proposal.withoutElector (p : Proposal) (h : HostId) : Proposal :=
  { p with electorate := p.electorate.without h, accepted := p.accepted.without h }

/-- R119 to R122: a detach reaches the agreement unit. In DRAINING and APPLYING the proposal goes on as it
stands (R122), and its record loses the host from the electorate (R110, R155, log 33). -/
def detachAgreement (h : HostId) (s : State) : State :=
  match s.agree.state, s.agree.proposal with
  | .ballot, some p =>
    if p.proposer = h then abandon .proposerLost s
    else if p.electorate.get h then
      judgeBallot (s.setAgree { s.agree with proposal := some (p.withoutElector h) })
    else s
  | .draining, some p | .applying, some p =>
    s.setAgree { s.agree with proposal := some (p.withoutElector h) }
  | .idle, _ | _, none => s

/-! ## The standby controller -/

/-- R132, R144: a host leaves the park set. -/
def leavePark (h : HostId) (s : State) : State :=
  s.setStandby { s.standby with park := s.standby.park.without h }

/-- R140, R141: STANDBY_EXIT is offered, if it has not already been. -/
def offerExit (s : State) : State :=
  if s.offered .standbyExit then s else offer .standbyExit .standby s

/-- R139 to R141: an exit cause reaches the standby controller. -/
def exitCause (s : State) : State :=
  match s.standby.state with
  | .running | .exiting => s
  | .entering =>
    if s.inFlight .standbyEnter then
      offerExit (s.setStandby { s.standby with exitPending := true })
    else
      removeReason .standby
        (withdraw .standby (s.setStandby { s.standby with state := .running }))
  | .selfRefresh => offerExit s

/-! ## Ports -/

/-- The tag that holds a host's outstanding request of a kind. -/
def State.tagOfKind (s : State) (h : HostId) (k : ReqKind) : Option Tag :=
  (List.finRange 16).find? fun t => decide ((s.host h).tags[t.val] = some k)

/-- R158: every JOINING port attaches, in one event: each JOIN is answered with the epoch and the attached
set after all of them, and HOST_JOINED goes to every other attached host. -/
def attachJoining (s : State) : State :=
  let joining := allHosts.filter fun h => decide (s.port h = .joining)
  let s' := { s with hosts := s.hosts.imap fun _ p =>
                if p.port = .joining then { p with port := .attached } else p }
  joining.foldl
    (fun t h =>
      let t' := match s.tagOfKind h .join with
        | some tag => answer h tag .ok (.joined s'.agree.epoch s'.attachedSet) t
        | none => t
      notifySet (t'.attachedSet.without h) (.hostJoined h) t') s'

/-- R158: the JOINING ports attach if the join condition holds. -/
def completeJoins (s : State) : State := if s.joinReady then attachJoining s else s

/-- R182: every JOINING port's JOIN is answered DEVICE_FAILED, and the port returns to LINKED. -/
def refuseJoining (s : State) : State :=
  allHosts.foldl
    (fun s h =>
      if s.port h = .joining then
        (answerOpt h (s.tagOfKind h .join) .deviceFailed s).setPort h .linked
      else s) s

/-- R160, R170: the notification queue is emptied, its numbers going on, and the host's notifications are
removed from the send queue. -/
def HostSide.dropNotes (p : HostSide) : HostSide :=
  { p with
    notes := { p.notes with entries := [], overflow := false }
    link := { p.link with sendQueue := p.link.sendQueue.filter fun m => !m.isNote } }

/-- R160: a LEAVE completes. -/
def completeLeave (h : HostId) (s : State) : State :=
  if s.leaveReady h then
    let s' := s.setHost h { (s.host h).dropNotes with port := .linked }
    notifyAttached (.hostLeft h false) (answerOpt h (s.tagOfKind h .leave) .ok s')
  else s

/-- R145, R154, R161: a link goes DOWN: the link takes its DOWN values, the port goes DOWN, the tags are
freed and the queues emptied, and what the host owned is torn down; the room that this makes in the
transfer list is filled from the intake (R56, log 35). -/
def linkDown (h : HostId) (s : State) : State :=
  let port := s.port h
  let s' := s.setHost h (HostSide.down (some (s.now + Config.quietTime)))
  match port with
  | .attached =>
    takeIntake
      (notifyAttached (.hostLeft h true) (leavePark h (detachAgreement h (tearDown h s'))))
  | .leaving => takeIntake (notifyAttached (.hostLeft h true) (tearDown h s'))
  | .down | .linked | .joining => s'

/-! ## The lane sweep (R179 to R184) -/

/-- R181: start-up ends with every lane TRAINED. -/
def becomeReady (s : State) : State :=
  completeJoins (removeReason .startup
    (s.setSeq { s.seq with sweep := none, device := .ready, stepOffer := .none, yielding := false }))

/-- R184: a retraining has trained every lane: the records take the staged results, and the agreement
unit goes on to its burst order step. -/
def retrainSuccess (st : Vector StagedLane 4) (s : State) : State :=
  let lanes := Vector.ofFn fun (i : Fin 4) =>
    ({ delay := (st[i.val].delay).getD s.seq.lanes[i.val].delay, status := .trained
       attempts := st[i.val].attempts } : LaneRecord)
  let s' := s.setSeq { s.seq with
    lanes := lanes, sweep := none, staged := none, stepOffer := .none, yielding := false }
  applyBurstOrder (s'.setChan { s'.chan with capture := lanes.map fun r => some r.delay })

/-- R184: a retraining has failed: the staged results are discarded, and the proposal is abandoned. -/
def retrainFailure (s : State) : State :=
  abandon .trainingFailed
    (s.setSeq { s.seq with sweep := none, staged := none, stepOffer := .none, yielding := false })

/-- R179: a transition is found at the sweep's delay: the lane is done, and the next lane's first attempt
begins, or the sweep ends with lane 3. -/
def laneTrained (w : Sweep) (s : State) : State :=
  match w.kind with
  | .startUp =>
    let r := s.seq.lanes[w.lane.val]
    let s' := s.setSeq { s.seq with
      lanes := s.seq.lanes.set w.lane.val { r with delay := w.delay, status := .trained } }
    if w.lane = 3 then becomeReady s' else beginAttempt (w.lane + 1) .startUp s'
  | .retrain =>
    match s.seq.staged with
    | none => s
    | some st =>
      let r := st[w.lane.val]
      let st' := st.set w.lane.val { r with delay := some w.delay, status := .trained }
      if w.lane = 3 then retrainSuccess st' s
      else beginAttempt (w.lane + 1) .retrain (s.setSeq { s.seq with staged := some st' })

/-- R182: a lane has failed at start-up. -/
def becomeFailed (w : Sweep) (s : State) : State :=
  let r := s.seq.lanes[w.lane.val]
  refuseJoining (s.setSeq { s.seq with
    lanes := s.seq.lanes.set w.lane.val { r with status := .failed }
    sweep := none, device := .failed, stepOffer := .none, yielding := false })

/-- R179, R182, R184: an attempt ends without a transition: the next attempt begins, or after the third
the lane has failed. -/
def attemptEnds (w : Sweep) (s : State) : State :=
  match w.kind with
  | .startUp =>
    if s.seq.lanes[w.lane.val].attempts < Config.laneAttempts then beginAttempt w.lane .startUp s
    else becomeFailed w s
  | .retrain =>
    match s.seq.staged with
    | none => s
    | some st =>
      if st[w.lane.val].attempts < Config.laneAttempts then beginAttempt w.lane .retrain s
      else retrainFailure s

/-- R179: the sequencer acts by a step's sample. -/
def actOnSample (sample : Bool) (w : Sweep) (s : State) : State :=
  if sample = true ∧ w.prev = some false then laneTrained w s
  else if w.delay = 63#6 then attemptEnds w s
  else offerStep (s.setSeq { s.seq with
    sweep := some { w with delay := w.delay + 1#6, prev := some sample } })

end Sys2Proof.Machine
end

