-- ==== Sys2Proof/Machine/LinkOps.lean ====
section
/-! DEFINITION. The shared operations of the link controllers (R145 to R154), the path of a received
MESSAGE frame to the block that owns its request (R149, R150, R156, R157), and the notification queue's
delivery and acknowledgement (R166 to R169). -/

namespace Sys2Proof.Machine

/-! ## Receiving (R147 to R150, R152) -/

/-- R152: the frames left in the replay buffer when the frame of number `a` and every older one leave. -/
def dropThrough (a : Seq) (l : List (Seq × OutMsg)) : List (Seq × OutMsg) :=
  (l.dropWhile fun x => decide (x.1 ≠ a)).drop 1

/-- The buffer holds a frame of this number. -/
def buffered (a : Seq) (l : List (Seq × OutMsg)) : Bool := l.any fun x => decide (x.1 = a)

/-- R152: a replay position that names a frame no longer in the buffer moves to the oldest one left, or
becomes absent. -/
def movePosition (p : Option Seq) (l : List (Seq × OutMsg)) : Option Seq :=
  match p with
  | none => none
  | some n => if buffered n l then some n else l.head?.map fun x => x.1

/-- R152: an acknowledgement acts on the replay buffer. -/
def Link.takeAck (l : Link) (a : Seq) : Link :=
  if buffered a l.replayBuffer then
    { l with
      replayBuffer := dropThrough a l.replayBuffer
      replayCount := 0
      replayPos := movePosition l.replayPos (dropThrough a l.replayBuffer) }
  else l

/-- R148: every valid frame restarts the silence deadline, and its acknowledgement is acted on first. -/
def Link.takeValid (l : Link) (now : Time) (f : FrameHdr) : Link :=
  { l with silence := some (now + Config.silenceTime) }.takeAck f.ack

/-- R149: NAK (e) is called for, and the receiver becomes NAK_SENT. -/
def Link.callNak (l : Link) : Link := { l with nakDue := some l.expected, receiver := .nakSent }

/-- R149: a discarded frame calls for a NAK while the receiver is NORMAL, and for none otherwise. -/
def Link.discard (l : Link) : Link :=
  match l.receiver with
  | .normal => l.callNak
  | .nakSent => l

/-- R149: `s` lies among the 127 numbers ahead of `e`, wrapping. -/
def aheadOf (s e : Seq) : Bool := decide (1 ≤ (s - e).toNat) && decide ((s - e).toNat ≤ 127)

/-- R157: how many of the host's tags are OUTSTANDING. -/
def HostSide.outstanding (p : HostSide) : Nat := (p.tags.toList.filter fun t => t.isSome).length

/-- R150: a frame that carries the expected number is held back. -/
def HostSide.heldBack (p : HostSide) (tagged : Bool) : Bool :=
  tagged && decide (1 ≤ p.link.responsesWaiting) &&
    decide (Config.responseLimit ≤ p.link.responsesWaiting + p.outstanding)

/-- R149, R150: a valid MESSAGE frame on an UP link is delivered. -/
def HostSide.delivers (p : HostSide) (f : FrameHdr) (tagged : Bool) : Bool :=
  decide (p.link.state = .up) && decide (f.seq = p.link.expected) && !p.heldBack tagged

/-- R149: the link after a delivered frame: `e` rises by one and the receiver is NORMAL. -/
def Link.accept (l : Link) : Link := { l with expected := l.expected + 1#8, receiver := .normal }

/-- R147: a frame other than an IDLE breaks the IDLE run. -/
def Link.breakRun (l : Link) : Link := { l with idleRun := 0 }

/-- R149, R150: the link after a valid MESSAGE frame that is not delivered. -/
def Link.discardMessage (l : Link) (f : FrameHdr) : Link :=
  if f.seq = l.expected ∨ aheadOf f.seq l.expected then l.discard else l

/-- R147, R149: a valid MESSAGE frame that is not delivered, in each link state. -/
def discardFrame (h : HostId) (f : FrameHdr) (s : State) : State :=
  match (s.link h).state with
  | .quiet => s
  | .listening => s.modLink h Link.breakRun
  | .up => s.modLink h fun l => (l.takeValid s.now f).discardMessage f

/-- R148, R149: the link's part in a delivered frame. -/
def acceptFrame (h : HostId) (f : FrameHdr) (s : State) : State :=
  s.modLink h fun l => (l.takeValid s.now f).accept

/-- R147 to R150: a valid MESSAGE frame arrives: it is delivered to `act`, or discarded. -/
def deliver (h : HostId) (f : FrameHdr) (tagged : Bool) (act : State → State) (s : State) : State :=
  if (s.host h).delivers f tagged then act (acceptFrame h f s) else discardFrame h f s

/-! ## Requests (R156, R157, R188) -/

/-- R157: a tagged request is delivered: a tag OUTSTANDING is a fault and the request is discarded, a tag
FREE becomes OUTSTANDING with the request's kind. No message reaches a block from a DOWN port (R156). -/
def takeRequest (h : HostId) (tag : Tag) (kind : ReqKind) (act : State → State) (s : State) : State :=
  if s.port h = .down then s
  else
    match (s.host h).tags[tag.val] with
    | some _ => notify h (.fault (.tagInUse tag)) s
    | none =>
      act (s.setHost h { s.host h with tags := (s.host h).tags.set tag.val (some kind) })

/-- R156: a frame with a tagged request arrives, and the request is passed to `act`. -/
def request (h : HostId) (f : FrameHdr) (tag : Tag) (kind : ReqKind) (act : State → State)
    (s : State) : State :=
  deliver h f true (takeRequest h tag kind act) s

/-- R156: a request that only an ATTACHED host may make is refused NOT_ATTACHED from another. -/
def attachedOnly (h : HostId) (tag : Tag) (act : State → State) (s : State) : State :=
  if s.port h = .attached then act s else answerStatus h tag .notAttached s

/-- R156, R188: a delivered message that is malformed is discarded, and FAULT (MALFORMED) is queued. -/
def malformed (h : HostId) (s : State) : State := notify h (.fault .malformed) s

/-! ## IDLE, NAK and corrupted frames -/

/-- R147: the link comes up, and the port goes LINKED. The IDLE run keeps its value (log 15). -/
def linkUp (h : HostId) (s : State) : State :=
  (s.modLink h fun l =>
    { Link.down none with
      state := .up, idleRun := l.idleRun, lastSent := l.lastSent
      silence := some (s.now + Config.silenceTime)
      sendTimer := some (s.now + Config.sendTime) }).setPort h .linked

/-- R147: a valid IDLE received in LISTENING; the third in a row brings the link up. -/
def countIdle (h : HostId) (s : State) : State :=
  let s' := s.modLink h fun l => { l with idleRun := l.idleRun + 1 }
  if 3 ≤ (s'.link h).idleRun then linkUp h s' else s'

/-- R149: an IDLE on an UP link, its acknowledgement already taken: its number compared with `e`. -/
def Link.compareIdle (l : Link) (f : FrameHdr) : Link :=
  if f.seq = l.expected then { l with receiver := .normal } else l.callNak

/-- R153: the link after a NAK that names a buffered frame: the older frames leave, and if any did the
replay count starts again. -/
def Link.dropOlder (l : Link) (n : Seq) : Link :=
  { l with
    replayBuffer := l.replayBuffer.dropWhile fun x => decide (x.1 ≠ n)
    replayCount := if l.replayBuffer.head?.map (fun x => x.1) = some n then l.replayCount else 0 }

/-- R153: a NAK acts, its acknowledgement already taken. -/
def takeNak (h : HostId) (n : Seq) (s : State) : State :=
  let l := s.link h
  if buffered n l.replayBuffer then
    if (l.dropOlder n).replayCount = Config.replayAttempts then linkDown h s
    else s.modLink h fun l =>
      { l.dropOlder n with
        replayCount := (l.dropOlder n).replayCount + 1, replayPos := some n }
  else if n = l.nextSend then
    s.modLink h fun l => { l with replayBuffer := [], replayCount := 0, replayPos := none }
  else s

/-! ## Sending (R151, R153) -/

/-- R145: the acknowledgement carried by every frame the LC4 sends is one below the expected number. -/
def Link.ackSent (l : Link) : Seq := l.expected - 1#8

/-- R151: a frame goes out: it carries the acknowledgement as it stands and restarts the send timer. -/
def Link.transmit (l : Link) (now : Time) (seq : Seq) (body : FrameBody) : Link :=
  { l with
    lastSent := some { seq := seq, ack := l.ackSent, body := body }
    sendTimer := some (now + Config.sendTime) }

/-- R153: the replay position past the frame of number `p`. -/
def nextPosition (p : Seq) (l : List (Seq × OutMsg)) : Option Seq :=
  (dropThrough p l).head?.map fun x => x.1

/-- R151: the link sends the first that applies: a NAK called for, the frame at the replay position, the
head of the send queue, or an IDLE if the send timer has expired. -/
def Link.sendNext (l : Link) (now : Time) : Link :=
  match l.nakDue with
  | some n => { l with nakDue := none }.transmit now l.nextSend (.nak n)
  | none =>
    match l.replayPos.bind fun p => l.replayBuffer.find? fun x => decide (x.1 = p) with
    | some x =>
      { l with replayPos := nextPosition x.1 l.replayBuffer }.transmit now x.1 (.message x.2)
    | none =>
      match l.sendQueue with
      | m :: rest =>
        if l.replayBuffer.length < Config.replayLimit then
          { l with
            sendQueue := rest
            replayBuffer := l.replayBuffer ++ [(l.nextSend, m)]
            nextSend := l.nextSend + 1#8 }.transmit now l.nextSend (.message m)
        else if due now l.sendTimer then l.transmit now l.nextSend .idle else l
      | [] => if due now l.sendTimer then l.transmit now l.nextSend .idle else l

/-! ## Notification queues -/

/-- R166: the entries with the oldest undelivered one marked delivered under a number. -/
def markDelivered (n : Seq) (l : List NoteEntry) : List NoteEntry :=
  match l with
  | [] => []
  | e :: rest =>
    if e.number.isNone then { e with number := some n } :: rest else e :: markDelivered n rest

/-- R166: one delivery: the oldest undelivered entry takes the next number, is marked delivered, and is
placed at the tail of the link's send queue. -/
def HostSide.deliverNote (p : HostSide) : HostSide :=
  if p.deliverReady then
    match p.notes.entries.find? fun e => e.number.isNone with
    | none => p
    | some e =>
      { p with
        notes := { p.notes with
          entries := markDelivered p.notes.next p.notes.entries
          next := p.notes.next + 1#8 }
        link := { p.link with sendQueue := p.link.sendQueue ++ [.note p.notes.next e.note] } }
  else p

/-- R167: the entries left when the delivered entry of number `n` and those ahead of it leave. -/
def ackEntries (n : Seq) (l : List NoteEntry) : List NoteEntry :=
  (l.dropWhile fun e => decide (e.number ≠ some n)).drop 1

/-- R169: OVERFLOW placed directly behind the delivered entries. -/
def placeOverflow (l : List NoteEntry) : List NoteEntry :=
  (l.takeWhile fun e => e.number.isSome) ++
    ⟨.overflow, none⟩ :: (l.dropWhile fun e => e.number.isSome)

/-- R167 to R169: a NOTE_ACK. -/
def takeNoteAck (h : HostId) (n : Seq) (s : State) : State :=
  let q := (s.host h).notes
  if q.entries.any fun e => decide (e.number = some n) then
    s.modNotes h fun q =>
      if q.overflow then
        { q with entries := placeOverflow (ackEntries n q.entries), overflow := false }
      else { q with entries := ackEntries n q.entries }
  else notify h (.fault .badAck) s

end Sys2Proof.Machine
end

