-- ==== Sys2Proof/Machine/Attachment.lean ====
section
/-! DEFINITION. The commands of the attachment unit and the notification queues (chapters 8 and 9): JOIN,
JOIN_COMPLETE, LEAVE, LEAVE_COMPLETE, QUERY, QUERY_BANK, NOTE_ACK and NOTIFICATION_DELIVERY. -/

namespace Sys2Proof.Machine

/-! ## JOIN and LEAVE (R158 to R160) -/

/-- R158: a JOIN by port state. From LINKED it is refused DEVICE_FAILED, or the port goes JOINING, which
is an exit cause, and the join completes at once where its condition holds. -/
def takeJoin (h : HostId) (tag : Tag) (s : State) : State :=
  match s.port h with
  | .linked =>
    if s.seq.device = .failed then answerStatus h tag .deviceFailed s
    else completeJoins (exitCause (s.setPort h .joining))
  | .joining | .attached | .leaving | .down => answerStatus h tag .alreadyJoined s

/-- JOIN (R158). -/
def execJoin (h : HostId) (f : FrameHdr) (tag : Tag) (s : State) : Host.Outcome State Fault Refusal :=
  .next (request h f tag .join (takeJoin h tag) s)

/-- JOIN_COMPLETE (R158). -/
def execJoinComplete (s : State) : Host.Outcome State Fault Refusal := .next (completeJoins s)

/-- R159: a LEAVE is taken: the port goes LEAVING, the detach event is carried out, and the LEAVE completes
at once where nothing is left. That the lease table's part comes before the agreement unit's is the model's
choice (log 34), the order in which 6.11 shows a loss. -/
def takeLeave (h : HostId) (s : State) : State :=
  completeLeave h (leavePark h (detachAgreement h (withdrawAndClose h (s.setPort h .leaving))))

/-- LEAVE (R159). -/
def execLeave (h : HostId) (f : FrameHdr) (tag : Tag) (s : State) : Host.Outcome State Fault Refusal :=
  .next (request h f tag .leave (attachedOnly h tag (takeLeave h)) s)

/-- LEAVE_COMPLETE (R160). -/
def execLeaveComplete (h : HostId) (s : State) : Host.Outcome State Fault Refusal :=
  .next (completeLeave h s)

/-! ## Queries (R172, R173) -/

/-- R172: the held or waited banks as a QUERY of the host reports them: empty for a host that is LINKED or
JOINING. -/
def State.reported (s : State) (h : HostId) (banks : BankSet) : BankSet :=
  match s.port h with
  | .attached | .leaving => banks
  | .down | .linked | .joining => 0#8

/-- R172: the device status record, as things stand, for the querying host. -/
def statusRecord (h : HostId) (s : State) : StatusRecord :=
  { device := s.seq.device, epoch := s.agree.epoch, agree := s.agree.state
    counter := s.agree.counter, attached := s.attachedSet, park := s.standby.park
    standby := s.standby.state, owed := s.account.owed, missed := s.account.missed
    lanes := s.seq.lanes, held := s.reported h (s.heldBanks h)
    waited := s.reported h (s.waitedBanks h) }

/-- QUERY (R172). -/
def execQuery (h : HostId) (f : FrameHdr) (tag : Tag) (s : State) : Host.Outcome State Fault Refusal :=
  .next (request h f tag .query (fun s => answer h tag .ok (.status (statusRecord h s)) s) s)

/-- R35, R173: what a QUERY_BANK answer gives of a bank record. -/
def BankRecord.snapshot (r : BankRecord) : BankSnapshot :=
  { state := r.state, row := r.row, mode := r.mode
    holders := r.holders.map fun x => (x.host, x.status), waiters := r.waiters.map fun x => x.host }

/-- R173: a QUERY_BANK is answered from the bank record, or RANGE. -/
def takeQueryBank (h : HostId) (tag : Tag) (bank : Byte) (s : State) : State :=
  match bankOfByte bank with
  | none => answerStatus h tag .range s
  | some b => answer h tag .ok (.bank (s.bank b).snapshot) s

/-- QUERY_BANK (R173). -/
def execQueryBank (h : HostId) (f : FrameHdr) (tag : Tag) (bank : Byte) (s : State) :
    Host.Outcome State Fault Refusal :=
  .next (request h f tag .queryBank (attachedOnly h tag (takeQueryBank h tag bank)) s)

/-! ## Notification queues (R166 to R169) -/

/-- NOTE_ACK (R167 to R169). -/
def execNoteAck (h : HostId) (f : FrameHdr) (n : Seq) (s : State) : Host.Outcome State Fault Refusal :=
  .next (deliver h f false (takeNoteAck h n) s)

/-- NOTIFICATION_DELIVERY (R166): one entry is delivered. -/
def execNotificationDelivery (h : HostId) (s : State) : Host.Outcome State Fault Refusal :=
  .next (s.setHost h (s.host h).deliverNote)

end Sys2Proof.Machine
end

