-- ==== Sys2Proof/Machine/DramChannel.lean ====
section
/-! DEFINITION. The channel controller (chapter 4): the ends of its short waits, the issue of every
operation but bursts, and the completions of ACTIVATE and PRECHARGE. -/

namespace Sys2Proof.Machine

/-! ## Short waits -/

/-- SETUP_END (R71, R73): the set-up of the bank's pending row command has ended. What was first at the
bus keeps its place (R81). -/
def execSetupEnd (b : Bank) (s : State) : Host.Outcome State Fault Refusal :=
  if due s.now (s.op b).setupEnd && !(s.op b).setupDone then
    .next ((keepPlace s).setOp b { s.op b with setupDone := true })
  else .next s

/-- COMMAND_SLOT_END (R77): the command bus becomes free. -/
def execCommandSlotEnd (s : State) : Host.Outcome State Fault Refusal :=
  if due s.now s.chan.slotEnd then .next (s.setChan { s.chan with slotEnd := none }) else .next s

/-- WRITE_RECOVERY_END (R73): the bank's recovery end has passed. What was first at the bus keeps its
place (R81). -/
def execWriteRecoveryEnd (b : Bank) (s : State) : Host.Outcome State Fault Refusal :=
  if due s.now (s.op b).recoveryEnd && !(s.op b).recoveryDone then
    .next ((keepPlace s).setOp b { s.op b with recoveryDone := true })
  else .next s

/-! ## Row commands (R71, R73) -/

/-- R71: the pending ACTIVATE of a bank is issued. -/
def issueActivate (b : Bank) (s : State) : State :=
  match (s.op b).pending with
  | .activate row =>
    startSlot (s.setOp b { s.op b with
      pending := .none, setupEnd := none, setupDone := false
      inFlight := .activate row, due := some (s.now + Config.activateTime) })
  | .precharge | .none => s

/-- ACTIVATE_ISSUE (R71): of the lowest bank, as the arbiter chooses (R79). -/
def execActivateIssue (s : State) : Host.Outcome State Fault Refusal :=
  match s.arbiter with
  | some (.activate b) => .next (issueActivate b s)
  | some (.maint _) | some (.precharge _) | some (.burst _) | none => .next s

/-- R73: the pending PRECHARGE of a bank is issued; the recovery end becomes absent. -/
def issuePrecharge (b : Bank) (s : State) : State :=
  startSlot (s.setOp b { s.op b with
    pending := .none, setupEnd := none, setupDone := false
    inFlight := .precharge, due := some (s.now + Config.prechargeTime)
    recoveryEnd := none, recoveryDone := false })

/-- PRECHARGE_ISSUE (R73): of the lowest bank, as the arbiter chooses (R79). -/
def execPrechargeIssue (s : State) : Host.Outcome State Fault Refusal :=
  match s.arbiter with
  | some (.precharge b) => .next (issuePrecharge b s)
  | some (.maint _) | some (.activate _) | some (.burst _) | none => .next s

/-- R71, R19: the activation in flight on the bank completes: the row is open, and the lease table deals
with the bank's holders. -/
def landActivate (b : Bank) (row : Row) (s : State) : State :=
  completeActivation b
    (s.setOp b { s.op b with inFlight := .none, due := none, openRow := some row })

/-- ACTIVATE_COMPLETION (R19, R71). What was first at the bus keeps its place before the bursts that may
now issue (R81). -/
def execActivateCompletion (b : Bank) (s : State) : Host.Outcome State Fault Refusal :=
  match (s.op b).inFlight with
  | .activate row => if due s.now (s.op b).due then .next (landActivate b row (keepPlace s)) else .next s
  | .precharge | .readBurst | .writeBurst | .none => .next s

/-- R73, R24: the precharge in flight on the bank completes: no row is open, and the lease table closes
the bank. -/
def landPrecharge (b : Bank) (s : State) : State :=
  completePrecharge b (s.setOp b { s.op b with inFlight := .none, due := none, openRow := none })

/-- PRECHARGE_COMPLETION (R24, R73). -/
def execPrechargeCompletion (b : Bank) (s : State) : Host.Outcome State Fault Refusal :=
  match (s.op b).inFlight with
  | .precharge => if due s.now (s.op b).due then .next (landPrecharge b s) else .next s
  | .activate _ | .readBurst | .writeBurst | .none => .next s

/-! ## The issue of maintenance operations (R74, R77, R79) -/

/-- R74: a maintenance operation is issued: its offer leaves the arbiter's set, the channel goes
MAINTENANCE, and the operation in flight is recorded with its completion due. -/
def issueMaint (o : Offer) (s : State) : State :=
  s.setChan { s.chan with
    offers := s.chan.offers.erase o
    first := none
    state := .maintenance
    maint := some { offer := o, due := s.now + o.op.duration } }

/-- R174: the sequencer sees its operation under way. -/
def stepUnderWay (s : State) : State := s.setSeq { s.seq with stepOffer := .inFlight }

/-- The maintenance offer that the arbiter takes, if it takes one. -/
def State.maintTaken (s : State) : Option Offer :=
  match s.arbiter with
  | some (.maint o) => some o
  | some (.precharge _) | some (.activate _) | some (.burst _) | none => none

/-- REFRESH_ISSUE (R79). -/
def execRefreshIssue (s : State) : Host.Outcome State Fault Refusal :=
  match s.maintTaken with
  | none => .next s
  | some o => if o.op = .refresh then .next (issueMaint o s) else .next s

/-- SHORT_CAL_ISSUE (R99). -/
def execShortCalIssue (s : State) : Host.Outcome State Fault Refusal :=
  match s.maintTaken with
  | none => .next s
  | some o => if o.op = .shortCal then .next (issueMaint o s) else .next s

/-- LONG_CAL_ISSUE (R177). -/
def execLongCalIssue (s : State) : Host.Outcome State Fault Refusal :=
  match s.maintTaken with
  | none => .next s
  | some o => if o.op = .longCal then .next (stepUnderWay (issueMaint o s)) else .next s

/-- MODE_LOAD_ISSUE (R82), for the sequencer or the agreement unit. -/
def execModeLoadIssue (s : State) : Host.Outcome State Fault Refusal :=
  match s.maintTaken with
  | none => .next s
  | some o =>
    match o.op with
    | .modeLoad _ =>
      if o.by_ = .sequencer then .next (stepUnderWay (issueMaint o s)) else .next (issueMaint o s)
    | .refresh | .shortCal | .longCal | .trainStep _ _ | .standbyEnter | .standbyExit => .next s

/-- R83, R178: the capture delay of a lane. -/
def setCapture (lane : Lane) (d : Delay) (s : State) : State :=
  s.setChan { s.chan with capture := s.chan.capture.set lane.val (some d) }

/-- TRAIN_STEP_ISSUE (R83). While the step is in flight the named lane captures with the step's delay
(State.capturesWith); its capture delay, which R178 makes present at the completion, is as it was. -/
def execTrainStepIssue (s : State) : Host.Outcome State Fault Refusal :=
  match s.maintTaken with
  | none => .next s
  | some o =>
    match o.op with
    | .trainStep _ _ => .next (stepUnderWay (issueMaint o s))
    | .refresh | .shortCal | .longCal | .modeLoad _ | .standbyEnter | .standbyExit => .next s

/-- STANDBY_ENTER_ISSUE (R85). -/
def execStandbyEnterIssue (s : State) : Host.Outcome State Fault Refusal :=
  match s.maintTaken with
  | none => .next s
  | some o => if o.op = .standbyEnter then .next (issueMaint o s) else .next s

/-- R85, R141: STANDBY_EXIT is issued: CKE is raised, the controller enters EXITING and exit pending
clears. -/
def issueExit (o : Offer) (s : State) : State :=
  let s' := issueMaint o s
  (s'.setChan { s'.chan with cke := true }).setStandby
    { s'.standby with state := .exiting, exitPending := false }

/-- STANDBY_EXIT_ISSUE (R141). -/
def execStandbyExitIssue (s : State) : Host.Outcome State Fault Refusal :=
  match s.maintTaken with
  | none => .next s
  | some o => if o.op = .standbyExit then .next (issueExit o s) else .next s

/-- R74: a maintenance operation has completed: its record is cleared and the channel goes on. -/
def landMaint (next : ChannelState) (s : State) : State :=
  s.setChan { s.chan with state := next, maint := none }

end Sys2Proof.Machine
end

