-- ==== Sys2Proof/Machine/Configuration.lean ====
section
/-! DEFINITION. The commands of the agreement unit (chapter 6): PROPOSE, VOTE, BALLOT_DEADLINE_EXPIRY,
DRAIN_DEADLINE_EXPIRY, DRAIN_COMPLETE and COMMIT. -/

namespace Sys2Proof.Machine

/-! ## PROPOSE (R112, R113) -/

/-- R113: the proposal record made when a PROPOSE is taken. -/
def newProposal (h : HostId) (items : List ChangeItem) (s : State) : Proposal :=
  { number := s.agree.counter + 1#8, proposer := h, items := items
    heavy := items.any ChangeItem.heavy
    electorate := s.attachedSet.without h, accepted := PerHost.const false
    ballotDeadline :=
      if HostSet.isEmpty (s.attachedSet.without h) then none
      else some (s.now + s.agree.live.ballotTimeout.toNat * Config.ms)
    drainDeadline := none, outcome := none }

/-- R113: a PROPOSE is taken: the counter rises, the record is made, the staged record is built, PROPOSE
is answered OK with the number, PROPOSAL_POSTED goes to the electorate and BALLOT begins. With an empty
electorate the ballot is unanimous in the same event. -/
def postProposal (h : HostId) (tag : Tag) (items : List ChangeItem) (s : State) : State :=
  let p := newProposal h items s
  let s1 := s.setAgree { s.agree with
    counter := p.number, proposal := some p, state := .ballot
    staged := applyItems s.agree.live items }
  let s2 := answer h tag .ok (.number p.number) s1
  judgeBallot
    (notifySet p.electorate (.proposalPosted p.number h items.length p.heavy) s2)

/-- R112: a PROPOSE is checked in order, and refused or taken. -/
def takePropose (h : HostId) (tag : Tag) (base : BitVec 16) (items : List RawItem) (s : State) :
    State :=
  if s.standby.park.get h then answerStatus h tag .parked s
  else if s.agree.state ≠ .idle then answerStatus h tag .busy s
  else if base ≠ s.agree.epoch then answerStatus h tag .stale s
  else
    match parseItems 0 items with
    | .error n => answer h tag .invalid (.position n) s
    | .ok l => postProposal h tag l s

/-- PROPOSE (R112). A list of no item or of more than 16 is a malformed message (R188). -/
def execPropose (h : HostId) (f : FrameHdr) (tag : Tag) (base : BitVec 16) (items : List RawItem)
    (s : State) : Host.Outcome State Fault Refusal :=
  if 1 ≤ items.length ∧ items.length ≤ 16 then
    .next (request h f tag .propose (attachedOnly h tag (takePropose h tag base items)) s)
  else .next (deliver h f true (malformed h) s)

/-! ## VOTE (R114, R115) -/

/-- R114: the status that refuses a VOTE on a proposal, or none. -/
def voteRefusal (h : HostId) (number : Seq) (p : Proposal) : Option Status :=
  if number ≠ p.number then some .stale
  else if p.electorate.get h = false then some .notElector
  else if p.accepted.get h then some .alreadyVoted
  else none

/-- R115: a VOTE that has passed its checks is answered OK and acts. -/
def castVote (h : HostId) (tag : Tag) (accept : Bool) (p : Proposal) (s : State) : State :=
  let s' := answerStatus h tag .ok s
  if accept then
    judgeBallot (s'.setAgree { s'.agree with
      proposal := some { p with accepted := p.accepted.set h true } })
  else abandon (.rejected h) s'

/-- R114: a VOTE is checked in order, and refused or taken. -/
def takeVote (h : HostId) (tag : Tag) (number : Seq) (accept : Bool) (s : State) : State :=
  match s.agree.state, s.agree.proposal with
  | .ballot, some p =>
    match voteRefusal h number p with
    | some st => answerStatus h tag st s
    | none => castVote h tag accept p s
  | _, _ => answerStatus h tag .noBallot s

/-- VOTE (R114). -/
def execVote (h : HostId) (f : FrameHdr) (tag : Tag) (number : Seq) (accept : Bool) (s : State) :
    Host.Outcome State Fault Refusal :=
  .next (request h f tag .vote (attachedOnly h tag (takeVote h tag number accept)) s)

/-! ## Deadlines (R118, R124) -/

/-- R118: the ballot deadline has come while the ballot runs. -/
def State.ballotExpired (s : State) : Bool :=
  match s.agree.state, s.agree.proposal with
  | .ballot, some p => due s.now p.ballotDeadline
  | _, _ => false

/-- BALLOT_DEADLINE_EXPIRY (R118). -/
def execBallotDeadlineExpiry (s : State) : Host.Outcome State Fault Refusal :=
  if s.ballotExpired then .next (abandon .timeout s) else .next s

/-- R124: the drain deadline has come while DRAINING. -/
def State.drainExpired (s : State) : Bool :=
  match s.agree.state, s.agree.proposal with
  | .draining, some p => due s.now p.drainDeadline
  | _, _ => false

/-- R124: no second drain deadline is set. -/
def clearDrainDeadline (s : State) : State :=
  match s.agree.proposal with
  | none => s
  | some p => s.setAgree { s.agree with proposal := some { p with drainDeadline := none } }

/-- DRAIN_DEADLINE_EXPIRY (R124). -/
def execDrainDeadlineExpiry (s : State) : Host.Outcome State Fault Refusal :=
  if s.drainExpired then .next (massRevoke .config (clearDrainDeadline s)) else .next s

/-! ## The end of a drain, and the commit (R123, R128) -/

/-- DRAIN_COMPLETE (R123). -/
def execDrainComplete (s : State) : Host.Outcome State Fault Refusal :=
  if s.drainReady then .next (beginApply s) else .next s

/-- R128: the commit, in the order of its steps. R93 and R109 have the refresh account judge its state
against the new threshold in the commit event, but no rule says before or after which step: that it
judges last, after step 4 has taken CONFIG out, served the queues and resolved the proposal, is the
model's choice (log 32). -/
def commitProposal (s : State) : State :=
  let s1 := s.setAgree { s.agree with live := s.agree.staged }
  let s2 := recheckWaiters s1
  let s3 := s2.setAgree { s2.agree with epoch := s2.agree.epoch + 1#16 }
  judgeAccount (resolveProposal .applied (removeReason .config s3))

/-- COMMIT (R128). -/
def execCommit (s : State) : Host.Outcome State Fault Refusal :=
  if s.commitReady then .next (commitProposal s) else .next s

end Sys2Proof.Machine
end

