-- ==== Sys2Proof/Machine/Leases.lean ====
section
/-! DEFINITION. The commands of the lease table (chapter 1): OPEN, CLOSE, CLOSE_COMPLETE,
REVOCATION_FINISH, GRANT_FROM_QUEUE, HOLD_DEADLINE_EXPIRY and WAIT_DEADLINE_EXPIRY. -/

namespace Sys2Proof.Machine

/-! ## OPEN (R12 to R16, R40) -/

/-- R13: the conditions of an immediate join. -/
def State.joinsAtOnce (s : State) (b : Bank) (row : Row) (mode : LeaseMode) : Bool :=
  s.gate.isEmpty &&
    (decide ((s.bank b).state = .opened) || decide ((s.bank b).state = .activating)) &&
    decide ((s.bank b).mode = some .shared) && decide ((s.bank b).row = some row) &&
    decide (mode = .shared) && (s.bank b).waiters.isEmpty

/-- R14: the conditions of a grant from CLOSED. -/
def State.grantsFromClosed (s : State) (b : Bank) : Bool :=
  s.gate.isEmpty && decide ((s.bank b).state = .closed) && (s.bank b).waiters.isEmpty

/-- R13: a joining holder entry at the tail of the holder list. -/
def appendHolder (b : Bank) (x : Holder) (s : State) : State :=
  s.setBank b { s.bank b with holders := (s.bank b).holders ++ [x] }

/-- R13, R16: an immediate join: answered OK at once on an OPEN bank, and at activation completion on an
ACTIVATING one. -/
def joinBank (h : HostId) (tag : Tag) (b : Bank) (s : State) : State :=
  if (s.bank b).state = .opened then
    answerStatus h tag .ok
      (appendHolder b
        ((Holder.granted h tag).atGrantMoment s.now (s.agree.live.holdLimit.get h)) s)
  else appendHolder b (Holder.granted h tag) s

/-- R15: the OPEN is queued, and the bank's ACTIVE overstayed holders are revoked. -/
def queueOpen (h : HostId) (tag : Tag) (b : Bank) (row : Row) (mode : LeaseMode)
    (wait : BitVec 16) (s : State) : State :=
  revokeOverstayed b
    (s.setBank b { s.bank b with
      waiters := (s.bank b).waiters ++
        [{ host := h, tag := tag, row := row, mode := mode, deadline := waitDeadline s.now wait }] })

/-- R13 to R15: an OPEN that has passed its checks. -/
def admitOpen (h : HostId) (tag : Tag) (b : Bank) (row : Row) (mode : LeaseMode) (wait : BitVec 16)
    (s : State) : State :=
  if s.joinsAtOnce b row mode then joinBank h tag b s
  else if s.grantsFromClosed b then grant b row mode [Holder.granted h tag] [] s
  else queueOpen h tag b row mode wait s

/-- R12 checks 2 to 4, and R40: the status that refuses an OPEN in range, or none. -/
def openRefusal (h : HostId) (b : Bank) (row : Row) (mode : LeaseMode) (s : State) : Option Status :=
  if s.standby.park.get h then some .parked
  else if s.holds h b || s.waits h b then some .alreadyHeld
  else if (rightOf s.agree.live h b row).enough mode then none
  else some .noRight

/-- R12: an OPEN is checked, and refused or admitted. -/
def takeOpen (h : HostId) (tag : Tag) (bank : Byte) (row : BitVec 16) (mode : LeaseMode)
    (wait : BitVec 16) (s : State) : State :=
  match bankOfByte bank, rowOfField row with
  | some b, some r =>
    match openRefusal h b r mode s with
    | some st => answerStatus h tag st s
    | none => admitOpen h tag b r mode wait s
  | _, _ => answerStatus h tag .range s

/-- OPEN (R12). -/
def execOpen (h : HostId) (f : FrameHdr) (tag : Tag) (bank : Byte) (row : BitVec 16)
    (mode : LeaseMode) (wait : BitVec 16) (s : State) : Host.Outcome State Fault Refusal :=
  .next (request h f tag .openLease
    (attachedOnly h tag (takeOpen h tag bank row mode wait)) s)

/-! ## CLOSE (R20 to R23) -/

/-- R21 to R23: a CLOSE by a holder of the bank. -/
def closeAsHolder (h : HostId) (tag : Tag) (b : Bank) (x : Holder) (s : State) : State :=
  match x.status, x.closeTag with
  | .active, _ => closeHolder b h (some tag) s
  | .revoking _, none => setHolder b h { x with closeTag := some tag } s
  | .revoking _, some _ => answerStatus h tag .closing s
  | .closing, _ => answerStatus h tag .closing s

/-- R20, R23: a CLOSE by a host that is no holder of the bank: a waiter's OPEN is answered WITHDRAWN and
the CLOSE then OK; otherwise the CLOSE is answered NOT_HELD. -/
def closeAsWaiter (h : HostId) (tag : Tag) (b : Bank) (s : State) : State :=
  if s.waits h b then answerStatus h tag .ok (withdrawWaiter b h .withdrawn s)
  else answerStatus h tag .notHeld s

/-- R21 to R23: a CLOSE is handled by the host's entry on the bank. -/
def takeClose (h : HostId) (tag : Tag) (bank : Byte) (s : State) : State :=
  match bankOfByte bank with
  | none => answerStatus h tag .range s
  | some b =>
    match (s.bank b).holder h with
    | some x => closeAsHolder h tag b x s
    | none => closeAsWaiter h tag b s

/-- CLOSE (R23). -/
def execClose (h : HostId) (f : FrameHdr) (tag : Tag) (bank : Byte) (s : State) :
    Host.Outcome State Fault Refusal :=
  .next (request h f tag .closeLease (attachedOnly h tag (takeClose h tag bank)) s)

/-! ## The reactions -/

/-- CLOSE_COMPLETE (R21). -/
def execCloseComplete (b : Bank) (h : HostId) (s : State) : Host.Outcome State Fault Refusal :=
  if s.closeReady b h then .next (finishHolder b h s) else .next s

/-- REVOCATION_FINISH (R30). -/
def execRevocationFinish (b : Bank) (h : HostId) (s : State) : Host.Outcome State Fault Refusal :=
  if s.revokeReady b h then .next (finishHolder b h s) else .next s

/-- GRANT_FROM_QUEUE (R17). -/
def execGrantFromQueue (b : Bank) (s : State) : Host.Outcome State Fault Refusal :=
  .next (serveBank b s)

/-! ## Deadlines (R25, R28) -/

/-- R25: a holder's hold deadline expires. The room that a revocation makes in the transfer list is filled
from the intake (R56, log 35). -/
def expireHold (b : Bank) (h : HostId) (x : Holder) (s : State) : State :=
  if (s.bank b).waiters.isEmpty then
    notify h (.overstayed b) (setHolder b h { x with deadline := none, overstayed := true } s)
  else takeIntake (revoke b h .holdExpired s)

/-- HOLD_DEADLINE_EXPIRY (R25). -/
def execHoldDeadlineExpiry (b : Bank) (h : HostId) (s : State) : Host.Outcome State Fault Refusal :=
  match (s.bank b).holder h with
  | none => .next s
  | some x => if due s.now x.deadline then .next (expireHold b h x s) else .next s

/-- WAIT_DEADLINE_EXPIRY (R28). -/
def execWaitDeadlineExpiry (b : Bank) (h : HostId) (s : State) : Host.Outcome State Fault Refusal :=
  match (s.bank b).waiter h with
  | none => .next s
  | some w => if due s.now w.deadline then .next (withdrawWaiter b h .timedOut s) else .next s

end Sys2Proof.Machine
end

