-- ==== Sys2Proof/Machine/Links.lean ====
section
/-! DEFINITION. The commands of the link controllers (chapter 8): the frames received, SEND_FRAME, and
the link timers SILENCE_DEADLINE_EXPIRY, QUIET_END and SEND_TIMER_EXPIRY; and MALFORMED_MESSAGE. -/

namespace Sys2Proof.Machine

/-- SILENCE_DEADLINE_EXPIRY (R148, R154). -/
def execSilenceDeadlineExpiry (h : HostId) (s : State) : Host.Outcome State Fault Refusal :=
  if (s.link h).state = .up ∧ due s.now (s.link h).silence then .next (linkDown h s) else .next s

/-- R147: QUIET ends: the link enters LISTENING and sends its first IDLE at once. -/
def Link.listen (l : Link) (now : Time) : Link :=
  { l with state := .listening, quietEnd := none }.transmit now l.nextSend .idle

/-- QUIET_END (R147). -/
def execQuietEnd (h : HostId) (s : State) : Host.Outcome State Fault Refusal :=
  if (s.link h).state = .quiet ∧ due s.now (s.link h).quietEnd then
    .next (s.modLink h fun l => l.listen s.now)
  else .next s

/-- R147, R151: the send timer has expired: an IDLE in LISTENING, and what R151 gives on an UP link. -/
def Link.sendExpired (l : Link) (now : Time) : Link :=
  match l.state with
  | .quiet => l
  | .listening => l.transmit now l.nextSend .idle
  | .up => l.sendNext now

/-- SEND_TIMER_EXPIRY (R151). -/
def execSendTimerExpiry (h : HostId) (s : State) : Host.Outcome State Fault Refusal :=
  if due s.now (s.link h).sendTimer then .next (s.modLink h fun l => l.sendExpired s.now)
  else .next s

/-- SEND_FRAME (R151). -/
def execSendFrame (h : HostId) (s : State) : Host.Outcome State Fault Refusal :=
  if (s.link h).state = .up then .next (s.modLink h fun l => l.sendNext s.now) else .next s

/-- RECEIVE_IDLE_FRAME (R147 to R149). -/
def execReceiveIdleFrame (h : HostId) (f : FrameHdr) (s : State) : Host.Outcome State Fault Refusal :=
  match (s.link h).state with
  | .quiet => .next s
  | .listening => .next (countIdle h s)
  | .up => .next (s.modLink h fun l => (l.takeValid s.now f).compareIdle f)

/-- RECEIVE_NAK_FRAME (R147, R148, R153). -/
def execReceiveNakFrame (h : HostId) (f : FrameHdr) (n : Seq) (s : State) :
    Host.Outcome State Fault Refusal :=
  match (s.link h).state with
  | .quiet => .next s
  | .listening => .next (s.modLink h Link.breakRun)
  | .up => .next (takeNak h n (s.modLink h fun l => l.takeValid s.now f))

/-- RECEIVE_CORRUPTED_FRAME (R147, R149, R186). -/
def execReceiveCorruptedFrame (h : HostId) (s : State) : Host.Outcome State Fault Refusal :=
  match (s.link h).state with
  | .quiet => .next s
  | .listening => .next (s.modLink h Link.breakRun)
  | .up => .next (s.modLink h Link.discard)

/-- MESSAGE_FRAME_DISCARDED (R147, R149, R150): a frame that would be delivered is not this event. -/
def execMessageFrameDiscarded (h : HostId) (f : FrameHdr) (tagged : Bool) (s : State) :
    Host.Outcome State Fault Refusal :=
  if (s.host h).delivers f tagged then .next s else .next (discardFrame h f s)

/-- MALFORMED_MESSAGE (R156, R188). -/
def execMalformedMessage (h : HostId) (f : FrameHdr) (tagged : Bool) (s : State) :
    Host.Outcome State Fault Refusal :=
  .next (deliver h f tagged (malformed h) s)

end Sys2Proof.Machine
end

