-- ==== Sys2Proof/Machine/Refresh.lean ====
section
/-! DEFINITION. The commands of the refresh account (chapter 5): INTERVAL_EXPIRY, REFRESH_REQUEST,
REFRESH_COMPLETION and SHORT_CAL_COMPLETION. -/

namespace Sys2Proof.Machine

/-- R89: the next interval begins, with the period of the rate that is live now. -/
def restartInterval (s : State) : State :=
  s.setAccount { s.account with timer := some (s.now + intervalOf s.agree.live.rate) }

/-- R90, R100: a missed refresh: the count rises, saturating at 255, and FAULT (REFRESH_MISSED) is queued
to the attached set. -/
def missRefresh (s : State) : State :=
  notifyAttached (.fault .refreshMissed)
    (s.setAccount { s.account with missed := if s.account.missed < 255 then s.account.missed + 1
                                             else s.account.missed })

/-- R90, R92: owed rises by one, the state is judged anew, and at the rise from 4 to 5 the account asks
for a mass revocation. -/
def raiseOwed (s : State) : State :=
  let s' := judgeAccount (s.setAccount { s.account with owed := s.account.owed + 1 })
  if s.account.owed = 4 then massRevoke .refresh s' else s'

/-- R90: what an interval expiry does, by the owed count it finds. -/
def expireInterval (s : State) : State :=
  let s' := restartInterval s
  if s.account.owed < 6 then raiseOwed s' else missRefresh s'

/-- INTERVAL_EXPIRY (R90). What was first at the bus keeps its place before the REFRESH that the higher
count may bring (R81, R94). -/
def execIntervalExpiry (s : State) : Host.Outcome State Fault Refusal :=
  if due s.now s.account.timer then .next (expireInterval (keepPlace s)) else .next s

/-- REFRESH_REQUEST (R94). -/
def execRefreshRequest (s : State) : Host.Outcome State Fault Refusal :=
  if s.refreshWanted then .next (makeAccountOffer s) else .next s

/-- R97: the account after a refresh: owed falls, the calibration count advances, the offer is gone. -/
def Account.afterRefresh (a : Account) : Account :=
  if a.sinceCal + 1 = Config.refreshesPerCal then
    { a with owed := a.owed - 1, sinceCal := 0, calDue := true, offer := .none }
  else { a with owed := a.owed - 1, sinceCal := a.sinceCal + 1, offer := .none }

/-- R74, R97, R98: a REFRESH completes. -/
def landRefresh (s : State) : State :=
  let s' := landMaint .active s
  afterAccountOp (judgeAccount (s'.setAccount s'.account.afterRefresh))

/-- REFRESH_COMPLETION (R97). -/
def execRefreshCompletion (s : State) : Host.Outcome State Fault Refusal :=
  if s.inFlight .refresh && s.maintDue then .next (landRefresh s) else .next s

/-- R74, R98, R99: a SHORT_CAL completes. -/
def landShortCal (s : State) : State :=
  let s' := landMaint .active s
  afterAccountOp (judgeAccount (s'.setAccount { s'.account with calDue := false, offer := .none }))

/-- SHORT_CAL_COMPLETION (R99). -/
def execShortCalCompletion (s : State) : Host.Outcome State Fault Refusal :=
  if s.inFlight .shortCal && s.maintDue then .next (landShortCal s) else .next s

end Sys2Proof.Machine
end

