-- ==== Sys2Proof/Machine/StandbyUnit.lean ====
section
/-! DEFINITION. The commands of the standby controller (chapter 7): PARK, UNPARK, STANDBY_ENTERING,
STANDBY_ENTER_OFFER, and the completions of STANDBY_ENTER and STANDBY_EXIT. -/

namespace Sys2Proof.Machine

/-- R133: the host is the proposer of the proposal that exists. -/
def State.proposes (s : State) (h : HostId) : Bool :=
  match s.agree.proposal with
  | none => false
  | some p => decide (p.proposer = h)

/-- R133: the status that refuses a PARK, or none. -/
def parkRefusal (h : HostId) (s : State) : Option Status :=
  if s.idleOnBanks h = false then some .busyLeases
  else if s.noTransfer h = false then some .busyLeases
  else if s.proposes h ∧ s.agree.state ≠ .idle then some .busy
  else none

/-- R133: a PARK is checked, and refused or taken. -/
def takePark (h : HostId) (tag : Tag) (s : State) : State :=
  match parkRefusal h s with
  | some st => answerStatus h tag st s
  | none =>
    answerStatus h tag .ok (s.setStandby { s.standby with park := s.standby.park.set h true })

/-- PARK (R133). -/
def execPark (h : HostId) (f : FrameHdr) (tag : Tag) (s : State) : Host.Outcome State Fault Refusal :=
  .next (request h f tag .park (attachedOnly h tag (takePark h tag)) s)

/-- R134: an UNPARK is answered OK; a host taken out of the park set is an exit cause. -/
def takeUnpark (h : HostId) (tag : Tag) (s : State) : State :=
  let s' := answerStatus h tag .ok s
  if s.standby.park.get h then exitCause (leavePark h s') else s'

/-- UNPARK (R134). -/
def execUnpark (h : HostId) (f : FrameHdr) (tag : Tag) (s : State) :
    Host.Outcome State Fault Refusal :=
  .next (request h f tag .unpark (attachedOnly h tag (takeUnpark h tag)) s)

/-- R136, R137: the controller enters ENTERING and adds STANDBY to the gate. -/
def enterEntering (s : State) : State :=
  addReason .standby (s.setStandby { s.standby with state := .entering })

/-- STANDBY_ENTERING (R136, R137). -/
def execStandbyEntering (s : State) : Host.Outcome State Fault Refusal :=
  if s.entryCondition then .next (enterEntering s) else .next s

/-- STANDBY_ENTER_OFFER (R137). -/
def execStandbyEnterOffer (s : State) : Host.Outcome State Fault Refusal :=
  if s.enterOfferReady then .next (offer .standbyEnter .standby s) else .next s

/-- R102: the interval timer stops; the account withdraws an offer that has not issued, its offer becomes
NONE, and its REFRESH reason is removed. -/
def stopAccount (s : State) : State :=
  removeReason .refresh
    (withdraw .account (s.setAccount { s.account with timer := none, offer := .none }))

/-- R85, R138: STANDBY_ENTER completes: the channel goes SELF_REFRESH and CKE is driven low. With exit
pending the exit is offered in the same event (R141). -/
def landEnter (s : State) : State :=
  let s1 := landMaint .selfRefresh s
  let s2 := s1.setChan { s1.chan with cke := false }
  let s3 := stopAccount (s2.setStandby { s2.standby with state := .selfRefresh })
  let s4 := notifyAttached .standbyEntered s3
  if s4.standby.exitPending then offerExit s4 else s4

/-- STANDBY_ENTER_COMPLETION (R138). -/
def execStandbyEnterCompletion (s : State) : Host.Outcome State Fault Refusal :=
  if s.inFlight .standbyEnter && s.maintDue then .next (landEnter s) else .next s

/-- R85, R142, R103: STANDBY_EXIT completes. -/
def landExit (s : State) : State :=
  let s1 := landMaint .active s
  let s2 := removeReason .standby (s1.setStandby { s1.standby with state := .running })
  notifyAttached .standbyLeft (judgeAccount (restartInterval s2))

/-- STANDBY_EXIT_COMPLETION (R142). -/
def execStandbyExitCompletion (s : State) : Host.Outcome State Fault Refusal :=
  if s.inFlight .standbyExit && s.maintDue then .next (landExit s) else .next s

end Sys2Proof.Machine
end

