-- ==== Sys2Proof/Machine/StartUp.lean ====
section
/-! DEFINITION. The commands of RESET_N and the start-up sequencer (chapter 10): RESET_N_ASSERT,
RESET_N_RELEASE, the phase ends, and the completions of LONG_CAL, MODE_LOAD and TRAIN_STEP. -/

namespace Sys2Proof.Machine

/-! ## RESET_N (R174, R175) -/

/-- R174: every block takes its reset values. The moment and the waiting commands are not the device's,
and the DRAM's bytes are lost with its reset (R75): their free values are new ones (log 9). -/
def assertReset (s : State) : State :=
  { State.reset with pending := s.pending, now := s.now, dramGen := s.dramGen + 1 }

/-- RESET_N_ASSERT (R174). -/
def execResetNAssert (s : State) : Host.Outcome State Fault Refusal := .next (assertReset s)

/-- R163: every link starts QUIET at the release. -/
def startQuiet (s : State) : State :=
  { s with hosts := s.hosts.imap fun _ p =>
      { p with link := { p.link with quietEnd := some (s.now + Config.quietTime) } } }

/-- R175: RESET_N is released: the HOLD phase is counted from now. -/
def releaseReset (s : State) : State :=
  startQuiet { s with
    resetN := true
    seq := { s.seq with phaseEnd := some (s.now + Config.holdPhase) } }

/-- RESET_N_RELEASE (R175). -/
def execResetNRelease (s : State) : Host.Outcome State Fault Refusal :=
  if s.resetN then .next s else .next (releaseReset s)

/-! ## The phases (R175 to R177) -/

/-- The device is STARTING in this phase, and the phase end has come. -/
def State.phaseOver (s : State) (p : Phase) : Bool :=
  decide (s.seq.device = .starting p) && due s.now s.seq.phaseEnd

/-- R175: HOLD ends: DRESET_N is released, the clock starts and SETTLE begins. -/
def endHold (s : State) : State :=
  (s.setSeq { s.seq with
    device := .starting .settle, phaseEnd := some (s.now + Config.settlePhase) }).setChan
    { s.chan with dresetN := true, clockOn := true }

/-- HOLD_PHASE_END (R175). -/
def execHoldPhaseEnd (s : State) : Host.Outcome State Fault Refusal :=
  if s.phaseOver .hold then .next (endHold s) else .next s

/-- R176: the four mode settings in their order. -/
def modeSetting (n : Nat) : ModeSetting :=
  match n with
  | 0 => .latency
  | 1 => .burst .linearWrap
  | 2 => .drive
  | _ => .selfRefresh

/-- R176: the sequencer offers its next MODE_LOAD. -/
def offerModeLoad (s : State) : State :=
  offer (.modeLoad (modeSetting s.seq.modeLoadsDone)) .sequencer
    (s.setSeq { s.seq with stepOffer := .offered })

/-- R175, R176: SETTLE ends: CKE is driven high, MODES begins and the first MODE_LOAD is offered. -/
def endSettle (s : State) : State :=
  offerModeLoad ((s.setSeq { s.seq with
    device := .starting .modes, phaseEnd := none, modeLoadsDone := 0 }).setChan
    { s.chan with cke := true })

/-- SETTLE_PHASE_END (R175). -/
def execSettlePhaseEnd (s : State) : Host.Outcome State Fault Refusal :=
  if s.phaseOver .settle then .next (endSettle s) else .next s

/-- R177, R101: LOCK ends: CALIBRATE begins, LONG_CAL is offered, the account's timer starts with a full
interval, and the account offers what its request condition gives. -/
def endLock (s : State) : State :=
  let s1 := offer .longCal .sequencer (s.setSeq { s.seq with
    device := .starting .calibrate, phaseEnd := none, stepOffer := .offered })
  let s2 := judgeAccount (s1.setAccount { s1.account with
    timer := some (s1.now + intervalOf s1.agree.live.rate) })
  if s2.refreshWanted then makeAccountOffer s2 else s2

/-- LOCK_PHASE_END (R177). -/
def execLockPhaseEnd (s : State) : Host.Outcome State Fault Refusal :=
  if s.phaseOver .lock then .next (endLock s) else .next s

/-! ## Completions -/

/-- R177, R99: LONG_CAL completes: the calibration state is reset, TRAIN begins, and lane 0's first
attempt with it. -/
def landLongCal (s : State) : State :=
  let s1 := landMaint .active s
  let s2 := s1.setAccount { s1.account with sinceCal := 0, calDue := false }
  beginAttempt 0 .startUp (s2.setSeq { s2.seq with device := .starting .train, stepOffer := .none })

/-- LONG_CAL_COMPLETION (R177). -/
def execLongCalCompletion (s : State) : Host.Outcome State Fault Refusal :=
  if s.inFlight .longCal && s.maintDue then .next (landLongCal s) else .next s

/-- R82: a burst setting sets the loaded burst order; the other settings leave it. -/
def loadSetting (m : ModeSetting) (s : State) : State :=
  match m with
  | .burst o => s.setChan { s.chan with loadedOrder := some o }
  | .latency | .drive | .selfRefresh => s

/-- R176: a mode load of start-up completes: the next is offered, or after the fourth LOCK begins. -/
def countModeLoad (s : State) : State :=
  let s' := s.setSeq { s.seq with
    modeLoadsDone := s.seq.modeLoadsDone + 1, stepOffer := .none }
  if s'.seq.modeLoadsDone < 4 then offerModeLoad s'
  else s'.setSeq { s'.seq with
    device := .starting .lock, phaseEnd := some (s.now + Config.lockPhase) }

/-- R127: the agreement unit's mode load completes: the commit stands next. -/
def loadedForApply (s : State) : State := s.setAgree { s.agree with applyStep := some .commit }

/-- R74, R82: a MODE_LOAD completes. -/
def landModeLoad (m : ModeSetting) (by_ : Requester) (s : State) : State :=
  let s' := loadSetting m (landMaint .active s)
  if by_ = .sequencer then countModeLoad s' else loadedForApply s'

/-- The maintenance operation in flight, where its completion has come. -/
def State.landed (s : State) : Option Offer :=
  match s.chan.maint with
  | none => none
  | some m => if m.due ≤ s.now then some m.offer else none

/-- MODE_LOAD_COMPLETION (R82). -/
def execModeLoadCompletion (s : State) : Host.Outcome State Fault Refusal :=
  match s.landed with
  | none => .next s
  | some o =>
    match o.op with
    | .modeLoad m => .next (landModeLoad m o.by_ s)
    | .refresh | .shortCal | .longCal | .trainStep _ _ | .standbyEnter | .standbyExit => .next s

/-- R83, R178: after a step the lane captures with the delay of its record as it stands. -/
def restoreCapture (lane : Lane) (s : State) : State :=
  setCapture lane s.seq.lanes[lane.val].delay s

/-- R74, R83, R179: a TRAIN_STEP completes with its sample. -/
def landTrainStep (lane : Lane) (sample : Bool) (s : State) : State :=
  let s1 := landMaint .active s
  let s2 := s1.setSeq { s1.seq with stepOffer := .none }
  restoreCapture lane
    (match s2.seq.sweep with
    | none => s2
    | some w => actOnSample sample w s2)

/-- TRAIN_STEP_COMPLETION (R179). -/
def execTrainStepCompletion (sample : Bool) (s : State) : Host.Outcome State Fault Refusal :=
  match s.landed with
  | none => .next s
  | some o =>
    match o.op with
    | .trainStep lane _ => .next (landTrainStep lane sample s)
    | .refresh | .shortCal | .longCal | .modeLoad _ | .standbyEnter | .standbyExit => .next s

end Sys2Proof.Machine
end

