-- ==== Sys2Proof/Machine/Transfers.lean ====
section
/-! DEFINITION. The transfer engine (chapter 3): READ, WRITE, INTAKE_TAKE, and the issue and completion
of bursts, BURST_ISSUE and BURST_COMPLETION. -/

namespace Sys2Proof.Machine

/-! ## Acceptance (R53, R55, R56) -/

/-- R56: a request handed to the transfer engine while the list is full, or while older requests still
wait in the intake (log 13), is held in the intake; otherwise it is checked at once. -/
def handTransfer (q : TransferReq) (s : State) : State :=
  if s.xfer.list.length < Config.transferLimit ∧ s.xfer.intake = [] then checkTransfer q s
  else s.setIntake (s.xfer.intake ++ [q])

/-- R156: READ and WRITE go to the transfer engine from an ATTACHED or LEAVING host. -/
def transferRequest (q : TransferReq) (s : State) : State :=
  match s.port q.host with
  | .attached | .leaving => handTransfer q s
  | .down | .linked | .joining => answerStatus q.host q.tag .notAttached s

/-- READ (R50, R53). -/
def execRead (h : HostId) (f : FrameHdr) (tag : Tag) (bank : Byte) (bursts : Byte) (col : BitVec 16)
    (s : State) : Host.Outcome State Fault Refusal :=
  .next (request h f tag .read
    (transferRequest { host := h, tag := tag, kind := .read, bank := bank, bursts := bursts, col := col
                       data := [], enables := [] }) s)

/-- WRITE (R51, R53). A carried length that does not agree with the burst count is a malformed message
(R188). -/
def execWrite (h : HostId) (f : FrameHdr) (tag : Tag) (bank : Byte) (bursts : Byte) (col : BitVec 16)
    (payload : List WriteBurst) (s : State) : Host.Outcome State Fault Refusal :=
  if payload.length = bursts.toNat then
    .next (request h f tag .write
      (transferRequest { host := h, tag := tag, kind := .write, bank := bank, bursts := bursts
                         col := col, data := payloadData payload
                         enables := payloadEnables payload }) s)
  else .next (deliver h f true (malformed h) s)

/-- INTAKE_TAKE (R56). -/
def execIntakeTake (s : State) : Host.Outcome State Fault Refusal := .next (takeIntake s)

/-! ## Bursts (R57 to R59, R72) -/

/-- R82: the burst order in which the DRAM and the channel controller place and capture beats: the loaded
one. The loaded order is absent only before start-up has loaded it, when no burst can issue; the live
order stands there (log 20). -/
def State.placingOrder (s : State) : BurstOrder := s.chan.loadedOrder.getD s.agree.live.burstOrder

/-- R52, R72: the bytes of burst `n` of a WRITE whose enable flags are set are written to the open row. -/
def writeBurstBytes (o : BurstOrder) (e : Transfer) (n : Nat) (m : Memory) : Memory :=
  burstBytes.foldl
    (fun m k =>
      if e.enables.getD (32 * n + k.val) false then
        Memory.write m (transferAddress o e.bank e.row e.col n k) (e.data.getD (32 * n + k.val) 0#8)
      else m) m

/-- R50, R59: the 32 bytes that burst `n` of a READ returns, in transfer order. -/
def readBurstBytes (s : State) (e : Transfer) (n : Nat) : List Byte :=
  burstBytes.map fun k => s.dramByteAt (transferAddress s.placingOrder e.bank e.row e.col n k)

/-- R58, R72: the burst that the arbiter took is issued: the entry counts it, the bank's record shows it,
the command slot runs, a write's enabled bytes go to the DRAM, and a WRITE whose last burst this is gets
answered OK unless it is cancelled. -/
def issueBurst (i : Nat) (s : State) : State :=
  match s.xfer.list[i]? with
  | none => s
  | some e =>
    let e' := { e with issued := e.issued + 1 }
    let s1 := s.setList (s.xfer.list.set i e')
    let s2 := s1.setOp e.bank { s.op e.bank with
      inFlight := match e.kind with | .read => Flight.readBurst | .write => Flight.writeBurst
      due := some (s.now + Config.burstTime) }
    let s3 := startSlot s2
    match e.kind with
    | .read => s3
    | .write =>
      let s4 := s3.setDram (writeBurstBytes s.placingOrder e e.issued s.dram)
      if e'.issued = e.bursts ∧ e.cancelled = false then answerStatus e.host e.tag .ok s4 else s4

/-- BURST_ISSUE (R58, R72): the burst candidate that the arbiter chooses. -/
def execBurstIssue (s : State) : Host.Outcome State Fault Refusal :=
  match s.arbiter with
  | some (.burst i) => .next (issueBurst i s)
  | some (.maint _) | some (.precharge _) | some (.activate _) | none => .next s

/-- The entry with a burst in flight on the bank: at most one operation is in flight on a bank, so it is
the first entry with the bank whose bursts completed are fewer than those issued (log 21). -/
def State.flyingEntry (s : State) (b : Bank) : Option Nat :=
  s.xfer.list.findIdx? fun e => decide (e.bank = b) && decide (e.completed < e.issued)

/-- R59: a completed entry leaves the list; a READ that is not cancelled is answered OK with its data, the
lease table hears if the host has no transfer left on the bank (R61), and the intake is taken from as far
as the list has room (R56, log 35). -/
def retireEntry (i : Nat) (e : Transfer) (s : State) : State :=
  let s' := s.setList (s.xfer.list.eraseIdx i)
  let s'' := match e.kind with
    | .read => if e.cancelled then s' else answer e.host e.tag .ok (.data e.data) s'
    | .write => s'
  takeIntake (finishHolder e.bank e.host s'')

/-- R59: a burst of the entry at a position has completed. -/
def countBurst (i : Nat) (s : State) : State :=
  match s.xfer.list[i]? with
  | none => s
  | some e =>
    let e' := { e with
      completed := e.completed + 1
      data := match e.kind with
        | .read => e.data ++ readBurstBytes s e e.completed
        | .write => e.data }
    if e'.completed = e.bursts then retireEntry i e' s
    else s.setList (s.xfer.list.set i e')

/-- R72: a burst on the bank's record has come to its end; a write burst sets the recovery end. -/
def BankOp.landBurst (o : BankOp) (now : Time) : BankOp :=
  match o.inFlight with
  | .writeBurst =>
    { o with inFlight := .none, due := none
             recoveryEnd := some (now + Config.recoveryTime), recoveryDone := false }
  | _ => { o with inFlight := .none, due := none }

/-- R59, R72: the burst in flight on the bank completes. -/
def completeBurst (b : Bank) (s : State) : State :=
  let s' := s.setOp b ((s.op b).landBurst s.now)
  match s.flyingEntry b with
  | none => s'
  | some i => countBurst i s'

/-- R72: a burst is in flight on the bank and its completion has come. -/
def State.burstDue (s : State) (b : Bank) : Bool :=
  (decide ((s.op b).inFlight = .readBurst) || decide ((s.op b).inFlight = .writeBurst)) &&
    due s.now (s.op b).due

/-- BURST_COMPLETION (R59, R72). What was first at the bus keeps its place before the bank's next burst
(R81). -/
def execBurstCompletion (b : Bank) (s : State) : Host.Outcome State Fault Refusal :=
  if s.burstDue b then .next (completeBurst b (keepPlace s)) else .next s

end Sys2Proof.Machine
end

