-- ==== Sys2Proof/Machine/Dispatch.lean ====
section
/-! DEFINITION. `exec`: the effect of each command on everything but the queue, one arm per constructor. -/

namespace Sys2Proof.Machine

def exec (i : Instr) (s : State) : Host.Outcome State Fault Refusal :=
  match i with
  | .resetNAssert => Sys2Proof.Machine.execResetNAssert s
  | .resetNRelease => Sys2Proof.Machine.execResetNRelease s
  | .holdPhaseEnd => Sys2Proof.Machine.execHoldPhaseEnd s
  | .settlePhaseEnd => Sys2Proof.Machine.execSettlePhaseEnd s
  | .lockPhaseEnd => Sys2Proof.Machine.execLockPhaseEnd s
  | .intervalExpiry => Sys2Proof.Machine.execIntervalExpiry s
  | .holdDeadlineExpiry b h => Sys2Proof.Machine.execHoldDeadlineExpiry b h s
  | .waitDeadlineExpiry b h => Sys2Proof.Machine.execWaitDeadlineExpiry b h s
  | .ballotDeadlineExpiry => Sys2Proof.Machine.execBallotDeadlineExpiry s
  | .drainDeadlineExpiry => Sys2Proof.Machine.execDrainDeadlineExpiry s
  | .silenceDeadlineExpiry h => Sys2Proof.Machine.execSilenceDeadlineExpiry h s
  | .quietEnd h => Sys2Proof.Machine.execQuietEnd h s
  | .sendTimerExpiry h => Sys2Proof.Machine.execSendTimerExpiry h s
  | .sendFrame h => Sys2Proof.Machine.execSendFrame h s
  | .receiveIdleFrame h f => Sys2Proof.Machine.execReceiveIdleFrame h f s
  | .receiveNakFrame h f n => Sys2Proof.Machine.execReceiveNakFrame h f n s
  | .receiveCorruptedFrame h => Sys2Proof.Machine.execReceiveCorruptedFrame h s
  | .messageFrameDiscarded h f tagged => Sys2Proof.Machine.execMessageFrameDiscarded h f tagged s
  | .malformedMessage h f tagged => Sys2Proof.Machine.execMalformedMessage h f tagged s
  | .join h f tag => Sys2Proof.Machine.execJoin h f tag s
  | .joinComplete => Sys2Proof.Machine.execJoinComplete s
  | .leave h f tag => Sys2Proof.Machine.execLeave h f tag s
  | .leaveComplete h => Sys2Proof.Machine.execLeaveComplete h s
  | .openLease h f tag bank row mode wait => Sys2Proof.Machine.execOpen h f tag bank row mode wait s
  | .closeLease h f tag bank => Sys2Proof.Machine.execClose h f tag bank s
  | .closeComplete b h => Sys2Proof.Machine.execCloseComplete b h s
  | .revocationFinish b h => Sys2Proof.Machine.execRevocationFinish b h s
  | .grantFromQueue b => Sys2Proof.Machine.execGrantFromQueue b s
  | .read h f tag bank bursts col => Sys2Proof.Machine.execRead h f tag bank bursts col s
  | .write h f tag bank bursts col payload => Sys2Proof.Machine.execWrite h f tag bank bursts col payload s
  | .intakeTake => Sys2Proof.Machine.execIntakeTake s
  | .propose h f tag base items => Sys2Proof.Machine.execPropose h f tag base items s
  | .vote h f tag number accept => Sys2Proof.Machine.execVote h f tag number accept s
  | .drainComplete => Sys2Proof.Machine.execDrainComplete s
  | .commit => Sys2Proof.Machine.execCommit s
  | .park h f tag => Sys2Proof.Machine.execPark h f tag s
  | .unpark h f tag => Sys2Proof.Machine.execUnpark h f tag s
  | .standbyEntering => Sys2Proof.Machine.execStandbyEntering s
  | .standbyEnterOffer => Sys2Proof.Machine.execStandbyEnterOffer s
  | .query h f tag => Sys2Proof.Machine.execQuery h f tag s
  | .queryBank h f tag bank => Sys2Proof.Machine.execQueryBank h f tag bank s
  | .noteAck h f n => Sys2Proof.Machine.execNoteAck h f n s
  | .notificationDelivery h => Sys2Proof.Machine.execNotificationDelivery h s
  | .refreshRequest => Sys2Proof.Machine.execRefreshRequest s
  | .setupEnd b => Sys2Proof.Machine.execSetupEnd b s
  | .commandSlotEnd => Sys2Proof.Machine.execCommandSlotEnd s
  | .writeRecoveryEnd b => Sys2Proof.Machine.execWriteRecoveryEnd b s
  | .activateIssue => Sys2Proof.Machine.execActivateIssue s
  | .prechargeIssue => Sys2Proof.Machine.execPrechargeIssue s
  | .burstIssue => Sys2Proof.Machine.execBurstIssue s
  | .refreshIssue => Sys2Proof.Machine.execRefreshIssue s
  | .shortCalIssue => Sys2Proof.Machine.execShortCalIssue s
  | .longCalIssue => Sys2Proof.Machine.execLongCalIssue s
  | .modeLoadIssue => Sys2Proof.Machine.execModeLoadIssue s
  | .trainStepIssue => Sys2Proof.Machine.execTrainStepIssue s
  | .standbyEnterIssue => Sys2Proof.Machine.execStandbyEnterIssue s
  | .standbyExitIssue => Sys2Proof.Machine.execStandbyExitIssue s
  | .activateCompletion b => Sys2Proof.Machine.execActivateCompletion b s
  | .prechargeCompletion b => Sys2Proof.Machine.execPrechargeCompletion b s
  | .burstCompletion b => Sys2Proof.Machine.execBurstCompletion b s
  | .refreshCompletion => Sys2Proof.Machine.execRefreshCompletion s
  | .shortCalCompletion => Sys2Proof.Machine.execShortCalCompletion s
  | .longCalCompletion => Sys2Proof.Machine.execLongCalCompletion s
  | .modeLoadCompletion => Sys2Proof.Machine.execModeLoadCompletion s
  | .trainStepCompletion sample => Sys2Proof.Machine.execTrainStepCompletion sample s
  | .standbyEnterCompletion => Sys2Proof.Machine.execStandbyEnterCompletion s
  | .standbyExitCompletion => Sys2Proof.Machine.execStandbyExitCompletion s

end Sys2Proof.Machine
end

