-- ==== Sys2Proof/Machine/Step.lean ====
section
/-! DEFINITION. One step: the command at the front of the queue is taken and carried out with the queue's
rest; on an empty queue the clock advances by 1 ns, unless something is still to happen at the present
moment (log 1, 2). -/

namespace Sys2Proof.Machine

/-- A step on an empty queue: the clock advances by 1 ns, unless it is held (log 2). -/
def State.idle (s : State) : State := if s.timeHeld then s else { s with now := s.now + 1 }

/-- One step of the machine. -/
def step (s : State) : Host.Outcome State Fault Refusal :=
  match s.pending with
  | [] => .next s.idle
  | c :: rest => exec c { s with pending := rest }

/-- `s` with the command that a word spells at the front of its queue; `s` unchanged where the word
spells none, which is every word (log 6). -/
def State.withFetchWord (s : State) (nbits w : Nat) : State :=
  match decodeTableWord nbits w with
  | none => s
  | some c => { s with pending := c :: s.pending }

end Sys2Proof.Machine
end

