-- ==== Sys2Proof/Machine/Formats.lean ====
section
/-! DEFINITION. The byte layouts of chapter 11 (R185 to R190): the CRC, received frames and the command
that each one is, the bytes of a host's requests, and the bytes of what the LC4 sends. -/

namespace Sys2Proof.Machine

/-! ## Conventions (R185) -/

/-- R185: a two-byte field, least significant byte first. -/
def le16 (x : BitVec 16) : List Byte := [x.setWidth 8, (x >>> 8).setWidth 8]

/-- R185: the value of a two-byte field. -/
def of16 (lo hi : Byte) : BitVec 16 := hi ++ lo

/-- R185: a four-byte field, least significant byte first. -/
def le32 (x : BitVec 32) : List Byte :=
  [x.setWidth 8, (x >>> 8).setWidth 8, (x >>> 16).setWidth 8, (x >>> 24).setWidth 8]

/-- R185: the value of a four-byte field. -/
def of32 (a b c d : Byte) : BitVec 32 := d ++ c ++ b ++ a

/-- A number as a byte. -/
def byteOf (n : Nat) : Byte := BitVec.ofNat 8 n

/-- R185: a set of hosts as one byte, bit n for port n. -/
def hostSetByte (t : HostSet) : Byte :=
  (if t.a then 1#8 else 0#8) ||| (if t.b then 2#8 else 0#8) |||
    (if t.c then 4#8 else 0#8) ||| (if t.d then 8#8 else 0#8)

/-- The port number of a host (00_scope section 5). -/
def portByte : HostId → Byte
  | .a => 0#8
  | .b => 1#8
  | .c => 2#8
  | .d => 3#8

/-! ## The CRC and frames (R186) -/

/-- R186: one bit through the CRC register. The generator 04C11DB7h stands bit-reversed, since bytes are
taken least significant bit first (log 14). -/
def crcBit (r : BitVec 32) : BitVec 32 :=
  if r.getLsbD 0 then (r >>> 1) ^^^ 0xEDB88320#32 else r >>> 1

/-- R186: one byte through the CRC register. -/
def crcByte (r : BitVec 32) (x : Byte) : BitVec 32 :=
  crcBit (crcBit (crcBit (crcBit (crcBit (crcBit (crcBit (crcBit (r ^^^ x.setWidth 32))))))))

/-- R186: the CRC of the bytes before it: the register starts at FFFFFFFFh and is inverted at the end. -/
def crc32 (l : List Byte) : BitVec 32 := ~~~(l.foldl crcByte 0xFFFFFFFF#32)

/-- R186: a frame's bytes: everything before the CRC, then the CRC. -/
def sealFrame (l : List Byte) : List Byte := l ++ le32 (crc32 l)

/-- What the link controller makes of a received frame. -/
inductive Received where
  | corrupted
  | idle (f : FrameHdr)
  | nak (f : FrameHdr) (n : Seq)
  | message (f : FrameHdr) (m : List Byte)
  deriving DecidableEq, Repr

/-- R186: the bytes of a received frame before its CRC, where the CRC is right. -/
def openFrame (l : List Byte) : Option (List Byte) :=
  let body := l.take (l.length - 4)
  if 4 ≤ l.length ∧ l.drop (l.length - 4) = le32 (crc32 body) then some body else none

/-- R186: the fields of a frame whose CRC is right, by body kind. -/
def readBody (l : List Byte) : Received :=
  match l with
  | s :: a :: k :: body =>
    if k = 0#8 then (if body = [] then .idle ⟨s, a⟩ else .corrupted)
    else if k = 1#8 then (if 4 ≤ body.length then .message ⟨s, a⟩ body else .corrupted)
    else if k = 2#8 then
      match body with
      | [n] => .nak ⟨s, a⟩ n
      | _ => .corrupted
    else .corrupted
  | _ => .corrupted

/-- R186: a received frame. -/
def readFrame (l : List Byte) : Received :=
  match openFrame l with
  | none => .corrupted
  | some b => readBody b

/-! ## Requests (R187 to R189) -/

/-- R187: the payload length of a request kind, computed from the payload's own burst count or item count
byte; none where the kind is unknown or that byte is missing. -/
def payloadLength (kind : Byte) (p : List Byte) : Option Nat :=
  match kind.toNat with
  | 1 | 2 | 9 | 10 | 11 => some 0
  | 3 => some 6
  | 4 | 12 | 13 => some 1
  | 5 => some 4
  | 6 => p[1]?.map fun b => 4 + 36 * b.toNat
  | 7 => p[2]?.map fun n => 3 + 8 * n.toNat
  | 8 => some 2
  | _ => none

/-- R187: the kinds of request. -/
def knownKind (kind : Byte) : Bool := decide (1 ≤ kind.toNat) && decide (kind.toNat ≤ 13)

/-- R150: the kinds that carry a tag: every request but NOTE_ACK (log 12). -/
def taggedKind (kind : Byte) : Bool := decide (1 ≤ kind.toNat) && decide (kind.toNat ≤ 12)

/-- R188 check 3: the item count of a PROPOSE is 0 or greater than 16. -/
def badItemCount (kind : Byte) (p : List Byte) : Bool :=
  decide (kind = 7#8) &&
    match p[2]? with
    | none => false
    | some n => decide (n.toNat = 0) || decide (16 < n.toNat)

/-- R188: the first check that finds a message malformed, by its order, or none for a well-formed one. -/
def malformedBy (kind : Byte) (length : BitVec 16) (p : List Byte) : Option Nat :=
  if knownKind kind = false then some 1
  else if length.toNat ≠ p.length then some 2
  else if badItemCount kind p then some 3
  else if payloadLength kind p ≠ some length.toNat then some 4
  else none

/-- R187: only the low four bits of the tag byte are read. -/
def tagOfByte (x : Byte) : Tag := ⟨x.toNat % 16, Nat.mod_lt _ (by decide)⟩

/-- R189: one burst of a WRITE, 32 data bytes and then 4 enable bytes. -/
def readBurst (l : List Byte) : WriteBurst :=
  { data := Vector.ofFn fun i => l.getD i.val 0#8
    enables := of32 (l.getD 32 0#8) (l.getD 33 0#8) (l.getD 34 0#8) (l.getD 35 0#8) }

/-- R189: the bursts of a WRITE, in order. -/
def readBursts (n : Nat) (l : List Byte) : List WriteBurst :=
  match n with
  | 0 => []
  | n + 1 => readBurst l :: readBursts n (l.drop 36)

/-- R189: one change item. -/
def readItem (l : List Byte) : RawItem :=
  { kind := l.getD 0 0#8, target := l.getD 1 0#8, bankSet := l.getD 2 0#8, rights := l.getD 3 0#8
    valueA := of16 (l.getD 4 0#8) (l.getD 5 0#8), valueB := of16 (l.getD 6 0#8) (l.getD 7 0#8) }

/-- R189: the items of a PROPOSE, in list order. -/
def readItems (n : Nat) (l : List Byte) : List RawItem :=
  match n with
  | 0 => []
  | n + 1 => readItem l :: readItems n (l.drop 8)

/-- R189: the lease mode of a mode byte; only bit 0 is read. -/
def modeOfByte (x : Byte) : LeaseMode := if x.getLsbD 0 then .exclusive else .shared

/-- R189: the request that a well-formed message carries. -/
def requestOf (h : HostId) (f : FrameHdr) (kind tag : Byte) (p : List Byte) : Instr :=
  match kind.toNat with
  | 1 => .join h f (tagOfByte tag)
  | 2 => .leave h f (tagOfByte tag)
  | 3 => .openLease h f (tagOfByte tag) (p.getD 0 0#8) (of16 (p.getD 2 0#8) (p.getD 3 0#8))
      (modeOfByte (p.getD 1 0#8)) (of16 (p.getD 4 0#8) (p.getD 5 0#8))
  | 4 => .closeLease h f (tagOfByte tag) (p.getD 0 0#8)
  | 5 => .read h f (tagOfByte tag) (p.getD 0 0#8) (p.getD 1 0#8)
      (of16 (p.getD 2 0#8) (p.getD 3 0#8))
  | 6 => .write h f (tagOfByte tag) (p.getD 0 0#8) (p.getD 1 0#8)
      (of16 (p.getD 2 0#8) (p.getD 3 0#8)) (readBursts (p.getD 1 0#8).toNat (p.drop 4))
  | 7 => .propose h f (tagOfByte tag) (of16 (p.getD 0 0#8) (p.getD 1 0#8))
      (readItems (p.getD 2 0#8).toNat (p.drop 3))
  | 8 => .vote h f (tagOfByte tag) (p.getD 0 0#8) ((p.getD 1 0#8).getLsbD 0)
  | 9 => .park h f (tagOfByte tag)
  | 10 => .unpark h f (tagOfByte tag)
  | 11 => .query h f (tagOfByte tag)
  | 12 => .queryBank h f (tagOfByte tag) (p.getD 0 0#8)
  | 13 => .noteAck h f (p.getD 0 0#8)
  | _ => .malformedMessage h f false

/-- R187, R188: the command that a received message is. -/
def commandOfMessage (h : HostId) (f : FrameHdr) (m : List Byte) : Instr :=
  match m with
  | kind :: tag :: l0 :: l1 :: p =>
    match malformedBy kind (of16 l0 l1) p with
    | none => requestOf h f kind tag p
    | some _ => .malformedMessage h f (taggedKind kind)
  | _ => .receiveCorruptedFrame h

/-- R146, R186: the command that a frame received on a host's link is. -/
def commandOfFrame (h : HostId) (l : List Byte) : Instr :=
  match readFrame l with
  | .corrupted => .receiveCorruptedFrame h
  | .idle f => .receiveIdleFrame h f
  | .nak f n => .receiveNakFrame h f n
  | .message f m => commandOfMessage h f m

/-! ## The bytes of a host's frames -/

/-- R187: a message: header and payload. -/
def messageBytes (kind tag : Byte) (p : List Byte) : List Byte :=
  kind :: tag :: le16 (BitVec.ofNat 16 p.length) ++ p

/-- A tag as the header carries it. -/
def tagByte (t : Tag) : Byte := byteOf t.val

/-- R189: one burst of a WRITE. -/
def burstWords (w : WriteBurst) : List Byte := w.data.toList ++ le32 w.enables

/-- R189: one change item. -/
def itemBytes (x : RawItem) : List Byte :=
  [x.kind, x.target, x.bankSet, x.rights] ++ le16 x.valueA ++ le16 x.valueB

/-- R189: a mode byte. -/
def modeByte : LeaseMode → Byte
  | .shared => 0#8
  | .exclusive => 1#8

/-- R187, R189: the message that a request command carries, where the command is a request. -/
def requestMessage : Instr → Option (List Byte)
  | .join _ _ t => some (messageBytes 0x01#8 (tagByte t) [])
  | .leave _ _ t => some (messageBytes 0x02#8 (tagByte t) [])
  | .openLease _ _ t b r m w =>
    some (messageBytes 0x03#8 (tagByte t) ([b, modeByte m] ++ le16 r ++ le16 w))
  | .closeLease _ _ t b => some (messageBytes 0x04#8 (tagByte t) [b])
  | .read _ _ t b n c => some (messageBytes 0x05#8 (tagByte t) ([b, n] ++ le16 c))
  | .write _ _ t b n c p =>
    some (messageBytes 0x06#8 (tagByte t) ([b, n] ++ le16 c ++ p.flatMap burstWords))
  | .propose _ _ t e l =>
    some (messageBytes 0x07#8 (tagByte t) (le16 e ++ [byteOf l.length] ++ l.flatMap itemBytes))
  | .vote _ _ t n y => some (messageBytes 0x08#8 (tagByte t) [n, if y then 1#8 else 0#8])
  | .park _ _ t => some (messageBytes 0x09#8 (tagByte t) [])
  | .unpark _ _ t => some (messageBytes 0x0A#8 (tagByte t) [])
  | .query _ _ t => some (messageBytes 0x0B#8 (tagByte t) [])
  | .queryBank _ _ t b => some (messageBytes 0x0C#8 (tagByte t) [b])
  | .noteAck _ _ n => some (messageBytes 0x0D#8 0#8 [n])
  | .resetNAssert | .resetNRelease | .holdPhaseEnd | .settlePhaseEnd | .lockPhaseEnd
  | .intervalExpiry | .holdDeadlineExpiry _ _ | .waitDeadlineExpiry _ _ | .ballotDeadlineExpiry
  | .drainDeadlineExpiry | .silenceDeadlineExpiry _ | .quietEnd _ | .sendTimerExpiry _
  | .sendFrame _ | .receiveIdleFrame _ _ | .receiveNakFrame _ _ _ | .receiveCorruptedFrame _
  | .messageFrameDiscarded _ _ _ | .malformedMessage _ _ _ | .joinComplete | .leaveComplete _
  | .closeComplete _ _ | .revocationFinish _ _ | .grantFromQueue _ | .intakeTake
  | .drainComplete | .commit | .standbyEntering | .standbyEnterOffer | .notificationDelivery _
  | .refreshRequest | .setupEnd _ | .commandSlotEnd | .writeRecoveryEnd _ | .activateIssue
  | .prechargeIssue | .burstIssue | .refreshIssue | .shortCalIssue | .longCalIssue
  | .modeLoadIssue | .trainStepIssue | .standbyEnterIssue | .standbyExitIssue
  | .activateCompletion _ | .prechargeCompletion _ | .burstCompletion _ | .refreshCompletion
  | .shortCalCompletion | .longCalCompletion | .modeLoadCompletion | .trainStepCompletion _
  | .standbyEnterCompletion | .standbyExitCompletion => none

/-- The host and the frame header of a request command. -/
def requestHeader : Instr → Option (HostId × FrameHdr)
  | .join h f _ | .leave h f _ | .openLease h f _ _ _ _ _ | .closeLease h f _ _
  | .read h f _ _ _ _ | .write h f _ _ _ _ _ | .propose h f _ _ _ | .vote h f _ _ _
  | .park h f _ | .unpark h f _ | .query h f _ | .queryBank h f _ _ | .noteAck h f _ =>
    some (h, f)
  | .resetNAssert | .resetNRelease | .holdPhaseEnd | .settlePhaseEnd | .lockPhaseEnd
  | .intervalExpiry | .holdDeadlineExpiry _ _ | .waitDeadlineExpiry _ _ | .ballotDeadlineExpiry
  | .drainDeadlineExpiry | .silenceDeadlineExpiry _ | .quietEnd _ | .sendTimerExpiry _
  | .sendFrame _ | .receiveIdleFrame _ _ | .receiveNakFrame _ _ _ | .receiveCorruptedFrame _
  | .messageFrameDiscarded _ _ _ | .malformedMessage _ _ _ | .joinComplete | .leaveComplete _
  | .closeComplete _ _ | .revocationFinish _ _ | .grantFromQueue _ | .intakeTake
  | .drainComplete | .commit | .standbyEntering | .standbyEnterOffer | .notificationDelivery _
  | .refreshRequest | .setupEnd _ | .commandSlotEnd | .writeRecoveryEnd _ | .activateIssue
  | .prechargeIssue | .burstIssue | .refreshIssue | .shortCalIssue | .longCalIssue
  | .modeLoadIssue | .trainStepIssue | .standbyEnterIssue | .standbyExitIssue
  | .activateCompletion _ | .prechargeCompletion _ | .burstCompletion _ | .refreshCompletion
  | .shortCalCompletion | .longCalCompletion | .modeLoadCompletion | .trainStepCompletion _
  | .standbyEnterCompletion | .standbyExitCompletion => none

/-- R186: the bytes before the CRC of a frame with a body of a kind. -/
def frameBytes (f : FrameHdr) (kind : Byte) (body : List Byte) : List Byte :=
  f.seq :: f.ack :: kind :: body

/-- R186: the frame that a host sends to make a request. -/
def encodeRequest (c : Instr) : Option (HostId × List Byte) :=
  match requestHeader c, requestMessage c with
  | some (h, f), some m => some (h, sealFrame (frameBytes f 0x01#8 m))
  | _, _ => none

/-! ## What the LC4 sends (R190) -/

/-- R187: the request kind byte. -/
def ReqKind.code : ReqKind → Byte
  | .join => 0x01#8
  | .leave => 0x02#8
  | .openLease => 0x03#8
  | .closeLease => 0x04#8
  | .read => 0x05#8
  | .write => 0x06#8
  | .propose => 0x07#8
  | .vote => 0x08#8
  | .park => 0x09#8
  | .unpark => 0x0A#8
  | .query => 0x0B#8
  | .queryBank => 0x0C#8

/-- R190: the status codes. -/
def Status.code : Status → Byte
  | .ok => 0x00#8
  | .range => 0x01#8
  | .parked => 0x02#8
  | .alreadyHeld => 0x03#8
  | .noRight => 0x04#8
  | .notHeld => 0x05#8
  | .closing => 0x06#8
  | .revoked => 0x07#8
  | .mode => 0x08#8
  | .timedOut => 0x09#8
  | .withdrawn => 0x0A#8
  | .busyLeases => 0x0B#8
  | .busy => 0x0C#8
  | .stale => 0x0D#8
  | .invalid => 0x0E#8
  | .noBallot => 0x0F#8
  | .notElector => 0x10#8
  | .alreadyVoted => 0x11#8
  | .notAttached => 0x12#8
  | .alreadyJoined => 0x13#8
  | .deviceFailed => 0x14#8

/-- R190: the reason of a LEASE_REVOKED. HOST_LOST is never sent (R30); it has no code. -/
def RevokeReason.code : RevokeReason → Byte
  | .holdExpired => 0#8
  | .refresh => 1#8
  | .config => 2#8
  | .hostLost => 0xFF#8

/-- R190: the reason of a CLOSE_REQUESTED. -/
def CloseReason.code : CloseReason → Byte
  | .refresh => 0#8
  | .config => 1#8

/-- R190: the outcome, reason and rejecting host of a PROPOSAL_RESOLVED. -/
def ProposalOutcome.bytes : ProposalOutcome → List Byte
  | .applied => [0#8, 0#8, 0xFF#8]
  | .abandoned (.rejected h) => [1#8, 1#8, portByte h]
  | .abandoned .timeout => [1#8, 2#8, 0xFF#8]
  | .abandoned .proposerLost => [1#8, 3#8, 0xFF#8]
  | .abandoned .trainingFailed => [1#8, 4#8, 0xFF#8]

/-- R190: the code and the tag byte of a FAULT. -/
def FaultCode.bytes : FaultCode → List Byte
  | .refreshMissed => [0#8, 0#8]
  | .tagInUse t => [1#8, tagByte t]
  | .badAck => [2#8, 0#8]
  | .malformed => [3#8, 0#8]

/-- R190: the payload of a notification, kind byte and fields. -/
def Notification.bytes : Notification → List Byte
  | .leaseRevoked b r => [0x01#8, byteOf b.val, r.code]
  | .overstayed b => [0x02#8, byteOf b.val]
  | .closeRequested r held => [0x03#8, r.code, held]
  | .proposalPosted n h items heavy =>
    [0x04#8, n, portByte h, byteOf items, if heavy then 1#8 else 0#8]
  | .proposalResolved n o epoch => [0x05#8, n] ++ o.bytes ++ le16 epoch
  | .hostJoined h => [0x06#8, portByte h]
  | .hostLeft h lost => [0x07#8, portByte h, if lost then 1#8 else 0#8]
  | .standbyEntered => [0x08#8]
  | .standbyLeft => [0x09#8]
  | .fault c => 0x0A#8 :: c.bytes
  | .overflow => [0x0B#8]

/-- R190: the device state byte. -/
def DeviceState.code : DeviceState → Byte
  | .starting .hold => 0#8
  | .starting .settle => 1#8
  | .starting .modes => 2#8
  | .starting .lock => 3#8
  | .starting .calibrate => 4#8
  | .starting .train => 5#8
  | .ready => 6#8
  | .failed => 7#8

/-- R190: the agreement unit's state byte. -/
def AgreeState.code : AgreeState → Byte
  | .idle => 0#8
  | .ballot => 1#8
  | .draining => 2#8
  | .applying => 3#8

/-- R190: the standby state byte. -/
def StandbyState.code : StandbyState → Byte
  | .running => 0#8
  | .entering => 1#8
  | .selfRefresh => 2#8
  | .exiting => 3#8

/-- R190: the status byte of a lane. -/
def LaneStatus.code : LaneStatus → Byte
  | .untrained => 0#8
  | .trained => 1#8
  | .failed => 2#8

/-- R190: the three bytes of a lane. -/
def LaneRecord.bytes (r : LaneRecord) : List Byte :=
  [r.status.code, r.delay.setWidth 8, byteOf r.attempts]

/-- R190: the device status record. -/
def StatusRecord.bytes (r : StatusRecord) : List Byte :=
  le16 0x5C41#16 ++ [0x01#8, r.device.code] ++ le16 r.epoch ++
    [r.agree.code, r.counter, hostSetByte r.attached, hostSetByte r.park, r.standby.code,
      BitVec.ofInt 8 r.owed, byteOf r.missed] ++
    r.lanes.toList.flatMap LaneRecord.bytes ++ [r.held, r.waited]

/-- R190: the bank state byte. -/
def BankState.code : BankState → Byte
  | .closed => 0#8
  | .activating => 1#8
  | .opened => 2#8
  | .precharging => 3#8

/-- R190: the status byte of a holder slot. -/
def HolderStatus.code : HolderStatus → Byte
  | .active => 0#8
  | .closing => 1#8
  | .revoking _ => 2#8

/-- R190: slots of a bank record, filled to a length with FFh. -/
def slots (n : Nat) (l : List Byte) : List Byte := (l ++ List.replicate n 0xFF#8).take n

/-- R190: the row of a bank record, FFFFh when absent. -/
def rowField : Option Row → BitVec 16
  | none => 0xFFFF#16
  | some r => r.setWidth 16

/-- R190: the mode of a bank record, FFh when absent. -/
def modeField : Option LeaseMode → Byte
  | none => 0xFF#8
  | some m => modeByte m

/-- R190: the bank record of a QUERY_BANK answer. -/
def BankSnapshot.bytes (r : BankSnapshot) : List Byte :=
  [r.state.code] ++ le16 (rowField r.row) ++ [modeField r.mode, byteOf r.holders.length] ++
    slots 8 (r.holders.flatMap fun x => [portByte x.1, x.2.code]) ++ [byteOf r.waiters.length] ++
    slots 4 (r.waiters.map portByte)

/-- R190: what follows the status of a response. -/
def Payload.bytes : Payload → List Byte
  | .none => []
  | .data l => l
  | .number n => [n]
  | .position n => [byteOf n]
  | .joined epoch t => le16 epoch ++ [hostSetByte t]
  | .status r => r.bytes
  | .bank r => r.bytes

/-- R187, R190: the bytes of a message of the LC4: a response with kind 20h, a notification with kind
30h and its number in the tag byte. -/
def OutMsg.bytes : OutMsg → List Byte
  | .response r => messageBytes 0x20#8 (tagByte r.tag) ([r.kind.code, r.status.code] ++ r.payload.bytes)
  | .note n x => messageBytes 0x30#8 n x.bytes

/-- R186: the bytes of a frame of the LC4. -/
def Frame.bytes (f : Frame) : List Byte :=
  sealFrame
    (match f.body with
    | .idle => frameBytes ⟨f.seq, f.ack⟩ 0x00#8 []
    | .nak n => frameBytes ⟨f.seq, f.ack⟩ 0x02#8 [n]
    | .message m => frameBytes ⟨f.seq, f.ack⟩ 0x01#8 m.bytes)

end Sys2Proof.Machine
end

