-- ==== Sys2Proof/Safety.lean ====
section
/-! DEFINITION. What a sound state of the LC4 is, block by block, and the terms that the statements use.
Each law of soundness is one that the spec states of every moment; the machine assumes none of them. -/

namespace Sys2Proof.Safety

open Sys2Proof.Machine

/-! ## The DRAM -/

/-- The bytes of the DRAM are in canonical form: their addresses rise strictly. -/
def MemorySound (s : State) : Prop := Memory.wf s.dram = true

/-! ## The lease table (R2, R5, R6, R7, R70) -/

/-- No row command is in flight on the bank. -/
def noRowFlight (o : BankOp) : Prop := o.inFlight ≠ .precharge ∧ ∀ row, o.inFlight ≠ .activate row

/-- R2, R7, R70: a bank record's state, its fields and the row command the channel controller has for it. -/
def BankStateSound (r : BankRecord) (o : BankOp) : Prop :=
  match r.state with
  | .closed => r.holders = [] ∧ r.row = none ∧ r.mode = none ∧ o.pending = .none ∧ noRowFlight o
  | .activating =>
    r.holders ≠ [] ∧ r.mode ≠ none ∧
      ∃ row, r.row = some row ∧
        ((o.pending = .activate row ∧ noRowFlight o) ∨
          (o.pending = .none ∧ o.inFlight = .activate row))
  | .opened => r.holders ≠ [] ∧ r.row ≠ none ∧ r.mode ≠ none ∧ o.pending = .none ∧ noRowFlight o
  | .precharging =>
    r.holders = [] ∧ r.row ≠ none ∧ r.mode = none ∧
      ((o.pending = .precharge ∧ noRowFlight o) ∨ (o.pending = .none ∧ o.inFlight = .precharge))

/-- R5: the hosts among a bank's holders and waiters together. -/
def bankHosts (r : BankRecord) : List HostId :=
  r.holders.map (fun x => x.host) ++ r.waiters.map (fun w => w.host)

/-- R5, R6: each host stands at most once on a bank, and an EXCLUSIVE bank has one holder. -/
def BankListsSound (r : BankRecord) : Prop :=
  (bankHosts r).Nodup ∧ (r.mode = some .exclusive → r.holders.length = 1)

/-- R2, R5, R6, R7: every bank record is sound. -/
def LeaseSound (s : State) : Prop :=
  ∀ b : Bank, BankStateSound (s.bank b) (s.op b) ∧ BankListsSound (s.bank b)

/-! ## The transfer engine (R50, R55, R56, R59) -/

/-- R55: how much data an entry or request of a kind carries. -/
def dataLength (kind : TransferKind) (bursts completed : Nat) : Nat :=
  match kind with
  | .read => 32 * completed
  | .write => 32 * bursts

/-- R50, R55: an entry of the transfer list. -/
def TransferSound (e : Transfer) : Prop :=
  1 ≤ e.bursts ∧ e.bursts ≤ 8 ∧ firstBlock e.col + e.bursts ≤ 128 ∧
    e.completed ≤ e.issued ∧ e.issued ≤ e.bursts ∧
    e.data.length = dataLength e.kind e.bursts e.completed

/-- R55, R56: the transfer list holds at most 64 entries, each sound; each request in the intake carries
its data, and while the list has room none waits there. -/
def TransfersSound (s : State) : Prop :=
  s.xfer.list.length ≤ 64 ∧ (∀ e ∈ s.xfer.list, TransferSound e) ∧
    (∀ q ∈ s.xfer.intake, q.data.length = dataLength q.kind q.bursts.toNat 0) ∧
    (s.xfer.list.length < 64 → s.xfer.intake = [])

/-! ## The operations of the channel -/

/-- The maintenance operations offered or in flight. -/
def maintOps (s : State) : List Offer :=
  s.chan.offers ++ match s.chan.maint with
    | none => []
    | some m => [m.offer]

/-! ## The refresh account (R86, R87) -/

/-- An operation of the refresh account. -/
def isAccountOp (o : Offer) : Bool :=
  match o.op with
  | .refresh | .shortCal => true
  | .longCal | .modeLoad _ | .trainStep _ _ | .standbyEnter | .standbyExit => false

/-- R86: the offer field that goes with an operation of the account. -/
def accountOfferOf (o : Offer) : AccountOffer :=
  match o.op with
  | .refresh => .refresh
  | .shortCal => .shortCal
  | .longCal | .modeLoad _ | .trainStep _ _ | .standbyEnter | .standbyExit => .none

/-- R86, R87: owed stays within -4 and +6, a refresh is offered only while owed is above -4, the account
has at most one operation offered or in flight, and its offer field says which. -/
def AccountSound (s : State) : Prop :=
  -4 ≤ s.account.owed ∧ s.account.owed ≤ 6 ∧
    (s.account.offer = .refresh → -3 ≤ s.account.owed) ∧
    s.account.sinceCal ≤ 127 ∧ s.account.missed ≤ 255 ∧
    ((maintOps s).filter isAccountOp).length ≤ 1 ∧
    ∀ o ∈ maintOps s, isAccountOp o = true →
      o.by_ = .account ∧ s.account.offer = accountOfferOf o

/-! ## The agreement unit (R105, R106, R108, R110, R111, R155) -/

/-- R108, R110: the proposal record. -/
def ProposalSound (a : Agreement) (p : Proposal) : Prop :=
  a.staged = applyItems a.live p.items ∧ p.heavy = p.items.any ChangeItem.heavy ∧
    (a.state ≠ .ballot → p.heavy = true) ∧
    p.electorate.get p.proposer = false ∧
    (∀ h, p.accepted.get h = true → p.electorate.get h = true) ∧
    (p.ballotDeadline ≠ none → a.state = .ballot) ∧
    (p.drainDeadline ≠ none → a.state = .draining)

/-- R105, R106, R111: a proposal exists exactly while the unit is not IDLE, the staged record equals the
live one while it is, and CONFIG is in the gate exactly while it is DRAINING or APPLYING. R155: every host
of an electorate is ATTACHED. -/
def AgreementSound (s : State) : Prop :=
  (s.agree.state = .idle ↔ s.agree.proposal = none) ∧
    (s.agree.state = .idle → s.agree.staged = s.agree.live) ∧
    (s.gate.config = true ↔ s.agree.state = .draining ∨ s.agree.state = .applying) ∧
    ∀ p, s.agree.proposal = some p → ProposalSound s.agree p ∧
      ∀ h, p.electorate.get h = true → s.port h = .attached

/-! ## The standby controller and the channel state (R74, R135, R140, R141) -/

/-- The number of maintenance operations of a kind, offered or in flight. -/
def opCount (s : State) (op : MaintOp) : Nat :=
  ((maintOps s).filter fun o => decide (o.op = op)).length

/-- R74, R135, R140, R141: STANDBY is in the gate exactly while the state is not RUNNING; STANDBY_ENTER is
offered or in flight only in ENTERING, and STANDBY_EXIT in flight only in EXITING; the channel is
MAINTENANCE exactly while an operation is in flight and SELF_REFRESH exactly while the standby state is. An
exit that is pending may be so in SELF_REFRESH too, until the issue of its offer (log 4). -/
def StandbySound (s : State) : Prop :=
  (s.gate.standby = true ↔ s.standby.state ≠ .running) ∧
    (s.chan.state = .maintenance ↔ s.chan.maint ≠ none) ∧
    (s.chan.state = .selfRefresh ↔ s.standby.state = .selfRefresh) ∧
    (∀ o ∈ maintOps s, o.op = .standbyEnter → o.by_ = .standby ∧ s.standby.state = .entering) ∧
    (∀ o ∈ s.chan.offers, o.op = .standbyExit → o.by_ = .standby ∧
      (s.standby.state = .selfRefresh ∨
        s.standby.state = .entering ∧ s.inFlight .standbyEnter = true)) ∧
    (s.inFlight .standbyExit = true → s.standby.state = .exiting) ∧
    opCount s .standbyEnter ≤ 1 ∧ opCount s .standbyExit ≤ 1 ∧
    (s.standby.exitPending = true →
      s.standby.state = .entering ∧ s.inFlight .standbyEnter = true ∨
        s.standby.state = .selfRefresh)

/-! ## Ports and links (R132, R147, R154, R155, R161) -/

/-- R132, R155: a port is DOWN exactly while its link is not UP, and a parked host is ATTACHED. -/
def PortsSound (s : State) : Prop :=
  ∀ h, ((s.link h).state = .up ↔ s.port h ≠ .down) ∧
    (s.standby.park.get h = true → s.port h = .attached)

/-- A list of numbers that rise by one, wrapping, the last of them one below `next`. -/
def consecutiveTo (next : Seq) (l : List Seq) : Prop :=
  ∀ i, i < l.length → l[i]? = some (next - BitVec.ofNat 8 (l.length - i))

/-- R145, R152: the replay buffer, replay count and replay position, and the IDLE run. -/
def LinkSound (l : Link) : Prop :=
  l.replayBuffer.length ≤ 8 ∧ consecutiveTo l.nextSend (l.replayBuffer.map fun x => x.1) ∧
    l.replayCount ≤ 4 ∧
    (∀ n, l.replayPos = some n → buffered n l.replayBuffer = true) ∧
    l.idleRun ≤ 3 ∧ (l.state = .quiet → l.idleRun = 0) ∧ (l.state = .listening → l.idleRun ≤ 2)

/-- Every link controller is sound. -/
def LinksSound (s : State) : Prop := ∀ h, LinkSound (s.link h)

/-- R150, R151, R166: what one link's send queue can hold. -/
def SendQueueSound (p : HostSide) : Prop :=
  p.link.responsesWaiting + p.outstanding ≤ 16 ∧ p.link.notesWaiting ≤ 4

/-- R150, R151: every send queue is within its bounds. -/
def SendQueuesSound (s : State) : Prop := ∀ h, SendQueueSound (s.host h)

/-! ## Notification queues (R164) -/

/-- R164: the delivered entries stand first, at most four of them, with consecutive numbers below the next
number; the queue holds at most 16 entries. -/
def NoteQueueSound (q : NoteQueue) : Prop :=
  q.entries.length ≤ 16 ∧
    ∃ d u : List NoteEntry, q.entries = d ++ u ∧ d.length ≤ 4 ∧ (∀ e ∈ u, e.number = none) ∧
      (∀ e ∈ d, e.number ≠ none) ∧ consecutiveTo q.next (d.filterMap fun e => e.number)

/-- R164: every notification queue is sound. -/
def NotesSound (s : State) : Prop := ∀ h, NoteQueueSound (s.host h).notes

/-! ## Terms of the statements: what a step changes -/

/-- The parts of the state. -/
inductive Part where
  | pending | now | resetN | seq | gate | banks | chan | xfer | account | agree | standby | hosts
  | dram | dramGen
  deriving DecidableEq, Repr

/-- A part is the same in two states. -/
def Part.same (p : Part) (s t : State) : Prop :=
  match p with
  | .pending => t.pending = s.pending
  | .now => t.now = s.now
  | .resetN => t.resetN = s.resetN
  | .seq => t.seq = s.seq
  | .gate => t.gate = s.gate
  | .banks => t.banks = s.banks
  | .chan => t.chan = s.chan
  | .xfer => t.xfer = s.xfer
  | .account => t.account = s.account
  | .agree => t.agree = s.agree
  | .standby => t.standby = s.standby
  | .hosts => t.hosts = s.hosts
  | .dram => t.dram = s.dram
  | .dramGen => t.dramGen = s.dramGen

/-- Every part outside the list is the same in both states. -/
def ChangesOnly (l : List Part) (s t : State) : Prop := ∀ p : Part, p ∉ l → p.same s t

/-- What the LC4 keeps for every other host is the same. -/
def OtherHostsSame (h : HostId) (s t : State) : Prop := ∀ g, g ≠ h → t.host g = s.host g

/-- Every other bank record is the same. -/
def OtherBanksSame (b : Bank) (s t : State) : Prop := ∀ c, c ≠ b → t.bank c = s.bank c

/-- The channel differs at most in one bank's operation record. -/
def OtherOpsSame (b : Bank) (s t : State) : Prop :=
  t.chan = { s.chan with ops := t.chan.ops } ∧ ∀ c, c ≠ b → t.op c = s.op c

/-! ## Terms of the statements: requests and answers -/

/-- The bank byte that names a bank. -/
def bankByte (b : Bank) : Byte := BitVec.ofNat 8 b.val

/-- The row field that names a row. -/
def rowWord (r : Row) : BitVec 16 := r.setWidth 16

/-- R149, R150, R157: the frame of a tagged request is delivered, and its tag is FREE. -/
def RequestArrives (s : State) (h : HostId) (f : FrameHdr) (tag : Tag) : Prop :=
  (s.host h).delivers f true = true ∧ s.port h ≠ .down ∧ (s.host h).tags[tag.val] = none

/-- R148, R149, R152: the link after a delivered frame. -/
def linkAfter (s : State) (h : HostId) (f : FrameHdr) : Link := ((s.link h).takeValid s.now f).accept

/-- R157: the host's side after a delivered request whose tag becomes OUTSTANDING. -/
def sideTaken (s : State) (h : HostId) (f : FrameHdr) (tag : Tag) (kind : ReqKind) : HostSide :=
  { s.host h with link := linkAfter s h f, tags := (s.host h).tags.set tag.val (some kind) }

/-- R157: the host's side after a delivered request that is answered in the same event: the tag is FREE
again and the answers stand at the tail of the send queue. -/
def sideAnswered (s : State) (h : HostId) (f : FrameHdr) (l : List Response) : HostSide :=
  { s.host h with
    link := { linkAfter s h f with
      sendQueue := (s.link h).sendQueue ++ l.map OutMsg.response } }

/-- R157: a host's side after one outstanding request has been answered. -/
def sideAnswers (p : HostSide) (tag : Tag) (r : Response) : HostSide :=
  { p with
    tags := p.tags.set tag.val none
    link := { p.link with sendQueue := p.link.sendQueue ++ [.response r] } }

/-- A response that carries only its status. -/
def plain (tag : Tag) (kind : ReqKind) (st : Status) : Response := ⟨tag, kind, st, .none⟩

/-- R165: a notification queued to each host of a set whose port is not DOWN. -/
def sideNotified (addressed : Bool) (n : Notification) (p : HostSide) : HostSide :=
  if addressed = true ∧ p.port ≠ .down then { p with notes := p.notes.push n } else p

/-- R16: the hold deadline of a grant at this moment. -/
def grantDeadline (s : State) (h : HostId) : Option Time :=
  if s.agree.live.holdLimit.get h = 0#16 then none
  else some (s.now + (s.agree.live.holdLimit.get h).toNat * 1000)

/-- R24: the state once a host has left an OPEN bank's holder list: with the last holder the bank goes
PRECHARGING, and a PRECHARGE is pending whose set-up ends 5 ns later. -/
def holderGone (b : Bank) (h : HostId) (s : State) : State :=
  let l := (s.bank b).holders.filter fun x => decide (x.host ≠ h)
  if l = [] then
    (s.setBank b { s.bank b with holders := [], mode := none, state := .precharging }).setOp b
      { s.op b with pending := .precharge, setupEnd := some (s.now + 5), setupDone := false }
  else s.setBank b { s.bank b with holders := l }

/-- R19, R21: a holder has no transfer on the bank left. -/
def noneLeft (s : State) (h : HostId) (b : Bank) : Prop :=
  ∀ e ∈ s.xfer.list, ¬(e.host = h ∧ e.bank = b)

/-- No queue has a waiter (R8). -/
def noWaiters (s : State) : Prop := ∀ b, (s.bank b).waiters = []

/-- R21, R30: a host's side where a recorded CLOSE, if there is one, has been answered OK. -/
def sideClosed (closeTag : Option Tag) (p : HostSide) : HostSide :=
  match closeTag with
  | none => p
  | some tag => sideAnswers p tag (plain tag .closeLease .ok)

/-- R21: a close tag that a holder may carry is the tag of an OUTSTANDING CLOSE. -/
def CloseOutstanding (s : State) (x : Holder) : Prop :=
  ∀ tag, x.closeTag = some tag → (s.host x.host).tags[tag.val] = some .closeLease

/-- R17: the waiters that are granted together: an EXCLUSIVE head alone, a SHARED head with the SHARED
waiters of its row that stand directly behind it. -/
def GrantedTogether (head : Waiter) (same rest : List Waiter) : Prop :=
  (head.mode = .exclusive ∧ same = []) ∨
    (head.mode = .shared ∧ (∀ w ∈ same, w.mode = .shared ∧ w.row = head.row) ∧
      ∀ w, rest.head? = some w → ¬(w.mode = .shared ∧ w.row = head.row))

/-- R11, R17: a bank's record `r` and operation record `o` once its queue has been looked at with the gate
empty: a CLOSED bank with waiters is granted to those that go together, any other stays as it is. -/
def ServedTo (now : Time) (r : BankRecord) (o : BankOp) (r' : BankRecord) (o' : BankOp) : Prop :=
  (r.state ≠ .closed ∨ r.waiters = [] → r' = r ∧ o' = o) ∧
    ∀ (head : Waiter) (same rest : List Waiter), r.state = .closed →
      r.waiters = head :: same ++ rest → GrantedTogether head same rest →
      r' = { state := .activating, row := some head.row, mode := some head.mode
             holders := (head :: same).map fun w => ⟨w.host, w.tag, false, none, false, .active, none⟩
             waiters := rest } ∧
        o' = { o with
          pending := .activate head.row, setupEnd := some (now + 5), setupDone := false }

/-- R30, R62: a host has a transfer on the bank that has begun. -/
def hasBegun (s : State) (h : HostId) (b : Bank) : Bool :=
  s.xfer.list.any fun e => decide (e.host = h) && decide (e.bank = b) && decide (0 < e.issued)

/-- R157: the kind of request that a transfer was. -/
def kindOf : TransferKind → ReqKind
  | .read => .read
  | .write => .write

/-- R29: a holder entry as a revocation leaves it. -/
def revoked (r : RevokeReason) (x : Holder) : Holder :=
  { x with status := .revoking r, deadline := none }

/-- R24: a bank's record once its holders are `l`: a bank that has lost its last one is PRECHARGING. -/
def withHolders (r : BankRecord) (l : List Holder) : BankRecord :=
  if l = [] ∧ r.holders ≠ [] then { r with holders := [], mode := none, state := .precharging }
  else { r with holders := l }

/-- R24: the bank's operation record with it: PRECHARGE is pending, its set-up ending 5 ns later. -/
def withHoldersOp (now : Time) (r : BankRecord) (l : List Holder) (o : BankOp) : BankOp :=
  if l = [] ∧ r.holders ≠ [] then
    { o with pending := .precharge, setupEnd := some (now + 5), setupDone := false }
  else o

/-- R15, R27: a holder that a new waiter has revoked. -/
def overstays (x : Holder) : Bool := decide (x.status = .active) && x.overstayed

/-- R15, R27, R30: the holders of a bank once its ACTIVE overstayed ones have been revoked HOLD_EXPIRED:
on an OPEN bank those without a begun transfer have left. -/
def holdersNotOverstayed (s : State) (b : Bank) : List Holder :=
  ((s.bank b).holders.filter fun x =>
      !overstays x || decide ((s.bank b).state ≠ .opened) || hasBegun s x.host b).map fun x =>
    if overstays x then revoked .holdExpired x else x

/-- R19: the holders of a bank once its activation has completed, in their order. -/
def holdersSettled (s : State) (b : Bank) : List Holder :=
  (s.bank b).holders.filterMap fun x =>
    match x.status with
    | .active => some { x with answered := true, deadline := grantDeadline s x.host }
    | .closing =>
      if s.xfer.list.any (fun e => decide (e.host = x.host) && decide (e.bank = b)) then
        some { x with answered := true }
      else none
    | .revoking _ => none

/-- R34: the holders of a bank once a host that leaves has closed what it held there: an ACTIVE entry of the
host goes CLOSING with no close tag, or leaves an OPEN bank on which the host has no transfer; every other
entry stays as it is, in its place. -/
def holdersLeaving (s : State) (h : HostId) (b : Bank) : List Holder :=
  (s.bank b).holders.filterMap fun x =>
    if x.host = h ∧ x.status = .active then
      if (s.bank b).state = .opened ∧
          s.xfer.list.all (fun e => !(decide (e.host = h) && decide (e.bank = b))) = true then none
      else some { x with status := .closing, deadline := none, closeTag := none }
    else some x

/-- R33: what a mass revocation for a reason makes of every bank: a REVOKING holder stays as it is (R32);
an ACTIVE or CLOSING one goes REVOKING, or leaves an OPEN bank on which no transfer of its host has
begun, LEASE_REVOKED being queued to it unless its queue is full (R165). Waiters stay, and of the
transfers those leave that have not begun and whose holder has been revoked (R62). -/
def MassRevoked (r : RevokeReason) (s t : State) : Prop :=
  (∀ b, (t.bank b).waiters = (s.bank b).waiters ∧
    (∀ y ∈ (t.bank b).holders, ∃ x ∈ (s.bank b).holders,
      ((∃ r', x.status = .revoking r') ∧ y = x) ∨
        ((∀ r', x.status ≠ .revoking r') ∧ y = revoked r x)) ∧
    ∀ x ∈ (s.bank b).holders,
      (∀ r', x.status = .revoking r' → x ∈ (t.bank b).holders) ∧
      ((∀ r', x.status ≠ .revoking r') →
        ((s.bank b).state ≠ .opened ∨ hasBegun s x.host b = true →
          revoked r x ∈ (t.bank b).holders) ∧
        ((s.bank b).state = .opened → hasBegun s x.host b = false →
          t.holds x.host b = false ∧
            (s.port x.host ≠ .down →
              ⟨.leaseRevoked b r, none⟩ ∈ (t.host x.host).notes.entries ∨
                (t.host x.host).notes.overflow = true)))) ∧
    ∀ e, e ∈ t.xfer.list ↔ e ∈ s.xfer.list ∧
      ¬(e.issued = 0 ∧ ∃ x ∈ (s.bank e.bank).holders, x.host = e.host ∧
        ∀ r', x.status ≠ .revoking r')

/-! ## Terms of the statements: transfers -/

/-- R50: a transfer is in range. -/
def InRange (bursts : Byte) (col : BitVec 16) : Prop :=
  1 ≤ bursts.toNat ∧ bursts.toNat ≤ 8 ∧ col.toNat ≤ 1023 ∧ col.toNat / 8 + bursts.toNat ≤ 128

/-- R53: the status with which a READ or WRITE is refused, each check made only where those above it
pass. -/
def RefusedWith (s : State) (q : TransferReq) (st : Status) : Prop :=
  (st = .range ∧ 7 < q.bank.toNat) ∨
    ∃ b : Bank, q.bank = bankByte b ∧
      ((st = .notHeld ∧ (s.bank b).holder q.host = none) ∨
        ∃ x : Holder, (s.bank b).holder q.host = some x ∧
          ((st = .closing ∧ x.status = .closing) ∨
            (st = .revoked ∧ ∃ r, x.status = .revoking r) ∨
            (x.status = .active ∧
              ((st = .mode ∧ q.kind = .write ∧ (s.bank b).mode = some .shared) ∨
                (st = .range ∧ ¬(q.kind = .write ∧ (s.bank b).mode = some .shared) ∧
                  ¬InRange q.bursts q.col)))))

/-- R53: a READ or WRITE of an ACTIVE holder of bank `b`, open on `row`, passes every check. -/
def PassesChecks (s : State) (q : TransferReq) (b : Bank) (row : Row) : Prop :=
  q.bank = bankByte b ∧ (s.bank b).row = some row ∧
    (∃ x : Holder, (s.bank b).holder q.host = some x ∧ x.status = .active) ∧
    ¬(q.kind = .write ∧ (s.bank b).mode = some .shared) ∧ InRange q.bursts q.col

/-- R55: the entry made of a request that has passed its checks. -/
def entryOf (q : TransferReq) (b : Bank) (row : Row) : Transfer :=
  { host := q.host, tag := q.tag, kind := q.kind, bank := b, row := row, col := q.col.setWidth 10
    bursts := q.bursts.toNat, issued := 0, completed := 0, cancelled := false, data := q.data
    enables := q.enables }

/-- R51: the request that a READ hands to the transfer engine. -/
def readOf (h : HostId) (tag : Tag) (bank n : Byte) (col : BitVec 16) : TransferReq :=
  ⟨h, tag, .read, bank, n, col, [], []⟩

/-- R51, R189: the request that a WRITE hands to the transfer engine: the data bytes in order, and for
byte k of a burst the flag k of its enable word. -/
def writeOf (h : HostId) (tag : Tag) (bank n : Byte) (col : BitVec 16) (p : List WriteBurst) :
    TransferReq :=
  ⟨h, tag, .write, bank, n, col, p.flatMap fun w => w.data.toList,
    p.flatMap fun w => (List.finRange 32).map fun k => w.enables.getLsbD k.val⟩

/-! ## Terms of the statements: the channel -/

/-- R70: the state with a bank's operation in flight, due so much later, and the command slot running
(R77); nothing is first at the bus (log 23). -/
def bankOpIssued (s : State) (b : Bank) (o : BankOp) (duration : Nat) : State :=
  s.setChan { s.chan with
    slotEnd := some (s.now + 2), first := none
    ops := s.chan.ops.set b.val { o with due := some (s.now + duration) } }

/-- R74: the state with a maintenance operation in flight, due so much later; nothing is first at the bus
(log 23). -/
def maintIssued (s : State) (o : Offer) (duration : Nat) : State :=
  s.setChan { s.chan with
    offers := s.chan.offers.erase o, first := none, state := .maintenance
    maint := some ⟨o, s.now + duration⟩ }

/-- R74: this maintenance operation is in flight, and its completion has come. -/
def Lands (s : State) (op : MaintOp) (by_ : Requester) : Prop :=
  ∃ d, d ≤ s.now ∧ s.chan.maint = some ⟨⟨op, by_⟩, d⟩

/-- R74: the channel once a maintenance operation other than STANDBY_ENTER has completed. -/
def chanLanded (s : State) (offered : List Offer) : Channel :=
  { s.chan with state := .active, maint := none, offers := s.chan.offers ++ offered }

/-! ## Terms of the statements: the arbiter (R71 to R73, R77, R78) -/

/-- R77, R78: a maintenance offer is eligible: the channel is quiet, and its state allows the offer. -/
def Eligible (s : State) (o : Offer) : Prop :=
  (∀ b, (s.bank b).state = .closed ∧ (s.op b).inFlight = .none ∧ (s.op b).pending = .none ∧
    (s.op b).openRow = none) ∧
    s.gate ≠ ⟨false, false, false, false⟩ ∧
    ((s.chan.state = .uninit ∧ o.by_ = .sequencer) ∨
      (s.chan.state = .active ∧ o.op ≠ .standbyExit) ∨
      (s.chan.state = .selfRefresh ∧ o.op = .standbyExit))

/-- R73: a bank's pending PRECHARGE is eligible. -/
def PrechargeReady (s : State) (b : Bank) : Prop :=
  (s.op b).pending = .precharge ∧ (s.op b).setupDone = true ∧ (s.op b).openRow ≠ none ∧
    (s.op b).inFlight = .none ∧ ((s.op b).recoveryEnd = none ∨ (s.op b).recoveryDone = true)

/-- R71: a bank's pending ACTIVATE is eligible. -/
def ActivateReady (s : State) (b : Bank) : Prop :=
  (∃ row, (s.op b).pending = .activate row) ∧ (s.op b).setupDone = true ∧
    (s.op b).openRow = none ∧ (s.op b).inFlight = .none

/-- R57, R72: the next burst of the entry at a position is a burst candidate and eligible. -/
def BurstReady (s : State) (i : Nat) : Prop :=
  ∃ e : Transfer, s.xfer.list[i]? = some e ∧ e.issued < e.bursts ∧
    (∀ (j : Nat) (x : Transfer), j < i → s.xfer.list[j]? = some x → x.host = e.host →
      x.bank = e.bank → x.bursts ≤ x.issued) ∧
    (s.bank e.bank).state = .opened ∧ s.holds e.host e.bank = true ∧
    (s.op e.bank).openRow = some e.row ∧ (s.op e.bank).pending = .none ∧
    (s.op e.bank).inFlight = .none

/-! ## Terms of the statements: start-up and training -/

/-- R83: the channel once a training step on a lane has completed: the lane captures with this delay. -/
def chanStepped (s : State) (lane : Lane) (d : Delay) (offered : List Offer) : Channel :=
  { chanLanded s offered with capture := s.chan.capture.set lane.val (some d) }

/-- R179: a transition is found at a step: the sample is 1 and the one before it was 0. -/
def Transition (sample : Bool) (w : Sweep) : Prop := sample = true ∧ w.prev = some false

/-- R179: an attempt of a number on a lane, at its first step. -/
def firstStep (lane : Lane) (attempt : Nat) (kind : SweepKind) : Sweep :=
  { lane := lane, delay := 0#6, attempt := attempt, prev := none, kind := kind }

/-- R179: the offer of a lane's step at a delay. -/
def stepOf (lane : Lane) (d : Delay) : Offer := ⟨.trainStep lane d, .sequencer⟩

/-- R179, R180: the sequencer once it has come to offer its next step: while the account presses it yields
instead. -/
def seqOffers (press : Bool) (q : Sequencer) : Sequencer :=
  { q with yielding := press, stepOffer := if press then .none else .offered }

/-- R179, R180: the offers made with it. -/
def stepOffers (press : Bool) (lane : Lane) (d : Delay) : List Offer :=
  if press then [] else [stepOf lane d]

/-- R157: a host's only outstanding request of a kind has this tag. -/
def OnlyTag (s : State) (h : HostId) (kind : ReqKind) (tag : Tag) : Prop :=
  ∀ i : Tag, (s.host h).tags[i.val] = some kind ↔ i = tag

/-! ## Terms of the statements: the refresh account -/

/-- R88: the account is PRESSED or FORCING, with this threshold and this owed count. -/
def presses (s : State) (threshold : Nat) (owed : Int) : Prop :=
  s.account.timer ≠ none ∧ ((threshold : Int) ≤ owed ∨ 5 ≤ owed)

/-- R89: the refresh interval of a rate, in ns. -/
def periodOf : RefreshRate → Nat
  | .normal => 6400
  | .fast => 3200

/-- R91, R180: a change to this threshold and owed count starts no pressure hold and moves no sweep: there
is none, or it goes on as it does. -/
def calm (s : State) (threshold : Nat) (owed : Int) : Prop :=
  (s.account.hold = true ∨ ¬presses s threshold owed) ∧
    (s.seq.sweep = none ∨ (presses s threshold owed ∧ s.seq.stepOffer ≠ .offered) ∨
      (¬presses s threshold owed ∧ s.seq.yielding = false))

/-- R91, R117: the banks that a host holds, as CLOSE_REQUESTED carries them. -/
def IsHeldSet (s : State) (h : HostId) (set : BankSet) : Prop :=
  ∀ b : Bank, set.getLsbD b.val = s.holds h b

/-- R91, R117: CLOSE_REQUESTED is queued to each host with at least one held bank. -/
def AskedToClose (r : CloseReason) (s t : State) : Prop :=
  ∀ h, ∃ set : BankSet, IsHeldSet s h set ∧
    (t.host h).notes = (sideNotified (decide (set ≠ 0#8)) (.closeRequested r set) (s.host h)).notes

/-! ## Terms of the statements: proposals -/

/-- R155: whether a host is in the attached set. -/
def inSet (s : State) (h : HostId) : Bool := decide (s.port h = .attached)

/-- R129, R131: the agreement unit once a proposal has been abandoned. -/
def abandonedUnit (a : Agreement) : Agreement :=
  { a with staged := a.live, state := .idle, proposal := none, applyStep := none }

/-- R106, R116, R128: the agreement unit once a proposal has been applied. -/
def appliedUnit (a : Agreement) : Agreement :=
  { a with live := a.staged, epoch := a.epoch + 1#16, state := .idle, proposal := none
           applyStep := none }

/-- R119 to R122, R155: what the detach of the host makes of the unit `a`. In BALLOT the proposer's detach
abandons the proposal; an elector's takes it out of the electorate and the accepted set, and where the two
are then equal the ballot is won: a light proposal is applied, a heavy one drains or begins its apply. In
DRAINING and APPLYING the host leaves the electorate and all else stays (log 33). -/
def DetachedUnit (h : HostId) (a u : Agreement) : Prop :=
  (a.state = .idle → u = a) ∧
  ∀ p, a.proposal = some p →
    (a.state = .ballot → p.proposer = h → u = abandonedUnit a) ∧
    (a.state = .ballot → p.proposer ≠ h → p.electorate.get h = true →
      (p.accepted.set h false ≠ p.electorate.set h false →
        u = { a with proposal := some { p with
          electorate := p.electorate.set h false, accepted := p.accepted.set h false } }) ∧
      (p.accepted.set h false = p.electorate.set h false →
        (p.heavy = false → u = appliedUnit a) ∧
        (p.heavy = true → u.epoch = a.epoch ∧ u.live = a.live ∧
          (u.state = .draining ∨ u.state = .applying)))) ∧
    (a.state = .draining ∨ a.state = .applying →
      u = { a with proposal := some { p with
        electorate := p.electorate.set h false, accepted := p.accepted.set h false } })

/-- R125, R183: an apply has begun on the proposal `p` of the unit `a`, all else of which stays: with a
retraining, with the load of a changed burst order, or at its commit. -/
def ApplyBegun (s t : State) (a : Agreement) (p : Proposal) : Prop :=
  (ChangeItem.retrain ∉ p.items → a.staged.burstOrder = a.live.burstOrder →
    t.agree = { a with
      state := .applying, proposal := some { p with drainDeadline := none }
      applyStep := some .commit } ∧ t.chan = s.chan ∧ t.seq = s.seq) ∧
  (ChangeItem.retrain ∉ p.items → a.staged.burstOrder ≠ a.live.burstOrder →
    t.agree = { a with
      state := .applying, proposal := some { p with drainDeadline := none }
      applyStep := some .load } ∧
    t.chan = { s.chan with
      offers := s.chan.offers ++ [⟨.modeLoad (.burst a.staged.burstOrder), .agreement⟩] } ∧
    t.seq = s.seq) ∧
  (ChangeItem.retrain ∈ p.items →
    ∀ press : Bool, (press = true ↔ presses s a.live.threshold s.account.owed) →
      t.agree = { a with
        state := .applying, proposal := some { p with drainDeadline := none }
        applyStep := some .retrain } ∧
      t.seq = seqOffers press { s.seq with
        staged := some ((Vector.replicate 4 ⟨none, .untrained, 0⟩).set 0 ⟨none, .untrained, 1⟩)
        sweep := some (firstStep 0 1 .retrain) } ∧
      t.chan = { s.chan with offers := s.chan.offers ++ stepOffers press 0 0#6 })

/-- R116, R129: the side of a host, where PROPOSAL_RESOLVED has been queued to the attached set. -/
def sideResolved (s : State) (n : Seq) (o : ProposalOutcome) (epoch : BitVec 16) (h : HostId)
    (p : HostSide) : HostSide :=
  sideNotified (inSet s h) (.proposalResolved n o epoch) p

end Sys2Proof.Safety
end

