-- ==== Sys2Proof/WellFormed.lean ====
section
/-! DEFINITION. Which commands are well formed: a WRITE carries as many bursts as its burst count byte
says (R51, R187), and a PROPOSE carries 1 to 16 items (R187, R188). A request that is not well formed
is a malformed message; its meaning is that of R188. -/

namespace Sys2Proof

/-- R187, R188 check 4: the carried bursts agree with the burst count byte. -/
def writeWellFormed (bursts : Byte) (payload : List WriteBurst) : Bool :=
  decide (payload.length = bursts.toNat)

/-- R188 check 3: the item count is 1 to 16. -/
def proposeWellFormed (items : List RawItem) : Bool :=
  decide (1 ≤ items.length) && decide (items.length ≤ 16)

/-- Well-formed commands. -/
def Instr.wf : Instr → Bool
  | .write _ _ _ _ bursts _ payload => writeWellFormed bursts payload
  | .propose _ _ _ _ items => proposeWellFormed items
  | .resetNAssert | .resetNRelease | .holdPhaseEnd | .settlePhaseEnd | .lockPhaseEnd
  | .intervalExpiry | .holdDeadlineExpiry _ _ | .waitDeadlineExpiry _ _ | .ballotDeadlineExpiry
  | .drainDeadlineExpiry | .silenceDeadlineExpiry _ | .quietEnd _ | .sendTimerExpiry _
  | .sendFrame _ | .receiveIdleFrame _ _ | .receiveNakFrame _ _ _ | .receiveCorruptedFrame _
  | .messageFrameDiscarded _ _ _ | .malformedMessage _ _ _ | .join _ _ _ | .joinComplete
  | .leave _ _ _ | .leaveComplete _ | .openLease _ _ _ _ _ _ _ | .closeLease _ _ _ _
  | .closeComplete _ _ | .revocationFinish _ _ | .grantFromQueue _ | .read _ _ _ _ _ _
  | .intakeTake | .vote _ _ _ _ _ | .drainComplete | .commit | .park _ _ _ | .unpark _ _ _
  | .standbyEntering | .standbyEnterOffer | .query _ _ _ | .queryBank _ _ _ _ | .noteAck _ _ _
  | .notificationDelivery _ | .refreshRequest | .setupEnd _ | .commandSlotEnd
  | .writeRecoveryEnd _ | .activateIssue | .prechargeIssue | .burstIssue | .refreshIssue
  | .shortCalIssue | .longCalIssue | .modeLoadIssue | .trainStepIssue | .standbyEnterIssue
  | .standbyExitIssue | .activateCompletion _ | .prechargeCompletion _ | .burstCompletion _
  | .refreshCompletion | .shortCalCompletion | .longCalCompletion | .modeLoadCompletion
  | .trainStepCompletion _ | .standbyEnterCompletion | .standbyExitCompletion => true

end Sys2Proof
end

