-- ==== Sys2Proof/Certificates/Slice0/Obligations.lean ====
section
/-! DEFINITION. The statements for the provers. Each docstring names the rules it formalises, or says that
it states a choice of the model and names the log entry. -/

open Sys2Proof Sys2Proof.Machine Sys2Proof.Safety

/-! ## The machine as a whole -/

/-- A step takes the command at the front of the queue and is `exec` of it on the queue's rest (log 1). -/
def Obligations.StepRunsFrontCommand : Prop :=
  ∀ (c : Instr) (rest : List Instr) (s : State),
    step { s with pending := c :: rest } = exec c { s with pending := rest }

/-- The model's choice (log 1, 2, 3): every step answers a next state. With a command waiting, the rest of
the queue and the moment stay as they are; on an empty queue at most the moment changes, by one ns, and it
does not pass a moment whose event has not been taken. -/
def Obligations.EveryStepAnswersNext : Prop :=
  ∀ s : State, ∃ t, step s = .next t ∧
    (∀ (c : Instr) (rest : List Instr), s.pending = c :: rest →
      t.pending = rest ∧ t.now = s.now) ∧
    (s.pending = [] → ChangesOnly [.now] s t ∧ (t.now = s.now ∨ t.now = s.now + 1) ∧
      (s.timerDue = true → t = s))

/-- RESET_N gives every block its reset values (R1, R9, R37, R55, R56, R70, R74, R75, R86, R105, R106,
R131, R132, R135, R145, R155, R157, R164, R174, R178). -/
def Obligations.ResetAssertGivesResetValues : Prop :=
  ∀ s : State, ∃ t, exec .resetNAssert s = .next t ∧
    t.pending = s.pending ∧ t.now = s.now ∧ t.resetN = false ∧
    (∀ b, t.bank b = { state := .closed, row := none, mode := none, holders := [], waiters := [] }) ∧
    t.gate = { startup := true, refresh := false, config := false, standby := false } ∧
    (∀ b, (t.op b).idle = true ∧ (t.op b).due = none ∧ (t.op b).setupEnd = none ∧
      (t.op b).recoveryEnd = none) ∧
    t.chan.state = .uninit ∧ t.chan.maint = none ∧ t.chan.offers = [] ∧ t.chan.loadedOrder = none ∧
    (∀ i : Lane, t.chan.capture[i.val] = none) ∧
    t.chan.dresetN = false ∧ t.chan.cke = false ∧ t.chan.csN = true ∧ t.chan.clockOn = false ∧
    t.xfer.list = [] ∧ t.xfer.intake = [] ∧
    t.account = { owed := 0, timer := none, sinceCal := 0, calDue := false, hold := false
                  missed := 0, offer := .none } ∧
    t.agree.epoch = 0#16 ∧ t.agree.counter = 0#8 ∧ t.agree.state = .idle ∧
    t.agree.proposal = none ∧ t.agree.staged = t.agree.live ∧
    t.agree.live.windows[0] =
      some { banks := 0xFF#8, rowLow := 0#14, rowHigh := 16383#14
             rights := ⟨.readWrite, .readWrite, .readWrite, .readWrite⟩ } ∧
    (∀ i : Fin 16, i ≠ 0 → t.agree.live.windows[i.val] = none) ∧
    (∀ h, t.agree.live.holdLimit.get h = 250#16) ∧ t.agree.live.rate = .normal ∧
    t.agree.live.threshold = 3 ∧ t.agree.live.ballotTimeout = 20#8 ∧
    t.agree.live.drainTimeout = 500#16 ∧ t.agree.live.burstOrder = .linearWrap ∧
    (∀ h, t.standby.park.get h = false) ∧ t.standby.state = .running ∧
    t.standby.exitPending = false ∧
    t.seq.device = .starting .hold ∧ t.seq.phaseEnd = none ∧ t.seq.modeLoadsDone = 0 ∧
    (∀ i : Lane, t.seq.lanes[i.val] = { delay := 0#6, status := .untrained, attempts := 0 }) ∧
    t.seq.sweep = none ∧ t.seq.staged = none ∧ t.seq.yielding = false ∧ t.seq.stepOffer = .none ∧
    ∀ h, t.port h = .down ∧ (∀ i : Tag, (t.host h).tags[i.val] = none) ∧
      (t.host h).notes = { entries := [], next := 0#8, overflow := false } ∧
      (t.link h).state = .quiet ∧ (t.link h).idleRun = 0 ∧ (t.link h).nextSend = 0#8 ∧
      (t.link h).replayBuffer = [] ∧ (t.link h).replayCount = 0 ∧ (t.link h).replayPos = none ∧
      (t.link h).sendQueue = [] ∧ (t.link h).expected = 0#8 ∧ (t.link h).receiver = .normal ∧
      (t.link h).silence = none ∧ (t.link h).sendTimer = none

/-- The state after RESET_N meets every law of soundness. -/
def Obligations.ResetStateIsSound : Prop :=
  MemorySound State.reset ∧ LeaseSound State.reset ∧ TransfersSound State.reset ∧
    AccountSound State.reset ∧ AgreementSound State.reset ∧ StandbySound State.reset ∧
    PortsSound State.reset ∧ LinksSound State.reset ∧ SendQueuesSound State.reset ∧
    NotesSound State.reset

/-! ## Laws that every step keeps -/

/-- The bytes of the DRAM stay in canonical form (log 9). -/
def Obligations.StepKeepsMemoryCanonical : Prop :=
  ∀ s t : State, MemorySound s → step s = .next t → MemorySound t

/-- R2, R5, R6, R7: the bank records stay sound. -/
def Obligations.StepKeepsLeaseLaws : Prop :=
  ∀ s t : State, LeaseSound s → step s = .next t → LeaseSound t

/-- R50, R55, R56, R59: the transfer list stays sound, and no request waits in the intake while it has
room. -/
def Obligations.StepKeepsTransferLaws : Prop :=
  ∀ s t : State, TransfersSound s → step s = .next t → TransfersSound t

/-- R87: owed stays within -4 and +6, and the account has one operation at a time (R86, R94, R97). -/
def Obligations.StepKeepsOwedInRange : Prop :=
  ∀ s t : State, AccountSound s → step s = .next t → AccountSound t

/-- R105, R106, R108, R110, R111, R155: the agreement unit stays sound, where the ports follow their links
(R132, R155; every step keeps that too). -/
def Obligations.StepKeepsAgreementLaws : Prop :=
  ∀ s t : State, AgreementSound s → PortsSound s → step s = .next t → AgreementSound t

/-- R74, R135, R140, R141: the standby controller and the channel state stay sound. In SELF_REFRESH the
pending exit may stay set while its offer waits for its issue, a later command of the same moment (the
model's choice, log 4). -/
def Obligations.StepKeepsStandbyLaws : Prop :=
  ∀ s t : State, StandbySound s → step s = .next t → StandbySound t

/-- R132, R155: ports follow their links, and every parked host is attached. -/
def Obligations.StepKeepsPortLaws : Prop :=
  ∀ s t : State, PortsSound s → step s = .next t → PortsSound t

/-- R145, R152, R153: the replay buffers stay sound. (That the IDLE run stays at 3 while the link is UP is the
model's choice, log 15.) -/
def Obligations.StepKeepsReplayLaws : Prop :=
  ∀ s t : State, LinksSound s → step s = .next t → LinksSound t

/-- R150, R151, R164: responses waiting plus tags outstanding never exceed 16 on one link, at most four
notifications wait in a send queue, and the notification queues stay sound. -/
def Obligations.StepKeepsHostQueueLaws : Prop :=
  ∀ s t : State, (SendQueuesSound s → step s = .next t → SendQueuesSound t) ∧
    (NotesSound s → step s = .next t → NotesSound t)

/-! ## Formats (chapter 11) -/

/-- R185 to R189: the frame that carries a well-formed request is read back as that request, every field at
every value. The bit order of the CRC is the model's (log 14). -/
def Obligations.RequestFramesReadBack : Prop :=
  ∀ (c : Instr) (h : HostId) (l : List Byte),
    Instr.wf c = true → encodeRequest c = some (h, l) → commandOfFrame h l = c

/-- R186: a frame that the LC4 sends always passes the receiver's checks, with its numbers read back. The bit
order of the CRC is the model's (log 14). -/
def Obligations.SentFramesPassTheChecks : Prop :=
  ∀ f : Frame,
    match f.body with
    | .idle => readFrame f.bytes = .idle ⟨f.seq, f.ack⟩
    | .nak n => readFrame f.bytes = .nak ⟨f.seq, f.ack⟩ n
    | .message m => readFrame f.bytes = .message ⟨f.seq, f.ack⟩ m.bytes

/-- R48, R49, R50: where byte k of burst n of a transfer lies: it is byte k mod 4 of the column that beat k div
4 carries in block c div 8 + n, by the burst order and the burst's starting position. Two bytes of one
transfer never share an address. The linear numbering of the bytes is the model's (log 28). -/
def Obligations.TransferBytesLieAsLaidOut : Prop :=
  ∀ (o : BurstOrder) (b : Bank) (row : Row) (c : Column) (bursts : Nat),
    c.toNat / 8 + bursts ≤ 128 →
    (∀ (n : Nat) (k : Fin 32), n < bursts →
      ∃ col : Nat,
        col = 8 * (c.toNat / 8 + n) +
          (match o with
            | .linearWrap => ((if n = 0 then c.toNat % 8 else 0) + k.val / 4) % 8
            | .xorWrap => (if n = 0 then c.toNat % 8 else 0) ^^^ (k.val / 4)) ∧
        col < 1024 ∧
        transferAddress o b row c n k =
          ((b.val * 16384 + row.toNat) * 1024 + col) * 4 + k.val % 4) ∧
    ∀ (n n' : Nat) (k k' : Fin 32), n < bursts → n' < bursts →
      transferAddress o b row c n k = transferAddress o b row c n' k' → n = n' ∧ k = k'

/-! ## OPEN (R12 to R16, R40) -/

/-- R13, R14, R16: an OPEN that passes its checks while gate and queue are empty. On a CLOSED bank it is
granted: the bank goes ACTIVATING with the host as its only holder, not yet answered, and ACTIVATE is
requested. A SHARED OPEN on the row that a bank holds SHARED joins at once: answered OK with its hold
deadline on an OPEN bank, unanswered on an ACTIVATING one. -/
def Obligations.OpenIsGrantedOrJoins : Prop :=
  ∀ (s : State) (h : HostId) (f : FrameHdr) (tag : Tag) (b : Bank) (row : Row) (mode : LeaseMode)
    (wait : BitVec 16),
    RequestArrives s h f tag → s.port h = .attached → s.standby.park.get h = false →
    s.holds h b = false → (rightOf s.agree.live h b row).enough mode = true →
    s.gate = ⟨false, false, false, false⟩ → (s.bank b).waiters = [] →
    ((s.bank b).state = .closed →
      exec (.openLease h f tag (bankByte b) (rowWord row) mode wait) s =
        .next
          (((s.setHost h (sideTaken s h f tag .openLease)).setBank b
            { state := .activating, row := some row, mode := some mode
              holders := [⟨h, tag, false, none, false, .active, none⟩], waiters := [] }).setOp b
            { s.op b with
              pending := .activate row, setupEnd := some (s.now + 5), setupDone := false })) ∧
    (mode = .shared → (s.bank b).mode = some .shared → (s.bank b).row = some row →
      ((s.bank b).state = .opened →
        exec (.openLease h f tag (bankByte b) (rowWord row) mode wait) s =
          .next ((s.setHost h (sideAnswered s h f [plain tag .openLease .ok])).setBank b
            { s.bank b with holders := (s.bank b).holders ++
                [⟨h, tag, true, grantDeadline s h, false, .active, none⟩] })) ∧
      ((s.bank b).state = .activating →
        exec (.openLease h f tag (bankByte b) (rowWord row) mode wait) s =
          .next ((s.setHost h (sideTaken s h f tag .openLease)).setBank b
            { s.bank b with holders := (s.bank b).holders ++
                [⟨h, tag, false, none, false, .active, none⟩] })))

/-- R10, R15, R24, R27, R29, R30: an OPEN that passes its checks and can neither join nor be granted joins
the tail of the queue with its wait deadline. Every ACTIVE overstayed holder of the bank is revoked
HOLD_EXPIRED in the same event: on an OPEN bank one without a begun transfer leaves it and LEASE_REVOKED
is queued, and a bank that loses its last holder precharges. The room made in the transfer list is then
filled from the intake (R56; last in the event by the model's choice, log 35). -/
def Obligations.OpenThatCannotBeGrantedQueues : Prop :=
  ∀ (s : State) (h : HostId) (f : FrameHdr) (tag : Tag) (b : Bank) (row : Row) (mode : LeaseMode)
    (wait : BitVec 16),
    RequestArrives s h f tag → s.port h = .attached → s.standby.park.get h = false →
    s.holds h b = false → s.waits h b = false →
    (rightOf s.agree.live h b row).enough mode = true →
    (s.gate ≠ ⟨false, false, false, false⟩ ∨ (s.bank b).waiters ≠ [] ∨
      (s.bank b).state = .precharging ∨
      ((s.bank b).state ≠ .closed ∧
        (mode = .exclusive ∨ (s.bank b).mode ≠ some .shared ∨ (s.bank b).row ≠ some row))) →
    ((∀ x ∈ (s.bank b).holders, x.status = .active → x.overstayed = false) →
      exec (.openLease h f tag (bankByte b) (rowWord row) mode wait) s =
        .next ((s.setHost h (sideTaken s h f tag .openLease)).setBank b
          { s.bank b with waiters := (s.bank b).waiters ++
              [⟨h, tag, row, mode,
                if wait = 0#16 then none else some (s.now + wait.toNat * 1000)⟩] })) ∧
    (BankListsSound (s.bank b) → (∃ x ∈ (s.bank b).holders, overstays x = true) →
      ∃ t, exec (.openLease h f tag (bankByte b) (rowWord row) mode wait) s =
          .next (takeIntake t) ∧
        ChangesOnly [.banks, .chan, .xfer, .hosts] s t ∧ OtherBanksSame b s t ∧
        OtherOpsSame b s t ∧
        t.bank b = { withHolders (s.bank b) (holdersNotOverstayed s b) with
          waiters := (s.bank b).waiters ++
            [⟨h, tag, row, mode,
              if wait = 0#16 then none else some (s.now + wait.toNat * 1000)⟩] } ∧
        t.op b = withHoldersOp s.now (s.bank b) (holdersNotOverstayed s b) (s.op b) ∧
        t.xfer = { s.xfer with list := s.xfer.list.filter fun e =>
          !(decide (e.bank = b) && decide (e.issued = 0) &&
            (s.bank b).holders.any fun x => decide (x.host = e.host) && overstays x) } ∧
        t.host h = sideTaken s h f tag .openLease ∧
        (∀ x ∈ (s.bank b).holders, overstays x = true → (s.bank b).state = .opened →
          hasBegun s x.host b = false →
          (t.host x.host).notes =
            (sideNotified true (.leaseRevoked b .holdExpired) (s.host x.host)).notes) ∧
        ∀ g, g ≠ h → (∀ x ∈ (s.bank b).holders, x.host = g → overstays x = false) →
          t.host g = s.host g)

/-- R12, R40: the refusals of an OPEN, in their order. A refused OPEN is answered at once and changes no
bank record. -/
def Obligations.OpenRefusedInOrder : Prop :=
  ∀ (s : State) (h : HostId) (f : FrameHdr) (tag : Tag) (bank : Byte) (row : BitVec 16)
    (mode : LeaseMode) (wait : BitVec 16),
    RequestArrives s h f tag → s.port h = .attached →
    (7 < bank.toNat ∨ 16383 < row.toNat →
      exec (.openLease h f tag bank row mode wait) s =
        .next (s.setHost h (sideAnswered s h f [plain tag .openLease .range]))) ∧
    ∀ (b : Bank) (r : Row), bank = bankByte b → row = rowWord r →
      (s.standby.park.get h = true →
        exec (.openLease h f tag bank row mode wait) s =
          .next (s.setHost h (sideAnswered s h f [plain tag .openLease .parked]))) ∧
      (s.standby.park.get h = false → s.holds h b = true ∨ s.waits h b = true →
        exec (.openLease h f tag bank row mode wait) s =
          .next (s.setHost h (sideAnswered s h f [plain tag .openLease .alreadyHeld]))) ∧
      (s.standby.park.get h = false → s.holds h b = false → s.waits h b = false →
        (rightOf s.agree.live h b r).enough mode = false →
        exec (.openLease h f tag bank row mode wait) s =
          .next (s.setHost h (sideAnswered s h f [plain tag .openLease .noRight])))

/-- R38, R39: NONE, READ and READ_WRITE are ordered in this way. A host's right on a bank and row is the
strongest that a window covering them grants it, and NONE where none covers them; it is enough for SHARED
from READ on and for EXCLUSIVE at READ_WRITE. -/
def Obligations.RightIsStrongestOfWindows : Prop :=
  Right.none.rank < Right.read.rank ∧ Right.read.rank < Right.readWrite.rank ∧
  ∀ (c : SharedConfig) (h : HostId) (b : Bank) (row : Row) (r : Right), r = rightOf c h b row →
    (∀ (i : Fin 16) (w : Window), c.windows[i.val] = some w → w.banks.getLsbD b.val = true →
      w.rowLow.toNat ≤ row.toNat → row.toNat ≤ w.rowHigh.toNat → (w.rights.get h).rank ≤ r.rank) ∧
    (r = .none ∨
      ∃ (i : Fin 16) (w : Window), c.windows[i.val] = some w ∧ w.banks.getLsbD b.val = true ∧
        w.rowLow.toNat ≤ row.toNat ∧ row.toNat ≤ w.rowHigh.toNat ∧ w.rights.get h = r) ∧
    (r.enough .shared = true ↔ r = .read ∨ r = .readWrite) ∧
    (r.enough .exclusive = true ↔ r = .readWrite)

/-- R156, R157, R165, R188: messages that reach no owner. The requests that only an ATTACHED host may make are
refused NOT_ATTACHED from a LINKED, JOINING or LEAVING host, READ and WRITE from a LINKED or JOINING one. A
malformed message queues FAULT (MALFORMED), and a request whose tag is OUTSTANDING queues FAULT (TAG_IN_USE)
and is discarded. A WRITE or PROPOSE command whose list does not agree with its count is a malformed message
(the model's reading, log 26). -/
def Obligations.MessagesThatReachNoOwner : Prop :=
  (∀ (s : State) (h : HostId) (f : FrameHdr) (tag : Tag), RequestArrives s h f tag →
     (s.port h ≠ .attached →
       (∀ bank row mode wait, exec (.openLease h f tag bank row mode wait) s =
         .next (s.setHost h (sideAnswered s h f [plain tag .openLease .notAttached]))) ∧
       (∀ bank, exec (.closeLease h f tag bank) s =
         .next (s.setHost h (sideAnswered s h f [plain tag .closeLease .notAttached]))) ∧
       (∀ base items, 1 ≤ items.length → items.length ≤ 16 →
         exec (.propose h f tag base items) s =
           .next (s.setHost h (sideAnswered s h f [plain tag .propose .notAttached]))) ∧
       (∀ n y, exec (.vote h f tag n y) s =
         .next (s.setHost h (sideAnswered s h f [plain tag .vote .notAttached]))) ∧
       exec (.park h f tag) s =
         .next (s.setHost h (sideAnswered s h f [plain tag .park .notAttached])) ∧
       exec (.unpark h f tag) s =
         .next (s.setHost h (sideAnswered s h f [plain tag .unpark .notAttached])) ∧
       exec (.leave h f tag) s =
         .next (s.setHost h (sideAnswered s h f [plain tag .leave .notAttached])) ∧
       (∀ bank, exec (.queryBank h f tag bank) s =
         .next (s.setHost h (sideAnswered s h f [plain tag .queryBank .notAttached])))) ∧
     (s.port h = .linked ∨ s.port h = .joining →
       (∀ bank n col, exec (.read h f tag bank n col) s =
         .next (s.setHost h (sideAnswered s h f [plain tag .read .notAttached]))) ∧
       (∀ bank n col p, p.length = n.toNat → exec (.write h f tag bank n col p) s =
         .next (s.setHost h (sideAnswered s h f [plain tag .write .notAttached]))))) ∧
  ∀ (s : State) (h : HostId) (f : FrameHdr),
    (∀ (tagged : Bool) (c : Instr), (s.host h).delivers f tagged = true →
      c = .malformedMessage h f tagged ∨
        (tagged = true ∧
          ((∃ tag bank n col p, c = .write h f tag bank n col p ∧ p.length ≠ n.toNat) ∨
            ∃ tag base l, c = .propose h f tag base l ∧ (l = [] ∨ 16 < l.length))) →
      exec c s =
        .next (s.setHost h
          (sideNotified true (.fault .malformed)
            { s.host h with link := linkAfter s h f }))) ∧
    ∀ (tag : Tag) (c : Instr), (s.host h).delivers f true = true → s.port h ≠ .down →
      (s.host h).tags[tag.val] ≠ none →
      c = .join h f tag ∨ c = .leave h f tag ∨ c = .park h f tag ∨ c = .unpark h f tag ∨
        c = .query h f tag ∨ (∃ b, c = .queryBank h f tag b) ∨ (∃ b, c = .closeLease h f tag b) ∨
        (∃ n y, c = .vote h f tag n y) ∨ (∃ b n col, c = .read h f tag b n col) ∨
        (∃ b r m w, c = .openLease h f tag b r m w) ∨
        (∃ b n col p, c = .write h f tag b n col p ∧ Instr.wf c = true) ∨
        (∃ e l, c = .propose h f tag e l ∧ Instr.wf c = true) →
      exec c s = .next (s.setHost h
        (sideNotified true (.fault (.tagInUse tag)) { s.host h with link := linkAfter s h f }))

/-! ## CLOSE, grants and activation (R17 to R24) -/

/-- R21, R22, R24: CLOSE by an ACTIVE holder. On an OPEN bank with no transfer left the holder leaves and
the CLOSE is answered OK in the same event. Otherwise, for its transfers or for the activation, the holder
goes CLOSING, its hold deadline is cancelled and the close tag recorded. -/
def Obligations.CloseByActiveHolder : Prop :=
  ∀ (s : State) (h : HostId) (f : FrameHdr) (tag : Tag) (b : Bank) (x : Holder),
    RequestArrives s h f tag → s.port h = .attached → (s.bank b).holder h = some x →
    BankListsSound (s.bank b) → x.status = .active →
    ((s.bank b).state = .opened → noneLeft s h b →
      exec (.closeLease h f tag (bankByte b)) s =
        .next (holderGone b h (s.setHost h (sideAnswered s h f [plain tag .closeLease .ok])))) ∧
    ((s.bank b).state = .activating ∨
        ((s.bank b).state = .opened ∧ ∃ e ∈ s.xfer.list, e.host = h ∧ e.bank = b) →
      exec (.closeLease h f tag (bankByte b)) s =
        .next ((s.setHost h (sideTaken s h f tag .closeLease)).setBank b
          { s.bank b with holders := (s.bank b).holders.map fun y =>
              if y.host = h then
                { y with status := .closing, deadline := none, closeTag := some tag }
              else y }))

/-- R20, R23: CLOSE in the remaining cases: of a bank above 7, RANGE; by a host with no entry, NOT_HELD;
by a waiter, which leaves the queue, its OPEN answered WITHDRAWN and the CLOSE OK (in this order by the
model's choice, log 10); by a REVOKING holder without a close tag, whose close tag is recorded; by a
CLOSING holder, or a REVOKING one with a close tag, CLOSING. The place kept at the bus is the model's own
field (log 23). -/
def Obligations.CloseInOtherCases : Prop :=
  ∀ (s : State) (h : HostId) (f : FrameHdr) (tag : Tag),
    RequestArrives s h f tag → s.port h = .attached →
    (∀ bank : Byte, 7 < bank.toNat → exec (.closeLease h f tag bank) s =
      .next (s.setHost h (sideAnswered s h f [plain tag .closeLease .range]))) ∧
    ∀ b : Bank,
      ((s.bank b).holder h = none → (s.bank b).waiter h = none →
        exec (.closeLease h f tag (bankByte b)) s =
          .next (s.setHost h (sideAnswered s h f [plain tag .closeLease .notHeld]))) ∧
      (∀ w : Waiter, (s.bank b).holder h = none → (s.bank b).waiter h = some w →
        (s.host h).tags[w.tag.val] = some .openLease →
        exec (.closeLease h f tag (bankByte b)) s =
          .next (((keepPlace s).setHost h
            { sideAnswered s h f
                [plain w.tag .openLease .withdrawn, plain tag .closeLease .ok] with
              tags := (s.host h).tags.set w.tag.val none }).setBank b
            { s.bank b with
              waiters := (s.bank b).waiters.filter fun y => decide (y.host ≠ h) })) ∧
      (∀ (x : Holder) (r : RevokeReason), (s.bank b).holder h = some x →
        BankListsSound (s.bank b) → x.status = .revoking r → x.closeTag = none →
        exec (.closeLease h f tag (bankByte b)) s =
          .next ((s.setHost h (sideTaken s h f tag .closeLease)).setBank b
            { s.bank b with holders := (s.bank b).holders.map fun y =>
                if y.host = h then { y with closeTag := some tag } else y })) ∧
      (∀ x : Holder, (s.bank b).holder h = some x →
        (x.status = .closing ∨ (∃ r, x.status = .revoking r) ∧ x.closeTag ≠ none) →
        exec (.closeLease h f tag (bankByte b)) s =
          .next (s.setHost h (sideAnswered s h f [plain tag .closeLease .closing])))

/-- R21, R24: CLOSE_COMPLETE: a CLOSING holder of an OPEN bank with no transfer left is removed and a
recorded CLOSE answered OK; R30, R32: REVOCATION_FINISH: a REVOKING one is removed, LEASE_REVOKED is
queued and a recorded CLOSE answered OK, but nothing is sent for HOST_LOST. -/
def Obligations.LeavingHolderIsRemoved : Prop :=
  ∀ (s : State) (h : HostId) (b : Bank) (x : Holder),
    (s.bank b).holder h = some x → (s.bank b).state = .opened → noneLeft s h b →
    (x.status = .closing → x.closeTag = none →
      exec (.closeComplete b h) s = .next (holderGone b h s)) ∧
    (∀ tag : Tag, x.status = .closing → x.closeTag = some tag →
      (s.host h).tags[tag.val] = some .closeLease →
      exec (.closeComplete b h) s =
        .next (holderGone b h (s.setHost h
          (sideAnswers (s.host h) tag (plain tag .closeLease .ok))))) ∧
    (x.status = .revoking .hostLost →
      exec (.revocationFinish b h) s = .next (holderGone b h s)) ∧
    (∀ r : RevokeReason, r ≠ .hostLost → x.status = .revoking r → x.closeTag = none →
      exec (.revocationFinish b h) s =
        .next (holderGone b h (s.setHost h
          (sideNotified true (.leaseRevoked b r) (s.host h))))) ∧
    (∀ (r : RevokeReason) (tag : Tag), r ≠ .hostLost → x.status = .revoking r →
      x.closeTag = some tag → (s.host h).tags[tag.val] = some .closeLease →
      exec (.revocationFinish b h) s =
        .next (holderGone b h (s.setHost h
          (sideAnswers (sideNotified true (.leaseRevoked b r) (s.host h)) tag
            (plain tag .closeLease .ok)))))

/-- R11, R17: a CLOSED bank's queue is served while the gate is empty: an EXCLUSIVE head is granted alone, a
SHARED head with the SHARED waiters of its row that stand directly behind it. When the last reason leaves
the gate every CLOSED bank with waiters is served so in that event, and every other bank stays as it is;
shown of the operation that takes a reason out, and of the completion of a calibration that takes
REFRESH out. -/
def Obligations.QueueIsServedFromItsHead : Prop :=
  (∀ (s : State) (b : Bank) (head : Waiter) (same rest : List Waiter),
    (s.bank b).state = .closed → s.gate = ⟨false, false, false, false⟩ →
    (s.bank b).waiters = head :: same ++ rest → GrantedTogether head same rest →
    exec (.grantFromQueue b) s =
      .next ((s.setBank b
        { state := .activating, row := some head.row, mode := some head.mode
          holders := (head :: same).map fun w => ⟨w.host, w.tag, false, none, false, .active, none⟩
          waiters := rest }).setOp b
        { s.op b with
          pending := .activate head.row, setupEnd := some (s.now + 5), setupDone := false })) ∧
  (∀ (s : State) (r : GateReason), s.gate ≠ ⟨false, false, false, false⟩ →
    s.gate.put r false = ⟨false, false, false, false⟩ →
    ∃ t, removeReason r s = t ∧ ChangesOnly [.gate, .banks, .chan] s t ∧
      t.gate = ⟨false, false, false, false⟩ ∧ t.chan = { s.chan with ops := t.chan.ops } ∧
      ∀ b, ServedTo s.now (s.bank b) (s.op b) (t.bank b) (t.op b)) ∧
  ∀ (s : State) (by_ : Requester), Lands s .shortCal by_ →
    calm s s.agree.live.threshold s.account.owed → s.account.hold = false ∨ s.account.owed ≤ 0 →
    s.gate = ⟨false, true, false, false⟩ →
    ∃ t, exec .shortCalCompletion s = .next t ∧
      ChangesOnly [.gate, .banks, .chan, .account] s t ∧ t.gate = ⟨false, false, false, false⟩ ∧
      t.account = { s.account with calDue := false, hold := false, offer := .none } ∧
      t.chan = { chanLanded s [] with ops := t.chan.ops } ∧
      ∀ b, ServedTo s.now (s.bank b) (s.op b) (t.bank b) (t.op b)

/-- R19, R71: at the completion of an activation whose holders are all ACTIVE the bank is OPEN on its row,
every holder is answered OK with its grant tag and takes its hold deadline, and nothing else changes but
the place kept at the bus, the model's own field (log 23). -/
def Obligations.ActivationAnswersActiveHolders : Prop :=
  ∀ (s : State) (b : Bank) (row : Row),
    (s.op b).inFlight = .activate row → due s.now (s.op b).due = true →
    BankListsSound (s.bank b) →
    (∀ x ∈ (s.bank b).holders, x.status = .active ∧
      (s.host x.host).tags[x.grantTag.val] = some .openLease) →
    ∃ t, exec (.activateCompletion b) s = .next t ∧ ChangesOnly [.banks, .chan, .hosts] s t ∧
      OtherBanksSame b s t ∧ OtherOpsSame b (keepPlace s) t ∧
      t.op b = { s.op b with inFlight := .none, due := none, openRow := some row } ∧
      t.bank b = { s.bank b with
        state := .opened
        holders := (s.bank b).holders.map fun x =>
          { x with answered := true, deadline := grantDeadline s x.host } } ∧
      (∀ x ∈ (s.bank b).holders,
        t.host x.host = sideAnswers (s.host x.host) x.grantTag (plain x.grantTag .openLease .ok)) ∧
      ∀ g, (s.bank b).holder g = none → t.host g = s.host g

/-- R19, R22, R24, R31: the completion of an activation, its holders dealt with in grant order by their
status. An ACTIVE one's OPEN is answered OK and its hold deadline set. A CLOSING one's is answered
WITHDRAWN, and without a transfer on the bank it leaves, a recorded CLOSE answered OK. A REVOKING one
leaves with its OPEN answered REVOKED and a recorded CLOSE OK, but for HOST_LOST without an answer. If all
have left, the bank precharges: so does that of a sole holder that is leaving without a transfer. The
place kept at the bus is the model's own field (log 23). -/
def Obligations.ActivationOfLeavingHolderPrecharges : Prop :=
  (∀ (s : State) (b : Bank) (row : Row) (x : Holder),
    (s.op b).inFlight = .activate row → due s.now (s.op b).due = true →
    (s.bank b).holders = [x] → x.status ≠ .active → noneLeft s x.host b →
    (s.host x.host).tags[x.grantTag.val] = some .openLease → CloseOutstanding s x →
    ∃ t, exec (.activateCompletion b) s = .next t ∧ ChangesOnly [.banks, .chan, .hosts] s t ∧
      OtherBanksSame b s t ∧ OtherOpsSame b (keepPlace s) t ∧ OtherHostsSame x.host s t ∧
      t.bank b = { s.bank b with state := .precharging, mode := none, holders := [] } ∧
      t.op b = { s.op b with
        inFlight := .none, due := none, openRow := some row
        pending := .precharge, setupEnd := some (s.now + 5), setupDone := false } ∧
      (x.status = .closing → t.host x.host = sideClosed x.closeTag
        (sideAnswers (s.host x.host) x.grantTag (plain x.grantTag .openLease .withdrawn))) ∧
      (x.status = .revoking .hostLost → t.host x.host = s.host x.host) ∧
      (x.status ≠ .closing → x.status ≠ .revoking .hostLost →
        t.host x.host = sideClosed x.closeTag
          (sideAnswers (s.host x.host) x.grantTag (plain x.grantTag .openLease .revoked)))) ∧
  ∀ (s : State) (b : Bank) (row : Row),
    (s.op b).inFlight = .activate row → due s.now (s.op b).due = true →
    BankListsSound (s.bank b) →
    (∀ x ∈ (s.bank b).holders, x.status ≠ .revoking .hostLost →
      (s.host x.host).tags[x.grantTag.val] = some .openLease ∧ CloseOutstanding s x) →
    ∃ t, exec (.activateCompletion b) s = .next t ∧ ChangesOnly [.banks, .chan, .hosts] s t ∧
      OtherBanksSame b s t ∧ OtherOpsSame b (keepPlace s) t ∧
      t.bank b = withHolders { s.bank b with state := .opened } (holdersSettled s b) ∧
      t.op b = withHoldersOp s.now (s.bank b) (holdersSettled s b)
        { s.op b with inFlight := .none, due := none, openRow := some row } ∧
      (∀ x ∈ (s.bank b).holders,
        (x.status = .active → t.host x.host =
          sideAnswers (s.host x.host) x.grantTag (plain x.grantTag .openLease .ok)) ∧
        (x.status = .closing → ∀ p, p = sideAnswers (s.host x.host) x.grantTag
            (plain x.grantTag .openLease .withdrawn) →
          (noneLeft s x.host b → t.host x.host = sideClosed x.closeTag p) ∧
          (¬noneLeft s x.host b → t.host x.host = p)) ∧
        (x.status = .revoking .hostLost → t.host x.host = s.host x.host) ∧
        ∀ r : RevokeReason, r ≠ .hostLost → x.status = .revoking r →
          t.host x.host = sideClosed x.closeTag
            (sideAnswers (s.host x.host) x.grantTag (plain x.grantTag .openLease .revoked))) ∧
      ∀ g, (s.bank b).holder g = none → t.host g = s.host g

/-- R24, R73: at precharge completion the bank goes CLOSED with its row absent; with the gate empty its
queue is served in the same event (R17), here a head that is granted alone. -/
def Obligations.PrechargeCompletionCloses : Prop :=
  ∀ (s : State) (b : Bank),
    (s.op b).inFlight = .precharge → due s.now (s.op b).due = true →
    ((s.bank b).waiters = [] ∨ s.gate ≠ ⟨false, false, false, false⟩ →
      exec (.prechargeCompletion b) s =
        .next ((s.setBank b { s.bank b with state := .closed, row := none }).setOp b
          { s.op b with inFlight := .none, due := none, openRow := none })) ∧
    ∀ (head : Waiter) (rest : List Waiter),
      (s.bank b).waiters = head :: rest → s.gate = ⟨false, false, false, false⟩ →
      (head.mode = .exclusive ∨
        ∀ w, rest.head? = some w → ¬(w.mode = .shared ∧ w.row = head.row)) →
      exec (.prechargeCompletion b) s =
        .next ((s.setBank b
          { state := .activating, row := some head.row, mode := some head.mode
            holders := [⟨head.host, head.tag, false, none, false, .active, none⟩]
            waiters := rest }).setOp b
          { s.op b with
            inFlight := .none, due := none, openRow := none
            pending := .activate head.row, setupEnd := some (s.now + 5), setupDone := false })

/-! ## Deadlines and revocation (R25 to R33, R62) -/

/-- R25, R28: a hold deadline that expires with the bank's queue empty marks the holder overstayed and
tells its host; with a waiter the holder is revoked, and with no transfer left it leaves in the same event
and LEASE_REVOKED (HOLD_EXPIRED) is queued. A wait deadline that expires removes the waiter and answers
its OPEN TIMED_OUT. The place kept at the bus is the model's own field (log 23). The room made in the
transfer list is then filled from the intake (R56; last in the event by the model's choice, log 35). -/
def Obligations.LeaseDeadlinesExpire : Prop :=
  ∀ (s : State) (b : Bank) (h : HostId),
    (∀ x : Holder, (s.bank b).holder h = some x → BankListsSound (s.bank b) →
      due s.now x.deadline = true →
      ((s.bank b).waiters = [] →
        exec (.holdDeadlineExpiry b h) s =
          .next ((s.setBank b
            { s.bank b with holders := ((s.bank b).holders.map fun y =>
                if y.host = h then { y with deadline := none, overstayed := true } else y) }).setHost h
            (sideNotified true (.overstayed b) (s.host h)))) ∧
      ((s.bank b).waiters ≠ [] → x.status = .active → x.closeTag = none →
        (s.bank b).state = .opened → noneLeft s h b →
        exec (.holdDeadlineExpiry b h) s =
          .next (takeIntake (holderGone b h (s.setHost h
            (sideNotified true (.leaseRevoked b .holdExpired) (s.host h))))))) ∧
    ∀ w : Waiter, (s.bank b).waiter h = some w → due s.now w.deadline = true →
      (s.host h).tags[w.tag.val] = some .openLease →
      exec (.waitDeadlineExpiry b h) s =
        .next (((keepPlace s).setBank b
          { s.bank b with
            waiters := (s.bank b).waiters.filter fun y => decide (y.host ≠ h) }).setHost h
          (sideAnswers (s.host h) w.tag (plain w.tag .openLease .timedOut)))

/-- R29, R62: when an ACTIVE holder with a begun transfer is revoked by its hold deadline, it goes
REVOKING (HOLD_EXPIRED) with its deadline cancelled; its transfers on the bank that have not begun leave
the list, each answered one REVOKED and its tag freed, and every other transfer stays. The answers stand
in list order by the model's choice (log 10). The room made in the transfer list is then filled from the
intake (R56; last in the event by the model's choice, log 35). -/
def Obligations.RevocationCancelsUnbegunTransfers : Prop :=
  ∀ (s : State) (b : Bank) (h : HostId) (x : Holder) (begun : Transfer) (gone : List Transfer),
    gone = (s.xfer.list.filter fun e => decide (e.host = h ∧ e.bank = b ∧ e.issued = 0)) →
    (gone.map fun e => e.tag).Nodup →
    (∀ e ∈ gone, (s.host h).tags[e.tag.val] = some (kindOf e.kind)) →
    (s.bank b).holder h = some x → BankListsSound (s.bank b) → x.status = .active →
    due s.now x.deadline = true → (s.bank b).waiters ≠ [] →
    begun ∈ s.xfer.list → begun.host = h → begun.bank = b → 0 < begun.issued →
    ∃ t, exec (.holdDeadlineExpiry b h) s = .next (takeIntake t) ∧
      ChangesOnly [.banks, .xfer, .hosts] s t ∧ OtherBanksSame b s t ∧ OtherHostsSame h s t ∧
      t.bank b = { s.bank b with holders := (s.bank b).holders.map fun y =>
        if y.host = h then { y with status := .revoking .holdExpired, deadline := none } else y } ∧
      t.xfer = { s.xfer with list := (s.xfer.list.filter fun e =>
        decide (¬(e.host = h ∧ e.bank = b ∧ e.issued = 0))) } ∧
      t.host h = { s.host h with
        tags := (t.host h).tags
        link := { s.link h with sendQueue := (s.link h).sendQueue ++
          (gone.map fun e => OutMsg.response (plain e.tag (kindOf e.kind) .revoked)) } } ∧
      ∀ i : Tag, (t.host h).tags[i.val] =
        if i ∈ gone.map (fun e => e.tag) then none else (s.host h).tags[i.val]

/-- R29, R30, R32, R33, R62, R89, R91, R92, R124, R180: the rise of owed from 4 to 5 begins the next
interval and, where there is none, a pressure hold: REFRESH joins the gate and every holding host is asked
to close. A sweep yields its step not yet issued. It revokes every ACTIVE and CLOSING holder on every bank
for REFRESH, the drain deadline for CONFIG; a REVOKING one keeps its reason. A holder whose host has begun
no transfer on an OPEN bank leaves it at once and LEASE_REVOKED is queued with the reason. Every waiter
stays where it is. The room made in the transfer list is then filled from the intake (R56; last in the
event by the model's choice, log 35). The place kept at the bus is the model's own field (log 23). -/
def Obligations.MassRevocationReachesEveryHolder : Prop :=
  ∀ s : State, (∀ b, BankListsSound (s.bank b)) →
    (due s.now s.account.timer = true → s.account.owed = 4 →
      ∃ t, exec .intervalExpiry s = .next (takeIntake t) ∧
        ChangesOnly [.account, .gate, .seq, .banks, .chan, .xfer, .hosts] s t ∧
        t.account = { s.account with
          owed := 5, hold := true, timer := some (s.now + periodOf s.agree.live.rate) } ∧
        (s.account.hold = true → t.gate = s.gate) ∧
        (s.account.hold = false → t.gate = { s.gate with refresh := true } ∧
          ∀ (h : HostId) (set : BankSet), IsHeldSet s h set → set ≠ 0#8 → s.port h ≠ .down →
            ⟨.closeRequested .refresh set, none⟩ ∈ (t.host h).notes.entries ∨
              (t.host h).notes.overflow = true) ∧
        (s.seq.sweep = none ∨ s.seq.stepOffer ≠ .offered →
          t.seq = s.seq ∧ t.chan.offers = s.chan.offers) ∧
        (s.seq.sweep ≠ none → s.seq.stepOffer = .offered →
          t.seq = seqOffers true s.seq ∧
            t.chan.offers = s.chan.offers.filter fun o => decide (o.by_ ≠ .sequencer)) ∧
        t.chan = { (keepPlace s).chan with ops := t.chan.ops, offers := t.chan.offers } ∧
        MassRevoked .refresh s t) ∧
    ∀ p : Proposal, s.agree.state = .draining → s.agree.proposal = some p →
      due s.now p.drainDeadline = true →
      ∃ t, exec .drainDeadlineExpiry s = .next (takeIntake t) ∧
        ChangesOnly [.agree, .banks, .chan, .xfer, .hosts] s t ∧
        t.agree = { s.agree with proposal := some { p with drainDeadline := none } } ∧
        MassRevoked .config s t

/-! ## Transfers (chapter 3) -/

/-- R53, R55, R56 (log 13): a READ or WRITE that passes its checks joins the transfer list at once while
the list has room and no older request waits. Otherwise it is held in the intake, unchecked. -/
def Obligations.TransfersJoinListOrIntake : Prop :=
  ∀ (s : State) (h : HostId) (f : FrameHdr) (tag : Tag) (n : Byte) (col : BitVec 16)
    (p : List WriteBurst),
    RequestArrives s h f tag → s.port h = .attached ∨ s.port h = .leaving →
    p.length = n.toNat →
    (∀ (b : Bank) (row : Row), s.xfer.list.length < 64 → s.xfer.intake = [] →
      (PassesChecks s (readOf h tag (bankByte b) n col) b row →
        exec (.read h f tag (bankByte b) n col) s =
          .next ((s.setHost h (sideTaken s h f tag .read)).setList
            (s.xfer.list ++ [entryOf (readOf h tag (bankByte b) n col) b row]))) ∧
      (PassesChecks s (writeOf h tag (bankByte b) n col p) b row →
        exec (.write h f tag (bankByte b) n col p) s =
          .next ((s.setHost h (sideTaken s h f tag .write)).setList
            (s.xfer.list ++ [entryOf (writeOf h tag (bankByte b) n col p) b row])))) ∧
    ∀ bank : Byte, 64 ≤ s.xfer.list.length ∨ s.xfer.intake ≠ [] →
      exec (.read h f tag bank n col) s =
        .next ((s.setHost h (sideTaken s h f tag .read)).setIntake
          (s.xfer.intake ++ [readOf h tag bank n col])) ∧
      exec (.write h f tag bank n col p) s =
        .next ((s.setHost h (sideTaken s h f tag .write)).setIntake
          (s.xfer.intake ++ [writeOf h tag bank n col p]))

/-- R50, R53, R56: the refusals of a READ or WRITE in their order: answered at once, with nothing taken.
INTAKE_TAKE takes requests out of the intake, oldest first, until the list is full or the intake is empty:
each is checked as things then stand, and joins the transfer list or is refused in the same way. -/
def Obligations.TransfersRefusedInOrder : Prop :=
  (∀ (s : State) (h : HostId) (f : FrameHdr) (tag : Tag) (bank n : Byte) (col : BitVec 16)
     (p : List WriteBurst) (st : Status),
     RequestArrives s h f tag → s.port h = .attached ∨ s.port h = .leaving →
     p.length = n.toNat → s.xfer.list.length < 64 → s.xfer.intake = [] →
     (RefusedWith s (readOf h tag bank n col) st →
       exec (.read h f tag bank n col) s =
         .next (s.setHost h (sideAnswered s h f [plain tag .read st]))) ∧
     (RefusedWith s (writeOf h tag bank n col p) st →
       exec (.write h f tag bank n col p) s =
         .next (s.setHost h (sideAnswered s h f [plain tag .write st])))) ∧
  ∀ s : State, exec .intakeTake s = .next (takeIntake s) ∧
    ChangesOnly [.xfer, .hosts] s (takeIntake s) ∧
    ((takeIntake s).xfer.list.length < 64 → (takeIntake s).xfer.intake = []) ∧
    (64 ≤ s.xfer.list.length ∨ s.xfer.intake = [] → takeIntake s = s) ∧
    ∀ (q : TransferReq) (rest : List TransferReq),
      s.xfer.list.length < 64 → s.xfer.intake = q :: rest →
      (∀ (b : Bank) (row : Row), PassesChecks s q b row →
        takeIntake s = takeIntake
          { s with xfer := { list := s.xfer.list ++ [entryOf q b row], intake := rest } }) ∧
      ∀ (st : Status) (kind : ReqKind), RefusedWith s q st →
        (s.host q.host).tags[q.tag.val] = some kind →
        takeIntake s = takeIntake ((s.setIntake rest).setHost q.host
          (sideAnswers (s.host q.host) q.tag (plain q.tag kind st)))

/-- R52, R58, R72: BURST_ISSUE counts the burst on its entry and puts it in flight for 10 ns, with the
command slot running. A write burst stores its enabled bytes and no other byte of the DRAM, and the last
one answers the WRITE OK unless it is cancelled. The beats are placed in the loaded order (log 20), and
the bytes reach the DRAM at the issue (log 24). That the issue clears the place kept at the bus is the
model's (log 23). -/
def Obligations.BurstIssueCountsAndStores : Prop :=
  ∀ (s : State) (i : Nat) (e : Transfer) (o : BurstOrder),
    s.arbiter = some (.burst i) → s.xfer.list[i]? = some e → s.chan.loadedOrder = some o →
    ∃ t, exec .burstIssue s = .next t ∧ ChangesOnly [.xfer, .chan, .dram, .hosts] s t ∧
      t.xfer = { s.xfer with list := s.xfer.list.set i { e with issued := e.issued + 1 } } ∧
      t.chan = (bankOpIssued s e.bank
        { s.op e.bank with
          inFlight := match e.kind with | .read => .readBurst | .write => .writeBurst } 10).chan ∧
      (e.kind = .read → t.dram = s.dram ∧ t.hosts = s.hosts) ∧
      (e.kind = .write →
        (e.issued + 1 = e.bursts → e.cancelled = false →
          (s.host e.host).tags[e.tag.val] = some .write →
          t.hosts = (s.setHost e.host
            (sideAnswers (s.host e.host) e.tag (plain e.tag .write .ok))).hosts) ∧
        (e.issued + 1 ≠ e.bursts ∨ e.cancelled = true → t.hosts = s.hosts) ∧
        (∀ k : Fin 32, e.enables.getD (32 * e.issued + k.val) false = true →
          t.dramByteAt (transferAddress o e.bank e.row e.col e.issued k) =
            e.data.getD (32 * e.issued + k.val) 0#8) ∧
        ∀ addr : Nat,
          (∀ k : Fin 32, e.enables.getD (32 * e.issued + k.val) false = true →
            addr ≠ transferAddress o e.bank e.row e.col e.issued k) →
          t.dramByteAt addr = s.dramByteAt addr)

/-- R21, R30, R56, R59, R61, R63, R72: BURST_COMPLETION. The bank has nothing in flight, and after a write
burst its recovery runs for 16 ns. A read burst adds its 32 bytes to the entry. With its last burst the
entry leaves the list, a READ answered OK with all its data unless it is cancelled. A CLOSING or REVOKING
host with nothing left on the bank then leaves it, a recorded CLOSE answered OK and LEASE_REVOKED queued
to a REVOKING one, but nothing for HOST_LOST. Which entry a completion belongs to is the model's reading
(log 21); the beats are placed in the loaded order (log 20), and the bytes are read at the completion (log
24). The place kept at the bus is the model's own field (log 23). An entry that leaves lets the intake be
taken from (R56; after the holder has left, by R59's order, log 35). -/
def Obligations.BurstCompletionDeliversData : Prop :=
  ∀ (s : State) (b : Bank) (i : Nat) (e : Transfer) (o : BurstOrder) (q : BankOp)
    (data : List Byte) (side : HostSide) (u : State),
    s.xfer.list[i]? = some e → e.bank = b → e.completed < e.issued →
    (∀ (j : Nat) (x : Transfer), j < i → s.xfer.list[j]? = some x → x.bank = b →
      x.issued ≤ x.completed) →
    s.chan.loadedOrder = some o → due s.now (s.op b).due = true →
    ((s.op b).inFlight = .readBurst ∧ e.kind = .read ∧
        q = { s.op b with inFlight := .none, due := none } ∧
        data = e.data ++ ((List.finRange 32).map fun k =>
          s.dramByteAt (transferAddress o b e.row e.col e.completed k)) ∨
      (s.op b).inFlight = .writeBurst ∧ e.kind = .write ∧
        q = { s.op b with
          inFlight := .none, due := none, recoveryEnd := some (s.now + 16)
          recoveryDone := false } ∧
        data = e.data) →
    (e.completed + 1 < e.bursts →
      exec (.burstCompletion b) s =
        .next (((keepPlace s).setOp b q).setList
          (s.xfer.list.set i { e with completed := e.completed + 1, data := data }))) ∧
    (e.completed + 1 = e.bursts →
      (e.kind = .read → e.cancelled = false → (s.host e.host).tags[e.tag.val] = some .read ∧
        side = sideAnswers (s.host e.host) e.tag ⟨e.tag, .read, .ok, .data data⟩) →
      (e.kind = .write ∨ e.cancelled = true → side = s.host e.host) →
      u = (((keepPlace s).setOp b q).setList (s.xfer.list.eraseIdx i)).setHost e.host side →
      ((∀ x, (s.bank b).holder e.host = some x → x.status = .active) ∨
          (s.bank b).state ≠ .opened ∨ ¬noneLeft u e.host b →
        exec (.burstCompletion b) s = .next (takeIntake u)) ∧
      ∀ x : Holder, (s.bank b).holder e.host = some x → (s.bank b).state = .opened →
        noneLeft u e.host b →
        (x.status = .revoking .hostLost →
          exec (.burstCompletion b) s = .next (takeIntake (holderGone b e.host u))) ∧
        (CloseOutstanding s x →
          (x.status = .closing →
            exec (.burstCompletion b) s =
              .next (takeIntake
                (holderGone b e.host (u.setHost e.host (sideClosed x.closeTag side))))) ∧
          ∀ r : RevokeReason, r ≠ .hostLost → x.status = .revoking r →
            exec (.burstCompletion b) s =
              .next (takeIntake (holderGone b e.host (u.setHost e.host (sideClosed x.closeTag
                (sideNotified true (.leaseRevoked b r) side)))))))

/-! ## The channel controller (chapter 4) -/

/-- R68, R71, R73, R74, R77, R83, R85: what the issue of each operation but a burst does, with its duration; and
the ends of a set-up, of the command slot and of a write recovery. A lane captures with the delay of the
training step in flight on it, the other lanes with theirs. The marks that an end has been taken are the
model's (log 16), as is the place kept at the bus (log 23), and CKE rises at the issue of STANDBY_EXIT (the
model's reading of R85, log 27). -/
def Obligations.IssuesPutOperationsInFlight : Prop :=
  ∀ s : State,
    (∀ b, due s.now (s.op b).setupEnd = true → (s.op b).setupDone = false →
      exec (.setupEnd b) s = .next ((keepPlace s).setOp b { s.op b with setupDone := true })) ∧
    (due s.now s.chan.slotEnd = true →
      exec .commandSlotEnd s = .next (s.setChan { s.chan with slotEnd := none })) ∧
    (∀ b, due s.now (s.op b).recoveryEnd = true → (s.op b).recoveryDone = false →
      exec (.writeRecoveryEnd b) s =
        .next ((keepPlace s).setOp b { s.op b with recoveryDone := true })) ∧
    (∀ (b : Bank) (row : Row), s.arbiter = some (.activate b) → (s.op b).pending = .activate row →
      exec .activateIssue s =
        .next (bankOpIssued s b
          { s.op b with
            pending := .none, setupEnd := none, setupDone := false
            inFlight := .activate row } 15)) ∧
    (∀ b : Bank, s.arbiter = some (.precharge b) →
      exec .prechargeIssue s =
        .next (bankOpIssued s b
          { s.op b with
            pending := .none, setupEnd := none, setupDone := false, inFlight := .precharge
            recoveryEnd := none, recoveryDone := false } 15)) ∧
    ∀ o : Offer, s.arbiter = some (.maint o) →
      (o.op = .refresh → exec .refreshIssue s = .next (maintIssued s o 330)) ∧
      (o.op = .shortCal → exec .shortCalIssue s = .next (maintIssued s o 90)) ∧
      (o.op = .longCal → exec .longCalIssue s =
        .next ((maintIssued s o 1100).setSeq { s.seq with stepOffer := .inFlight })) ∧
      (∀ m, o.op = .modeLoad m → o.by_ = .sequencer → exec .modeLoadIssue s =
        .next ((maintIssued s o 24).setSeq { s.seq with stepOffer := .inFlight })) ∧
      (∀ m, o.op = .modeLoad m → o.by_ = .agreement → exec .modeLoadIssue s =
        .next (maintIssued s o 24)) ∧
      (∀ lane d, o.op = .trainStep lane d →
        ∃ t, exec .trainStepIssue s = .next t ∧
          t = (maintIssued s o 60).setSeq { s.seq with stepOffer := .inFlight } ∧
          t.capturesWith lane = some d ∧
          ∀ i, i ≠ lane → t.capturesWith i = s.chan.capture[i.val]) ∧
      (o.op = .standbyEnter → exec .standbyEnterIssue s = .next (maintIssued s o 30)) ∧
      (o.op = .standbyExit → exec .standbyExitIssue s =
        .next { maintIssued s o 420 with
          chan := { (maintIssued s o 420).chan with cke := true }
          standby := { s.standby with state := .exiting, exitPending := false } })

/-- R57, R71 to R73, R77 to R79, R81: what the arbiter takes. It takes nothing while the bus is busy. What it
takes is eligible, a PRECHARGE, ACTIVATE or BURST only in ACTIVE. What it would take before SETUP_END or
WRITE_RECOVERY_END keeps its place through that event. Where no event of the moment has left an operation
first, no eligible offer ranks before the one it takes and no older one ranks with it, and of the bank
operations the lowest bank or the oldest entry comes first. Where it takes nothing though the bus is free,
nothing is eligible. The place kept is the model's own field, and that a maintenance offer waits while a
reaction of the same event is open is the model's reading of R81 (log 23). -/
def Obligations.ArbiterFollowsRanks : Prop :=
  ∀ s : State,
    (∀ by_, s.rank ⟨.standbyExit, by_⟩ = 2 ∧ s.rank ⟨.refresh, by_⟩ = 3 ∧
      s.rank ⟨.shortCal, by_⟩ = 4 ∧ s.rank ⟨.standbyEnter, by_⟩ = 6) ∧
    (∀ m, s.rank ⟨.modeLoad m, .agreement⟩ = 5 ∧ s.rank ⟨.modeLoad m, .sequencer⟩ = 1) ∧
    s.rank ⟨.longCal, .sequencer⟩ = 1 ∧
    (∀ lane d, s.rank ⟨.trainStep lane d, .sequencer⟩ = if s.seq.device = .ready then 5 else 1) ∧
    (s.chan.maint ≠ none ∨ s.chan.slotEnd ≠ none → s.arbiter = none) ∧
    ((∀ o, s.arbiter = some (.maint o) → o ∈ s.chan.offers ∧ Eligible s o) ∧
      (∀ b, s.arbiter = some (.precharge b) → s.chan.state = .active ∧ PrechargeReady s b) ∧
      (∀ b, s.arbiter = some (.activate b) → s.chan.state = .active ∧ ActivateReady s b) ∧
      (∀ i, s.arbiter = some (.burst i) → s.chan.state = .active ∧ BurstReady s i)) ∧
    ((keepPlace s).arbiter = s.arbiter ∧
      keepPlace s = s.setChan { s.chan with first := (keepPlace s).chan.first } ∧
      ∀ c, s.arbiter = some c → ∀ b : Bank,
        (∃ t, exec (.setupEnd b) s = .next t ∧ t.arbiter = some c) ∧
        ∃ t, exec (.writeRecoveryEnd b) s = .next t ∧ t.arbiter = some c) ∧
    ((∀ f, s.chan.first = some f → f.moment ≠ s.now) →
      (∀ o, s.arbiter = some (.maint o) →
        ∃ older newer, s.chan.offers = older ++ o :: newer ∧
          (∀ x ∈ older, Eligible s x → s.rank o < s.rank x) ∧
          ∀ x ∈ newer, Eligible s x → s.rank o ≤ s.rank x) ∧
      (∀ b, s.arbiter = some (.precharge b) →
        (∀ o ∈ s.chan.offers, ¬Eligible s o) ∧ ∀ c, c < b → ¬PrechargeReady s c) ∧
      (∀ b, s.arbiter = some (.activate b) →
        (∀ o ∈ s.chan.offers, ¬Eligible s o) ∧ (∀ c, ¬PrechargeReady s c) ∧
          ∀ c, c < b → ¬ActivateReady s c) ∧
      (∀ i, s.arbiter = some (.burst i) →
        (∀ o ∈ s.chan.offers, ¬Eligible s o) ∧ (∀ c, ¬PrechargeReady s c ∧ ¬ActivateReady s c) ∧
          ∀ j, j < i → ¬BurstReady s j)) ∧
    (s.arbiter = none → s.chan.maint = none → s.chan.slotEnd = none →
      (s.reactionOpen = false → ∀ o ∈ s.chan.offers, ¬Eligible s o) ∧
        (s.chan.state = .active →
          (∀ c, ¬PrechargeReady s c ∧ ¬ActivateReady s c) ∧ ∀ i, ¬BurstReady s i))

/-! ## The refresh account (chapter 5) -/

/-- R89 to R91, R100, R180: INTERVAL_EXPIRY. The next interval runs with the live rate's period. Below 6
owed rises by one, and with it a pressure hold may begin: it is set, REFRESH joins the gate and every
holding host is asked to close. A sweep then yields its step not yet issued. At 6 the refresh is missed.
The place kept at the bus is the model's (log 23). -/
def Obligations.IntervalExpiryRaisesOwed : Prop :=
  ∀ (s k : State) (a : Account), due s.now s.account.timer = true → k = keepPlace s →
    a = { s.account with
      timer := some (s.now + periodOf s.agree.live.rate) } →
    (s.account.owed < 6 → s.account.owed ≠ 4 →
      calm s s.agree.live.threshold (s.account.owed + 1) →
      exec .intervalExpiry s = .next (k.setAccount { a with owed := s.account.owed + 1 })) ∧
    (s.account.owed < 6 → s.account.owed ≠ 4 → s.account.hold = false →
      presses s s.agree.live.threshold (s.account.owed + 1) →
      ∃ t, exec .intervalExpiry s = .next t ∧
        ChangesOnly [.account, .gate, .hosts, .seq, .chan] s t ∧
        t.account = { a with owed := s.account.owed + 1, hold := true } ∧
        t.gate = { s.gate with refresh := true } ∧ AskedToClose .refresh s t ∧
        (∀ h, t.host h = { s.host h with notes := (t.host h).notes }) ∧
        (s.seq.sweep = none ∨ s.seq.stepOffer ≠ .offered → t.seq = s.seq ∧ t.chan = k.chan) ∧
        (s.seq.sweep ≠ none → s.seq.stepOffer = .offered →
          t.seq = seqOffers true s.seq ∧
            t.chan = { k.chan with
              offers := s.chan.offers.filter fun o => decide (o.by_ ≠ .sequencer) })) ∧
    (s.account.owed < 6 → s.account.owed ≠ 4 → s.account.hold = true → s.seq.sweep ≠ none →
      s.seq.stepOffer = .offered → presses s s.agree.live.threshold (s.account.owed + 1) →
      exec .intervalExpiry s =
        .next { s with
          account := { a with owed := s.account.owed + 1 }
          seq := seqOffers true s.seq
          chan := { k.chan with
            offers := s.chan.offers.filter fun o => decide (o.by_ ≠ .sequencer) } }) ∧
    (6 ≤ s.account.owed →
      ∃ t, exec .intervalExpiry s = .next t ∧ ChangesOnly [.account, .hosts] k t ∧
        t.account = { a with missed :=
          if s.account.missed < 255 then s.account.missed + 1 else s.account.missed } ∧
        ∀ h, t.host h = sideNotified (inSet s h) (.fault .refreshMissed) (s.host h))

/-- R94, R97 to R99, R180: REFRESH_REQUEST makes one offer, a calibration if one is due. At the completion of
a REFRESH owed falls by one and the 128th calls for a calibration; the account offers again while its
pressure hold has refreshes to pay, and otherwise ends the hold and takes its reason out of the gate. A
sweep that yields ends its yield when the REFRESH leaves the account no longer pressed: it offers its kept
step in that event. -/
def Obligations.AccountOffersAndCompletions : Prop :=
  ∀ s : State,
    (s.account.timer ≠ none → s.account.offer = .none → (∀ b, (s.bank b).state = .closed) →
      (s.account.calDue = true →
        exec .refreshRequest s = .next { s with
          gate := { s.gate with refresh := true }
          account := { s.account with offer := .shortCal }
          chan := { s.chan with offers := s.chan.offers ++ [⟨.shortCal, .account⟩] } }) ∧
      (s.account.calDue = false →
        1 ≤ s.account.owed ∨ (-4 < s.account.owed ∧ noWaiters s ∧ s.xfer.list = []) →
        exec .refreshRequest s = .next { s with
          gate := { s.gate with refresh := true }
          account := { s.account with offer := .refresh }
          chan := { s.chan with offers := s.chan.offers ++ [⟨.refresh, .account⟩] } })) ∧
    (∀ (by_ : Requester) (q : Sequencer) (steps : List Offer), Lands s .refresh by_ →
      (calm s s.agree.live.threshold (s.account.owed - 1) ∧ q = s.seq ∧ steps = []) ∨
        (∃ w, s.seq.sweep = some w ∧ s.seq.yielding = true ∧
          ¬presses s s.agree.live.threshold (s.account.owed - 1) ∧ q = seqOffers false s.seq ∧
          steps = [stepOf w.lane w.delay]) →
      (s.account.sinceCal = 127 →
        exec .refreshCompletion s = .next { s with
          gate := { s.gate with refresh := true }
          account := { s.account with
            owed := s.account.owed - 1, sinceCal := 0, calDue := true, offer := .shortCal }
          seq := q
          chan := chanLanded s (steps ++ [⟨.shortCal, .account⟩]) }) ∧
      (s.account.sinceCal ≠ 127 → s.account.calDue = false →
        (s.account.hold = true → 2 ≤ s.account.owed →
          exec .refreshCompletion s = .next { s with
            gate := { s.gate with refresh := true }
            account := { s.account with
              owed := s.account.owed - 1, sinceCal := s.account.sinceCal + 1
              offer := .refresh }
            seq := q
            chan := chanLanded s (steps ++ [⟨.refresh, .account⟩]) }) ∧
        (s.account.hold = false ∨ s.account.owed ≤ 1 → noWaiters s →
          exec .refreshCompletion s = .next { s with
            gate := { s.gate with refresh := false }
            account := { s.account with
              owed := s.account.owed - 1, sinceCal := s.account.sinceCal + 1, hold := false
              offer := .none }
            seq := q
            chan := chanLanded s steps }))) ∧
    ∀ by_, Lands s .shortCal by_ → calm s s.agree.live.threshold s.account.owed →
      (s.account.hold = true → 1 ≤ s.account.owed →
        exec .shortCalCompletion s = .next { s with
          gate := { s.gate with refresh := true }
          account := { s.account with calDue := false, offer := .refresh }
          chan := chanLanded s [⟨.refresh, .account⟩] }) ∧
      (s.account.hold = false ∨ s.account.owed ≤ 0 → noWaiters s →
        exec .shortCalCompletion s = .next { s with
          gate := { s.gate with refresh := false }
          account := { s.account with calDue := false, hold := false, offer := .none }
          chan := chanLanded s [] })

/-! ## Start-up and lane training (chapter 10) -/

/-- R75, R101, R163, R175, R177: the release of RESET_N and the ends of HOLD, SETTLE and LOCK. At the end
of LOCK the account's timer starts; with every bank CLOSED, no waiter and no transfer, it offers its first
REFRESH in the same event. -/
def Obligations.StartUpPhasesFollow : Prop :=
  ∀ s : State,
    (s.resetN = false →
      ∃ t, exec .resetNRelease s = .next t ∧ ChangesOnly [.resetN, .seq, .hosts] s t ∧
        t.resetN = true ∧ t.seq = { s.seq with phaseEnd := some (s.now + 150000) } ∧
        ∀ h, t.host h = { s.host h with
          link := { s.link h with quietEnd := some (s.now + 2500000) } }) ∧
    (s.seq.device = .starting .hold → due s.now s.seq.phaseEnd = true →
      exec .holdPhaseEnd s = .next { s with
        seq := { s.seq with device := .starting .settle, phaseEnd := some (s.now + 400000) }
        chan := { s.chan with dresetN := true, clockOn := true } }) ∧
    (s.seq.device = .starting .settle → due s.now s.seq.phaseEnd = true →
      exec .settlePhaseEnd s = .next { s with
        seq := { s.seq with
          device := .starting .modes, phaseEnd := none, modeLoadsDone := 0, stepOffer := .offered }
        chan := { s.chan with
          cke := true, offers := s.chan.offers ++ [⟨.modeLoad .latency, .sequencer⟩] } }) ∧
    (s.seq.device = .starting .lock → due s.now s.seq.phaseEnd = true → s.seq.sweep = none →
      s.account.owed = 0 → 1 ≤ s.agree.live.threshold → s.account.offer = .none →
      s.account.calDue = false → (∀ b, (s.bank b).state = .closed) → noWaiters s →
      s.xfer.list = [] →
      exec .lockPhaseEnd s = .next { s with
        seq := { s.seq with
          device := .starting .calibrate, phaseEnd := none, stepOffer := .offered }
        gate := { s.gate with refresh := true }
        account := { s.account with
          timer := some (s.now + periodOf s.agree.live.rate)
          offer := .refresh }
        chan := { s.chan with
          offers := s.chan.offers ++ [⟨.longCal, .sequencer⟩, ⟨.refresh, .account⟩] } })

/-- R82, R99, R127, R176, R177: the completions of a MODE_LOAD, of start-up and of an apply, and of
LONG_CAL. Start-up loads latency, LINEAR_WRAP, drive and self-refresh in this order and goes on to LOCK;
an apply goes on to its commit; LONG_CAL goes on to TRAIN with lane 0's first step. -/
def Obligations.LoadAndCalibrationCompletions : Prop :=
  ∀ s : State,
    (∀ (m next : ModeSetting), Lands s (.modeLoad m) .sequencer →
      [ModeSetting.latency, .burst .linearWrap, .drive, .selfRefresh][s.seq.modeLoadsDone + 1]? =
        some next →
      exec .modeLoadCompletion s = .next { s with
        seq := { s.seq with
          modeLoadsDone := s.seq.modeLoadsDone + 1, stepOffer := .offered }
        chan := { chanLanded s [⟨.modeLoad next, .sequencer⟩] with
          loadedOrder := match m with
            | .burst o => some o
            | .latency | .drive | .selfRefresh => s.chan.loadedOrder } }) ∧
    (∀ m, Lands s (.modeLoad m) .sequencer → s.seq.modeLoadsDone = 3 →
      exec .modeLoadCompletion s = .next { s with
        seq := { s.seq with
          modeLoadsDone := 4, stepOffer := .none, device := .starting .lock
          phaseEnd := some (s.now + 1600) }
        chan := { chanLanded s [] with
          loadedOrder := match m with
            | .burst o => some o
            | .latency | .drive | .selfRefresh => s.chan.loadedOrder } }) ∧
    (∀ o, Lands s (.modeLoad (.burst o)) .agreement →
      exec .modeLoadCompletion s = .next { s with
        agree := { s.agree with applyStep := some .commit }
        chan := { chanLanded s [] with loadedOrder := some o } }) ∧
    ∀ (by_ : Requester) (r : LaneRecord), Lands s .longCal by_ → s.seq.lanes[0] = r →
      ¬presses s s.agree.live.threshold s.account.owed →
      exec .longCalCompletion s = .next { s with
        account := { s.account with sinceCal := 0, calDue := false }
        seq := { s.seq with
          device := .starting .train
          lanes := s.seq.lanes.set 0 { r with attempts := r.attempts + 1 }
          sweep := some (firstStep 0 (r.attempts + 1) .startUp)
          yielding := false, stepOffer := .offered }
        chan := chanLanded s [stepOf 0 0#6] }

/-- R83, R178 to R182: the completion of a training step at start-up: the next delay, or a yield to a
pressed account; a transition ends the lane, and lane 3's makes the device READY; an attempt without one
is followed by the next, and after the third the lane has failed and the device is FAILED. In each case the
lane captures with the delay of its record from then on. -/
def Obligations.StartUpTrainingStep : Prop :=
  ∀ (s : State) (lane : Lane) (d : Delay) (by_ : Requester) (sample : Bool) (w : Sweep)
    (r : LaneRecord) (press : Bool),
    Lands s (.trainStep lane d) by_ → s.seq.sweep = some w → w.kind = .startUp →
    w.lane = lane → s.seq.lanes[lane.val] = r →
    (press = true ↔ presses s s.agree.live.threshold s.account.owed) →
    (¬Transition sample w → w.delay ≠ 63#6 →
      exec (.trainStepCompletion sample) s = .next { s with
        seq := seqOffers press { s.seq with
          sweep := some { w with delay := w.delay + 1#6, prev := some sample } }
        chan := chanStepped s lane r.delay (stepOffers press lane (w.delay + 1#6)) }) ∧
    (Transition sample w →
      (∀ (next : Lane) (q : LaneRecord), lane ≠ 3 → next = lane + 1 → s.seq.lanes[next.val] = q →
        exec (.trainStepCompletion sample) s = .next { s with
          seq := seqOffers press { s.seq with
            lanes := (s.seq.lanes.set lane.val { r with delay := w.delay, status := .trained }).set
              next.val { q with attempts := q.attempts + 1 }
            sweep := some (firstStep next (q.attempts + 1) .startUp) }
          chan := chanStepped s lane w.delay (stepOffers press next 0#6) }) ∧
      (lane = 3 → (∀ h, s.port h ≠ .joining) → noWaiters s →
        exec (.trainStepCompletion sample) s = .next { s with
          gate := { s.gate with startup := false }
          seq := { s.seq with
            lanes := s.seq.lanes.set 3 { r with delay := w.delay, status := .trained }
            sweep := none, device := .ready, yielding := false, stepOffer := .none }
          chan := chanStepped s lane w.delay [] })) ∧
    (¬Transition sample w → w.delay = 63#6 →
      (r.attempts < 3 →
        exec (.trainStepCompletion sample) s = .next { s with
          seq := seqOffers press { s.seq with
            lanes := s.seq.lanes.set lane.val { r with attempts := r.attempts + 1 }
            sweep := some (firstStep lane (r.attempts + 1) .startUp) }
          chan := chanStepped s lane r.delay (stepOffers press lane 0#6) }) ∧
      (3 ≤ r.attempts →
        ∃ t, exec (.trainStepCompletion sample) s = .next t ∧
          ChangesOnly [.seq, .chan, .hosts] s t ∧
          t.seq = { s.seq with
            lanes := s.seq.lanes.set lane.val { r with status := .failed }
            sweep := none, device := .failed, yielding := false, stepOffer := .none } ∧
          t.chan = chanStepped s lane r.delay [] ∧
          (∀ h, s.port h ≠ .joining → t.host h = s.host h) ∧
          ∀ (h : HostId) (tag : Tag), s.port h = .joining → OnlyTag s h .join tag →
            t.host h = { sideAnswers (s.host h) tag (plain tag .join .deviceFailed) with
              port := .linked }))

/-- R126, R129, R178 to R180, R183, R184: the completion of a training step of a retraining: the next delay,
or a yield to a pressed account. A transition is staged, the lane records stay as they are, and the next
lane's first attempt begins; lane 3's puts the staged results into the records and the apply goes on. An
attempt without one is followed by the next, and after the third the proposal is abandoned
TRAINING_FAILED. -/
def Obligations.RetrainingStep : Prop :=
  ∀ (s : State) (lane : Lane) (d : Delay) (by_ : Requester) (sample : Bool) (w : Sweep)
    (st : Vector StagedLane 4) (own : Delay) (press : Bool),
    Lands s (.trainStep lane d) by_ → s.seq.sweep = some w → w.kind = .retrain →
    w.lane = lane → s.seq.staged = some st → s.seq.lanes[lane.val].delay = own →
    (press = true ↔ presses s s.agree.live.threshold s.account.owed) →
    (¬Transition sample w → w.delay ≠ 63#6 →
      exec (.trainStepCompletion sample) s = .next { s with
        seq := seqOffers press { s.seq with
          sweep := some { w with delay := w.delay + 1#6, prev := some sample } }
        chan := chanStepped s lane own (stepOffers press lane (w.delay + 1#6)) }) ∧
    (Transition sample w →
      (∀ (next : Lane), lane ≠ 3 → next = lane + 1 →
        exec (.trainStepCompletion sample) s = .next { s with
          seq := seqOffers press { s.seq with
            staged := some ((st.set lane.val
              { st[lane.val] with delay := some w.delay, status := .trained }).set next.val
              { st[next.val] with attempts := st[next.val].attempts + 1 })
            sweep := some (firstStep next (st[next.val].attempts + 1) .retrain) }
          chan := chanStepped s lane own (stepOffers press next 0#6) }) ∧
      (lane = 3 →
        ∃ t, exec (.trainStepCompletion sample) s = .next t ∧
          ChangesOnly [.seq, .chan, .agree] s t ∧
          t.seq = { s.seq with
            lanes := t.seq.lanes, sweep := none, staged := none, yielding := false
            stepOffer := .none } ∧
          t.seq.lanes[3] = ⟨w.delay, .trained, st[3].attempts⟩ ∧
          (∀ i : Lane, i ≠ 3 → t.seq.lanes[i.val] =
            ⟨st[i.val].delay.getD s.seq.lanes[i.val].delay, .trained, st[i.val].attempts⟩) ∧
          (∀ i : Lane, t.chan.capture[i.val] = some t.seq.lanes[i.val].delay) ∧
          (s.agree.staged.burstOrder = s.agree.live.burstOrder →
            t.agree = { s.agree with applyStep := some .commit } ∧
              t.chan = { chanLanded s [] with capture := t.chan.capture }) ∧
          (s.agree.staged.burstOrder ≠ s.agree.live.burstOrder →
            t.agree = { s.agree with applyStep := some .load } ∧
              t.chan = { chanLanded s
                [⟨.modeLoad (.burst s.agree.staged.burstOrder), .agreement⟩] with
                capture := t.chan.capture }))) ∧
    (¬Transition sample w → w.delay = 63#6 → st[lane.val].attempts < 3 →
      exec (.trainStepCompletion sample) s = .next { s with
        seq := seqOffers press { s.seq with
          staged := some (st.set lane.val
            { st[lane.val] with attempts := st[lane.val].attempts + 1 })
          sweep := some (firstStep lane (st[lane.val].attempts + 1) .retrain) }
        chan := chanStepped s lane own (stepOffers press lane 0#6) }) ∧
    (¬Transition sample w → w.delay = 63#6 → 3 ≤ st[lane.val].attempts →
      ∀ p : Proposal, s.agree.proposal = some p → noWaiters s →
        ∃ t, exec (.trainStepCompletion sample) s = .next t ∧
          ChangesOnly [.seq, .chan, .gate, .agree, .hosts] s t ∧
          t.seq = { s.seq with
            sweep := none, staged := none, yielding := false, stepOffer := .none } ∧
          t.chan = chanStepped s lane own [] ∧
          t.gate = { s.gate with config := false } ∧ t.agree = abandonedUnit s.agree ∧
          ∀ h, t.host h = sideResolved s p.number (.abandoned .trainingFailed) s.agree.epoch h
            (s.host h))

/-! ## The agreement unit (chapter 6) -/

/-- R42, R43, R105, R107, R189: which change items are valid, which are heavy, and what each sets. -/
def Obligations.ChangeItemsReadAndCarriedOut : Prop :=
  ∀ x : RawItem,
    (parseItem x ≠ none ↔
      (x.kind = 1#8 ∧ x.target.toNat ≤ 15 ∧ x.bankSet ≠ 0#8 ∧ x.valueA.toNat ≤ x.valueB.toNat ∧
        x.valueB.toNat ≤ 16383 ∧ ∀ i : Fin 4, (x.rights >>> (2 * i.val)) &&& 3#8 ≠ 3#8) ∨
      (x.kind = 2#8 ∧ x.target.toNat ≤ 15) ∨ (x.kind = 3#8 ∧ x.target.toNat ≤ 3) ∨
      (x.kind = 4#8 ∧ x.valueA.toNat ≤ 1) ∨
      (x.kind = 5#8 ∧ 1 ≤ x.valueA.toNat ∧ x.valueA.toNat ≤ 4) ∨
      (x.kind = 6#8 ∧ 1 ≤ x.valueA.toNat ∧ x.valueA.toNat ≤ 255) ∨
      (x.kind = 7#8 ∧ x.valueA ≠ 0#16) ∨ (x.kind = 8#8 ∧ x.valueA.toNat ≤ 1) ∨ x.kind = 9#8) ∧
    ∀ i : ChangeItem, parseItem x = some i →
      (i.heavy = true ↔ x.kind = 1#8 ∨ x.kind = 2#8 ∨ x.kind = 4#8 ∨ x.kind = 8#8 ∨ x.kind = 9#8) ∧
      ∀ c : SharedConfig,
        (x.kind = 1#8 → ∃ (n : Fin 16) (win : Window), n.val = x.target.toNat ∧
          applyItem c i = { c with windows := c.windows.set n.val (some win) } ∧
          win.banks = x.bankSet ∧ win.rowLow.toNat = x.valueA.toNat ∧
          win.rowHigh.toNat = x.valueB.toNat ∧
          win.rights.a.rank = (x.rights &&& 3#8).toNat ∧
          win.rights.b.rank = ((x.rights >>> 2) &&& 3#8).toNat ∧
          win.rights.c.rank = ((x.rights >>> 4) &&& 3#8).toNat ∧
          win.rights.d.rank = ((x.rights >>> 6) &&& 3#8).toNat) ∧
        (x.kind = 2#8 → ∃ n : Fin 16, n.val = x.target.toNat ∧
          applyItem c i = { c with windows := c.windows.set n.val none }) ∧
        (x.kind = 3#8 → ∃ h : HostId, portByte h = x.target ∧
          applyItem c i = { c with holdLimit := c.holdLimit.set h x.valueA }) ∧
        (x.kind = 4#8 → applyItem c i =
          { c with rate := if x.valueA = 0#16 then .normal else .fast }) ∧
        (x.kind = 5#8 → applyItem c i = { c with threshold := x.valueA.toNat }) ∧
        (x.kind = 6#8 → applyItem c i = { c with ballotTimeout := x.valueA.setWidth 8 }) ∧
        (x.kind = 7#8 → applyItem c i = { c with drainTimeout := x.valueA }) ∧
        (x.kind = 8#8 → applyItem c i =
          { c with burstOrder := if x.valueA = 0#16 then .linearWrap else .xorWrap }) ∧
        (x.kind = 9#8 → applyItem c i = c)

/-- R112, R113, R116, R117: the refusals of a PROPOSE in their order, and what a PROPOSE that is taken does:
while another host is attached, the ballot begins; with an empty electorate the ballot is won in the same
event: a light proposal is applied, and a heavy one drains, or with every bank CLOSED begins its apply. -/
def Obligations.ProposeIsRefusedOrPosted : Prop :=
  ∀ (s : State) (h : HostId) (f : FrameHdr) (tag : Tag) (base : BitVec 16) (items : List RawItem),
    RequestArrives s h f tag → s.port h = .attached → 1 ≤ items.length → items.length ≤ 16 →
    (s.standby.park.get h = true →
      exec (.propose h f tag base items) s =
        .next (s.setHost h (sideAnswered s h f [plain tag .propose .parked]))) ∧
    (s.standby.park.get h = false → s.agree.state ≠ .idle →
      exec (.propose h f tag base items) s =
        .next (s.setHost h (sideAnswered s h f [plain tag .propose .busy]))) ∧
    (s.standby.park.get h = false → s.agree.state = .idle →
      (base ≠ s.agree.epoch →
        exec (.propose h f tag base items) s =
          .next (s.setHost h (sideAnswered s h f [plain tag .propose .stale]))) ∧
      (base = s.agree.epoch →
        (∀ (n : Nat) (x : RawItem), items[n]? = some x → parseItem x = none →
          (∀ (m : Nat) (y : RawItem), m < n → items[m]? = some y → parseItem y ≠ none) →
          exec (.propose h f tag base items) s =
            .next (s.setHost h (sideAnswered s h f [⟨tag, .propose, .invalid, .position n⟩]))) ∧
        ∀ (l : List ChangeItem) (number : Seq),
          items.map parseItem = l.map some → number = s.agree.counter + 1#8 →
          ((∃ g, g ≠ h ∧ s.port g = .attached) →
            ∃ t, exec (.propose h f tag base items) s = .next t ∧
              ChangesOnly [.agree, .hosts] s t ∧
              t.agree = { s.agree with
                counter := number, state := .ballot, staged := l.foldl applyItem s.agree.live
                proposal := some {
                  number := number, proposer := h, items := l, heavy := l.any ChangeItem.heavy
                  electorate := PerHost.of fun g => inSet s g && decide (g ≠ h)
                  accepted := PerHost.const false
                  ballotDeadline :=
                    some (s.now + s.agree.live.ballotTimeout.toNat * 1000000)
                  drainDeadline := none, outcome := none } } ∧
              t.host h = sideAnswered s h f [⟨tag, .propose, .ok, .number number⟩] ∧
              ∀ g, g ≠ h → t.host g =
                sideNotified (inSet s g)
                  (.proposalPosted number h l.length (l.any ChangeItem.heavy)) (s.host g)) ∧
          ((∀ g, g ≠ h → s.port g ≠ .attached) →
            ∀ (a : Agreement) (p : Proposal),
              a = { s.agree with counter := number, staged := l.foldl applyItem s.agree.live } →
              p = { number := number, proposer := h, items := l, heavy := l.any ChangeItem.heavy
                    electorate := PerHost.const false, accepted := PerHost.const false
                    ballotDeadline := none
                    drainDeadline := some (s.now + s.agree.live.drainTimeout.toNat * 1000)
                    outcome := none } →
              (p.heavy = false → calm s a.staged.threshold s.account.owed →
                ∃ t, exec (.propose h f tag base items) s = .next t ∧
                  ChangesOnly [.agree, .hosts] s t ∧ OtherHostsSame h s t ∧
                  t.agree = appliedUnit a ∧
                  t.host h = sideResolved s number .applied (s.agree.epoch + 1#16) h
                    (sideAnswered s h f [⟨tag, .propose, .ok, .number number⟩])) ∧
              (p.heavy = true →
                ∃ t, exec (.propose h f tag base items) s = .next t ∧
                  ChangesOnly [.gate, .agree, .hosts, .chan, .seq] s t ∧
                  t.gate = { s.gate with config := true } ∧ AskedToClose .config s t ∧
                  t.host h = { sideAnswered s h f [⟨tag, .propose, .ok, .number number⟩] with
                    notes := (t.host h).notes } ∧
                  (∀ g, g ≠ h → t.host g = { s.host g with notes := (t.host g).notes }) ∧
                  ((∃ b, (s.bank b).state ≠ .closed) →
                    t.chan = s.chan ∧ t.seq = s.seq ∧
                      t.agree = { a with state := .draining, proposal := some p }) ∧
                  ((∀ b, (s.bank b).state = .closed) → ApplyBegun s t a p)))))

/-- R114, R115, R118, R129: the refusals of a VOTE in their order; an ACCEPT that leaves the ballot open;
a REJECT and the ballot deadline, each of which abandons the proposal. -/
def Obligations.VotesAndBallotDeadline : Prop :=
  ∀ s : State,
    (∀ (h : HostId) (f : FrameHdr) (tag : Tag) (n : Seq) (y : Bool),
      RequestArrives s h f tag → s.port h = .attached →
      (s.agree.state ≠ .ballot →
        exec (.vote h f tag n y) s =
          .next (s.setHost h (sideAnswered s h f [plain tag .vote .noBallot]))) ∧
      ∀ p : Proposal, s.agree.state = .ballot → s.agree.proposal = some p →
        (n ≠ p.number → exec (.vote h f tag n y) s =
          .next (s.setHost h (sideAnswered s h f [plain tag .vote .stale]))) ∧
        (n = p.number → p.electorate.get h = false → exec (.vote h f tag n y) s =
          .next (s.setHost h (sideAnswered s h f [plain tag .vote .notElector]))) ∧
        (n = p.number → p.electorate.get h = true → p.accepted.get h = true →
          exec (.vote h f tag n y) s =
            .next (s.setHost h (sideAnswered s h f [plain tag .vote .alreadyVoted]))) ∧
        (n = p.number → p.electorate.get h = true → p.accepted.get h = false →
          (y = true → p.accepted.set h true ≠ p.electorate →
            exec (.vote h f tag n y) s =
              .next ((s.setHost h (sideAnswered s h f [plain tag .vote .ok])).setAgree
                { s.agree with proposal := some { p with accepted := p.accepted.set h true } })) ∧
          (y = false → s.gate.config = false →
            ∃ t, exec (.vote h f tag n y) s = .next t ∧ ChangesOnly [.agree, .hosts] s t ∧
              t.agree = abandonedUnit s.agree ∧
              t.host h = sideResolved s p.number (.abandoned (.rejected h)) s.agree.epoch h
                (sideAnswered s h f [plain tag .vote .ok]) ∧
              ∀ g, g ≠ h → t.host g =
                sideResolved s p.number (.abandoned (.rejected h)) s.agree.epoch g
                  (s.host g)))) ∧
    ∀ p : Proposal, s.agree.state = .ballot → s.agree.proposal = some p →
      due s.now p.ballotDeadline = true → s.gate.config = false →
      ∃ t, exec .ballotDeadlineExpiry s = .next t ∧ ChangesOnly [.agree, .hosts] s t ∧
        t.agree = abandonedUnit s.agree ∧
        ∀ g, t.host g =
          sideResolved s p.number (.abandoned .timeout) s.agree.epoch g (s.host g)

/-- R91, R93, R106, R115 to R117, R125: the ACCEPT that makes a ballot unanimous. A light proposal is applied at
once: the staged record is live, the epoch rises by one and PROPOSAL_RESOLVED goes to the attached set; where
the new threshold presses the account, its pressure hold begins in the same event (after the resolution by
the model's choice, log 32). A heavy one begins to drain: CONFIG joins the gate and every holding host is
asked to close; with every bank CLOSED its apply begins in the same event. -/
def Obligations.UnanimousBallotActs : Prop :=
  ∀ (s : State) (h : HostId) (f : FrameHdr) (tag : Tag) (p : Proposal),
    RequestArrives s h f tag → s.port h = .attached → s.agree.state = .ballot →
    s.agree.proposal = some p → p.electorate.get h = true → p.accepted.get h = false →
    p.accepted.set h true = p.electorate →
    (p.heavy = false → calm s s.agree.staged.threshold s.account.owed →
      ∃ t, exec (.vote h f tag p.number true) s = .next t ∧ ChangesOnly [.agree, .hosts] s t ∧
        t.agree = appliedUnit s.agree ∧
        t.host h = sideResolved s p.number .applied (s.agree.epoch + 1#16) h
          (sideAnswered s h f [plain tag .vote .ok]) ∧
        ∀ g, g ≠ h → t.host g =
          sideResolved s p.number .applied (s.agree.epoch + 1#16) g (s.host g)) ∧
    (p.heavy = false → s.account.hold = false → s.seq.sweep = none →
      presses s s.agree.staged.threshold s.account.owed →
      ∃ t, exec (.vote h f tag p.number true) s = .next t ∧
        ChangesOnly [.agree, .gate, .account, .hosts] s t ∧ t.agree = appliedUnit s.agree ∧
        t.gate = { s.gate with refresh := true } ∧
        t.account = { s.account with hold := true } ∧
        ∀ g, ∃ set : BankSet, IsHeldSet s g set ∧
          t.host g = sideNotified (decide (set ≠ 0#8)) (.closeRequested .refresh set)
            (sideResolved s p.number .applied (s.agree.epoch + 1#16) g
              (if g = h then sideAnswered s h f [plain tag .vote .ok] else s.host g))) ∧
    (p.heavy = true →
      ∃ t, exec (.vote h f tag p.number true) s = .next t ∧
        ChangesOnly [.gate, .agree, .hosts, .chan, .seq] s t ∧
        t.gate = { s.gate with config := true } ∧ AskedToClose .config s t ∧
        t.host h = { sideAnswered s h f [plain tag .vote .ok] with notes := (t.host h).notes } ∧
        (∀ g, g ≠ h → t.host g = { s.host g with notes := (t.host g).notes }) ∧
        ((∃ b, (s.bank b).state ≠ .closed) → t.chan = s.chan ∧ t.seq = s.seq ∧
          t.agree = { s.agree with
            state := .draining
            proposal := some { p with
              accepted := p.electorate, ballotDeadline := none
              drainDeadline := some (s.now + s.agree.live.drainTimeout.toNat * 1000) } }) ∧
        ((∀ b, (s.bank b).state = .closed) →
          ApplyBegun s t s.agree { p with accepted := p.electorate, ballotDeadline := none }))

/-- R44, R93, R123, R125, R127, R128, R183: DRAIN_COMPLETE begins the apply: with a retraining, with the
load of a changed burst order, or at its commit. COMMIT makes the staged record live, raises the epoch,
takes CONFIG out of the gate and resolves the proposal APPLIED. A waiter whose right is enough stays in
its place; one without is removed and its OPEN answered NO_RIGHT. Where the gate is then empty the CLOSED
banks are served from the queues that are left, before the account judges a new threshold (the model's
choice, log 32). -/
def Obligations.ApplyBeginsAndCommits : Prop :=
  ∀ (s : State) (p : Proposal), s.agree.proposal = some p →
    (s.agree.state = .draining → (∀ b, (s.bank b).state = .closed) →
      ∃ t, exec .drainComplete s = .next t ∧ ChangesOnly [.agree, .chan, .seq] s t ∧
        ApplyBegun s t s.agree p) ∧
    (s.agree.state = .applying → s.agree.applyStep = some .commit →
      (noWaiters s → calm s s.agree.staged.threshold s.account.owed →
        ∃ t, exec .commit s = .next t ∧ ChangesOnly [.agree, .gate, .hosts] s t ∧
          t.agree = appliedUnit s.agree ∧ t.gate = { s.gate with config := false } ∧
          ∀ g, t.host g =
            sideResolved s p.number .applied (s.agree.epoch + 1#16) g (s.host g)) ∧
      ∃ t, exec .commit s = .next t ∧ t.agree = appliedUnit s.agree ∧
        ∀ (b : Bank) (stay : List Waiter), BankListsSound (s.bank b) →
          stay = ((s.bank b).waiters.filter fun x =>
            (rightOf s.agree.staged x.host b x.row).enough x.mode) →
          (s.gate.config = true → s.gate.put .config false = ⟨false, false, false, false⟩ →
            ServedTo s.now { s.bank b with waiters := stay } (s.op b) (t.bank b) (t.op b)) ∧
          (s.gate.put .config false ≠ ⟨false, false, false, false⟩ →
            t.bank b = { s.bank b with waiters := stay } ∧ t.op b = s.op b) ∧
          ∀ x ∈ (s.bank b).waiters, x ∉ stay →
            (s.host x.host).tags[x.tag.val] = some .openLease →
            (t.host x.host).tags[x.tag.val] = none ∧
              .response (plain x.tag .openLease .noRight) ∈ (t.link x.host).sendQueue)

/-! ## Standby (chapter 7) -/

/-- R133, R134, R140, R141: PARK is refused in its order or taken, and UNPARK is answered OK: nothing more
for a host that is not parked; a parked host leaves the park set, which is an exit cause in ENTERING,
where the entry is given up if STANDBY_ENTER has not issued, and in SELF_REFRESH. That the exit is only
offered in this event, with its issue a later command, is the model's choice (log 4). -/
def Obligations.ParkAndUnpark : Prop :=
  ∀ (s : State) (h : HostId) (f : FrameHdr) (tag : Tag),
    RequestArrives s h f tag → s.port h = .attached →
    ((∃ b, s.holds h b = true ∨ s.waits h b = true) ∨
        (∃ e ∈ s.xfer.list, e.host = h) ∨ (∃ q ∈ s.xfer.intake, q.host = h) →
      exec (.park h f tag) s =
        .next (s.setHost h (sideAnswered s h f [plain tag .park .busyLeases]))) ∧
    ((∀ b, s.holds h b = false ∧ s.waits h b = false) →
      (∀ e ∈ s.xfer.list, e.host ≠ h) → (∀ q ∈ s.xfer.intake, q.host ≠ h) →
      ((∃ p, s.agree.proposal = some p ∧ p.proposer = h) → s.agree.state ≠ .idle →
        exec (.park h f tag) s =
          .next (s.setHost h (sideAnswered s h f [plain tag .park .busy]))) ∧
      ((∀ p, s.agree.proposal = some p → p.proposer ≠ h) ∨ s.agree.state = .idle →
        exec (.park h f tag) s =
          .next ((s.setHost h (sideAnswered s h f [plain tag .park .ok])).setStandby
            { s.standby with park := s.standby.park.set h true }))) ∧
    (s.standby.park.get h = false →
      exec (.unpark h f tag) s =
        .next (s.setHost h (sideAnswered s h f [plain tag .unpark .ok]))) ∧
    (s.standby.park.get h = true →
      (s.standby.state = .running ∨ s.standby.state = .exiting →
        exec (.unpark h f tag) s =
          .next ((s.setHost h (sideAnswered s h f [plain tag .unpark .ok])).setStandby
            { s.standby with park := s.standby.park.set h false })) ∧
      (s.standby.state = .entering → s.inFlight .standbyEnter = false → noWaiters s →
        exec (.unpark h f tag) s = .next { s with
          hosts := s.hosts.set h (sideAnswered s h f [plain tag .unpark .ok])
          standby := { s.standby with park := s.standby.park.set h false, state := .running }
          gate := { s.gate with standby := false }
          chan := { s.chan with
            offers := s.chan.offers.filter fun o => decide (o.by_ ≠ .standby) } }) ∧
      (s.standby.state = .entering → s.inFlight .standbyEnter = true →
        s.offered .standbyExit = false →
        exec (.unpark h f tag) s = .next { s with
          hosts := s.hosts.set h (sideAnswered s h f [plain tag .unpark .ok])
          standby := { s.standby with park := s.standby.park.set h false, exitPending := true }
          chan := { s.chan with offers := s.chan.offers ++ [⟨.standbyExit, .standby⟩] } }) ∧
      (s.standby.state = .selfRefresh → s.offered .standbyExit = false →
        exec (.unpark h f tag) s = .next { s with
          hosts := s.hosts.set h (sideAnswered s h f [plain tag .unpark .ok])
          standby := { s.standby with park := s.standby.park.set h false }
          chan := { s.chan with offers := s.chan.offers ++ [⟨.standbyExit, .standby⟩] } }))

/-- R85, R102, R103, R136 to R138, R141, R142: the way into standby and out of it. When the entry condition
holds, STANDBY joins the gate and the state is ENTERING; with all banks CLOSED, STANDBY_ENTER is offered. At
its completion the channel is SELF_REFRESH with CKE low, the account stops and loses its offer and its
gate reason, the attached hosts are told, and a pending exit is offered. At the completion of STANDBY_EXIT
the channel is ACTIVE, STANDBY leaves the gate, the account's timer runs again, the state is RUNNING and the
attached hosts are told. After STANDBY_ENTER a pending exit stays set with its offer until the offer issues,
a later command (the model's choice, log 4). -/
def Obligations.StandbyEntryAndExit : Prop :=
  ∀ s : State,
    (s.standby.state = .running →
      (∀ h, s.port h = .attached → s.standby.park.get h = true) →
      (∀ h, s.port h ≠ .joining) → s.agree.state = .idle → s.seq.device = .ready →
      s.chan.state ≠ .maintenance →
      exec .standbyEntering s = .next { s with
        gate := { s.gate with standby := true }
        standby := { s.standby with state := .entering } }) ∧
    (s.standby.state = .entering → (∀ b, (s.bank b).state = .closed) →
      (∀ o ∈ maintOps s, o.op ≠ .standbyEnter) →
      exec .standbyEnterOffer s = .next { s with
        chan := { s.chan with offers := s.chan.offers ++ [⟨.standbyEnter, .standby⟩] } }) ∧
    (∀ (by_ : Requester) (offers : List Offer), Lands s .standbyEnter by_ →
      s.gate.standby = true → offers = (s.chan.offers.filter fun o => decide (o.by_ ≠ .account)) →
      ∃ t, exec .standbyEnterCompletion s = .next t ∧
        ChangesOnly [.gate, .chan, .account, .standby, .hosts] s t ∧
        t.gate = { s.gate with refresh := false } ∧
        t.account = { s.account with timer := none, offer := .none } ∧
        t.standby = { s.standby with state := .selfRefresh } ∧
        (s.standby.exitPending = false ∨ s.offered .standbyExit = true →
          (∀ o ∈ s.chan.offers, o.op = .standbyExit → o.by_ ≠ .account) →
          t.chan = { s.chan with
            state := .selfRefresh, maint := none, cke := false, offers := offers }) ∧
        (s.standby.exitPending = true → s.offered .standbyExit = false →
          t.chan = { s.chan with
            state := .selfRefresh, maint := none, cke := false
            offers := offers ++ [⟨.standbyExit, .standby⟩] }) ∧
        ∀ h, t.host h = sideNotified (inSet s h) .standbyEntered (s.host h)) ∧
    ∀ by_, Lands s .standbyExit by_ → noWaiters s → s.seq.sweep = none →
      s.account.hold = true ∨
        (s.account.owed < s.agree.live.threshold ∧ s.account.owed < 5) →
      ∃ t, exec .standbyExitCompletion s = .next t ∧
        ChangesOnly [.gate, .chan, .account, .standby, .hosts] s t ∧
        t.gate = { s.gate with standby := false } ∧ t.chan = chanLanded s [] ∧
        t.account = { s.account with
          timer := some (s.now + periodOf s.agree.live.rate) } ∧
        t.standby = { s.standby with state := .running } ∧
        ∀ h, t.host h = sideNotified (inSet s h) .standbyLeft (s.host h)

/-! ## Attachment (chapter 8) -/

/-- R158, R139 to R141: JOIN is refused ALREADY_JOINED unless the port is LINKED, and DEVICE_FAILED by a
FAILED device. Otherwise the port goes JOINING and the tag stays OUTSTANDING; in SELF_REFRESH, and in
ENTERING once STANDBY_ENTER has issued, it is an exit cause, which offers STANDBY_EXIT (whose issue is a
later command by the model's choice, log 4). In ENTERING before that the entry is abandoned: the state is
RUNNING, STANDBY leaves the gate and STANDBY_ENTER is withdrawn. Where the join condition holds, the JOIN
completes in its own event: the port is ATTACHED, the JOIN answered OK with the epoch and the attached
set, and every other attached host is told. -/
def Obligations.JoinWaitsOrCompletes : Prop :=
  ∀ (s : State) (h : HostId) (f : FrameHdr) (tag : Tag), RequestArrives s h f tag →
    (s.port h ≠ .linked →
      exec (.join h f tag) s =
        .next (s.setHost h (sideAnswered s h f [plain tag .join .alreadyJoined]))) ∧
    (s.port h = .linked →
      (s.seq.device = .failed →
        exec (.join h f tag) s =
          .next (s.setHost h (sideAnswered s h f [plain tag .join .deviceFailed]))) ∧
      (s.seq.device ≠ .failed →
        (s.standby.state = .exiting ∨
            (s.standby.state = .running ∧ (s.seq.device ≠ .ready ∨ s.agree.state ≠ .idle)) →
          exec (.join h f tag) s =
            .next (s.setHost h { sideTaken s h f tag .join with port := .joining })) ∧
        (s.standby.state = .selfRefresh → s.offered .standbyExit = false →
          exec (.join h f tag) s = .next { s with
            hosts := s.hosts.set h { sideTaken s h f tag .join with port := .joining }
            chan := { s.chan with offers := s.chan.offers ++ [⟨.standbyExit, .standby⟩] } }) ∧
        (s.standby.state = .entering → s.inFlight .standbyEnter = true →
          s.offered .standbyExit = false →
          exec (.join h f tag) s = .next { s with
            hosts := s.hosts.set h { sideTaken s h f tag .join with port := .joining }
            standby := { s.standby with exitPending := true }
            chan := { s.chan with offers := s.chan.offers ++ [⟨.standbyExit, .standby⟩] } }) ∧
        (s.standby.state = .entering → s.inFlight .standbyEnter = false → noWaiters s →
          ∃ t, exec (.join h f tag) s = .next t ∧
            ChangesOnly [.hosts, .standby, .gate, .chan] s t ∧
            t.standby = { s.standby with state := .running } ∧
            t.gate = { s.gate with standby := false } ∧
            t.chan = { s.chan with
              offers := s.chan.offers.filter fun o => decide (o.by_ ≠ .standby) } ∧
            (s.seq.device ≠ .ready ∨ s.agree.state ≠ .idle →
              t.host h = { sideTaken s h f tag .join with port := .joining } ∧
                OtherHostsSame h s t) ∧
            (s.seq.device = .ready → s.agree.state = .idle → (∀ g, s.port g ≠ .joining) →
              (∀ i : Tag, (s.host h).tags[i.val] ≠ some .join) →
              t.host h = { sideAnswered s h f
                [⟨tag, .join, .ok,
                  .joined s.agree.epoch (PerHost.of fun g => inSet s g || decide (g = h))⟩] with
                port := .attached } ∧
              ∀ g, g ≠ h → t.host g = sideNotified (inSet s g) (.hostJoined h) (s.host g))) ∧
        (s.standby.state = .running → s.seq.device = .ready → s.agree.state = .idle →
          (∀ g, s.port g ≠ .joining) → (∀ i : Tag, (s.host h).tags[i.val] ≠ some .join) →
          ∃ t, exec (.join h f tag) s = .next t ∧ ChangesOnly [.hosts] s t ∧
            t.host h = { sideAnswered s h f
              [⟨tag, .join, .ok,
                .joined s.agree.epoch (PerHost.of fun g => inSet s g || decide (g = h))⟩] with
              port := .attached } ∧
            ∀ g, g ≠ h → t.host g = sideNotified (inSet s g) (.hostJoined h) (s.host g))))

/-- R158 (the order of the notifications of one event is the model's, log 10): JOIN_COMPLETE attaches every
JOINING host. Each JOIN is answered with the epoch and the attached set after all of them, and each host
attached then is told of every other that has joined. -/
def Obligations.JoinCompleteAttachesEveryJoiningHost : Prop :=
  ∀ (s : State) (tags : HostId → Tag), s.seq.device = .ready → s.agree.state = .idle →
    s.standby.state = .running → (∃ g, s.port g = .joining) →
    (∀ g, s.port g = .joining → OnlyTag s g .join (tags g)) →
    ∃ t, exec .joinComplete s = .next t ∧ ChangesOnly [.hosts] s t ∧
      (∀ g, s.port g = .joining →
        t.host g = { sideAnswers (s.host g) (tags g)
          ⟨tags g, .join, .ok, .joined s.agree.epoch
            (PerHost.of fun k => inSet s k || decide (s.port k = .joining))⟩ with
          port := .attached, notes := (t.host g).notes }) ∧
      (∀ g, s.port g ≠ .joining → t.host g = { s.host g with notes := (t.host g).notes }) ∧
      ∀ g, (t.host g).notes =
        if s.port g = .attached ∨ s.port g = .joining then
          (([HostId.a, .b, .c, .d].filter fun k => decide (s.port k = .joining ∧ k ≠ g)).foldl
            (fun q k => q.push (.hostJoined k)) (s.host g).notes)
        else (s.host g).notes

/-- R20, R34, R64, R119 to R122, R144, R155, R159, R160, R170: LEAVE takes the host out of the attached
set and the park set, withdraws its waiters, each OPEN answered WITHDRAWN, and makes its ACTIVE holders
CLOSING with no close tag; one with no transfer on an OPEN bank leaves at once, and a bank that loses its
last holder precharges. Entries of other hosts and all transfers stay as they are. It is a detach: in
BALLOT the proposer's abandons the proposal, and an elector's takes it out of the electorate, which may
win the ballot; in DRAINING and APPLYING the record loses it from the electorate and is else as it was
(log 33). With nothing left it completes in its own event, as LEAVE_COMPLETE does later: the host's
notifications are dropped, the port goes LINKED, the LEAVE is answered OK and the attached hosts are told.
The order of the two parts is the model's choice (log 34); the place kept at the bus is its own field (log
23). -/
def Obligations.LeaveAndItsCompletion : Prop :=
  ∀ (s : State) (h : HostId) (tag : Tag),
    (∀ f : FrameHdr, RequestArrives s h f tag → s.port h = .attached →
      (∃ t, exec (.leave h f tag) s = .next t ∧ (t.port h = .leaving ∨ t.port h = .linked) ∧
        t.standby.park.get h = false ∧ DetachedUnit h s.agree t.agree ∧ t.xfer = s.xfer ∧
        (∀ b, (t.bank b).waiter h = none ∧
          ∀ x, (t.bank b).holder h = some x → x.status ≠ .active) ∧
        (∀ (b : Bank) (w : Waiter), (s.bank b).waiter h = some w →
          (s.host h).tags[w.tag.val] = some .openLease →
          (t.host h).tags[w.tag.val] = none ∧
            .response (plain w.tag .openLease .withdrawn) ∈ (t.link h).sendQueue) ∧
        ∀ b, BankListsSound (s.bank b) → (s.agree.state = .ballot → s.gate.config = false) →
          t.bank b = { withHolders (s.bank b) (holdersLeaving s h b) with
            waiters := (s.bank b).waiters.filter fun w => decide (w.host ≠ h) } ∧
          t.op b = withHoldersOp s.now (s.bank b) (holdersLeaving s h b) (s.op b)) ∧
      ((∀ b, s.holds h b = false ∧ s.waits h b = false) →
        (∀ e ∈ s.xfer.list, e.host ≠ h) → (∀ q ∈ s.xfer.intake, q.host ≠ h) →
        s.agree.state = .idle → (∀ i : Tag, (s.host h).tags[i.val] ≠ some .leave) →
        ∃ t, exec (.leave h f tag) s = .next t ∧ ChangesOnly [.standby, .hosts] s t ∧
          t.standby = { s.standby with park := s.standby.park.set h false } ∧
          t.host h = { s.host h with
            port := .linked
            notes := { (s.host h).notes with entries := [], overflow := false }
            link := { linkAfter s h f with
              sendQueue := ((s.link h).sendQueue.filter fun m => !m.isNote) ++
                [.response (plain tag .leave .ok)] } } ∧
          ∀ g, g ≠ h → t.host g = sideNotified (inSet s g) (.hostLeft h false) (s.host g))) ∧
    (s.port h = .leaving → (∀ b, s.holds h b = false ∧ s.waits h b = false) →
      (∀ e ∈ s.xfer.list, e.host ≠ h) → (∀ q ∈ s.xfer.intake, q.host ≠ h) →
      OnlyTag s h .leave tag →
      ∃ t, exec (.leaveComplete h) s = .next t ∧ ChangesOnly [.hosts] s t ∧
        t.host h = { s.host h with
          port := .linked
          tags := (s.host h).tags.set tag.val none
          notes := { (s.host h).notes with entries := [], overflow := false }
          link := { s.link h with
            sendQueue := ((s.link h).sendQueue.filter fun m => !m.isNote) ++
              [.response (plain tag .leave .ok)] } } ∧
        ∀ g, g ≠ h → t.host g = sideNotified (inSet s g) (.hostLeft h false) (s.host g))

/-! ## Host links (chapter 8) -/

/-- R34, R56, R63, R64, R119 to R122, R145, R148, R154, R155, R161: the silence deadline takes the link
DOWN. Link, tags and notification queue take their DOWN values. An ATTACHED or LEAVING host loses its
waiters and its intake requests; what holders it has left are REVOKING for HOST_LOST, and what transfers
it has left on the banks it held have begun and are cancelled. An ATTACHED one leaves the park set too,
and its loss is a detach for the agreement unit (R119 to R122; in DRAINING and APPLYING the record loses
it from the electorate, log 33); the loss of a LEAVING one does not touch the agreement unit or the park
set. While the unit is IDLE, and for a LEAVING host always, every other attached host is told, and nothing
else is sent. The place kept at the bus is the model's (log 23). The room made in the transfer list is
then filled from the intake (R56; last in the event by the model's choice, log 35). -/
def Obligations.LostHostIsTornDown : Prop :=
  ∀ (s : State) (h : HostId) (gone : HostSide),
    (s.link h).state = .up → due s.now (s.link h).silence = true →
    gone = HostSide.down (some (s.now + 2500000)) →
    (s.port h = .linked ∨ s.port h = .joining →
      exec (.silenceDeadlineExpiry h) s = .next (s.setHost h gone)) ∧
    (s.port h = .attached ∨ s.port h = .leaving →
      ∃ t, exec (.silenceDeadlineExpiry h) s = .next (takeIntake t) ∧ t.host h = gone ∧
        (s.port h = .attached →
          t.standby.park.get h = false ∧ DetachedUnit h s.agree t.agree) ∧
        (s.port h = .leaving →
          ChangesOnly [.banks, .chan, .xfer, .hosts] s t ∧ ∀ g, g ≠ h →
            t.host g = sideNotified (inSet s g) (.hostLeft h true) (s.host g)) ∧
        (∀ q ∈ t.xfer.intake, q.host ≠ h) ∧
        (∀ b, (t.bank b).waiter h = none ∧
          ∀ x, (t.bank b).holder h = some x → x.status = .revoking .hostLost) ∧
        (∀ e ∈ t.xfer.list, e.host = h → s.holds h e.bank = true →
          0 < e.issued ∧ e.cancelled = true) ∧
        (s.agree.state = .idle → t.agree = s.agree ∧ t.gate = s.gate ∧
          ∀ g, g ≠ h → t.host g = sideNotified (inSet s g) (.hostLeft h true) (s.host g)))

/-- R145, R147, R155: QUIET ends with the first IDLE; in LISTENING valid IDLEs in a row are counted, other
frames break the run, and the third IDLE brings the link UP and the port to LINKED. The last frame put on
the wire is the model's own field (log 17). -/
def Obligations.LinkComesUp : Prop :=
  ∀ (s : State) (h : HostId),
    ((s.link h).state = .quiet → due s.now (s.link h).quietEnd = true →
      exec (.quietEnd h) s = .next (s.setHost h { s.host h with
        link := { s.link h with
          state := .listening, quietEnd := none, sendTimer := some (s.now + 100000)
          lastSent := some ⟨(s.link h).nextSend, (s.link h).expected - 1#8, .idle⟩ } })) ∧
    ((s.link h).state = .listening → due s.now (s.link h).sendTimer = true →
      exec (.sendTimerExpiry h) s = .next (s.setHost h { s.host h with
        link := { s.link h with
          sendTimer := some (s.now + 100000)
          lastSent := some ⟨(s.link h).nextSend, (s.link h).expected - 1#8, .idle⟩ } })) ∧
    ((s.link h).state = .listening → ∀ f : FrameHdr,
      ((s.link h).idleRun < 2 →
        exec (.receiveIdleFrame h f) s = .next (s.setHost h { s.host h with
          link := { s.link h with idleRun := (s.link h).idleRun + 1 } })) ∧
      ((s.link h).idleRun = 2 →
        ∃ t, exec (.receiveIdleFrame h f) s = .next t ∧ ChangesOnly [.hosts] s t ∧
          OtherHostsSame h s t ∧
          t.host h = { s.host h with port := .linked, link := t.link h } ∧
          (t.link h).state = .up ∧ (t.link h).nextSend = 0#8 ∧ (t.link h).expected = 0#8 ∧
          (t.link h).replayBuffer = [] ∧ (t.link h).replayCount = 0 ∧
          (t.link h).replayPos = none ∧ (t.link h).sendQueue = [] ∧
          (t.link h).receiver = .normal ∧ (t.link h).nakDue = none ∧
          (t.link h).silence = some (s.now + 2000000) ∧
          (t.link h).sendTimer = some (s.now + 100000)) ∧
      (∀ n, exec (.receiveNakFrame h f n) s =
        .next (s.setHost h { s.host h with link := { s.link h with idleRun := 0 } })) ∧
      exec (.receiveCorruptedFrame h) s =
        .next (s.setHost h { s.host h with link := { s.link h with idleRun := 0 } }) ∧
      ∀ tagged, exec (.messageFrameDiscarded h f tagged) s =
        .next (s.setHost h { s.host h with link := { s.link h with idleRun := 0 } }))

/-- R148, R152: a valid frame on an UP link restarts the silence deadline, and its acknowledgement acts on
the replay buffer before its body is looked at: the frame named and every older one leave it. Shown of
an IDLE that carries the expected number. -/
def Obligations.AcknowledgementActsOnReplayBuffer : Prop :=
  ∀ (s : State) (h : HostId) (f : FrameHdr), (s.link h).state = .up →
    f.seq = (s.link h).expected →
    ((∀ x ∈ (s.link h).replayBuffer, x.1 ≠ f.ack) →
      exec (.receiveIdleFrame h f) s = .next (s.setHost h { s.host h with
        link := { s.link h with receiver := .normal, silence := some (s.now + 2000000) } })) ∧
    ∀ (older newer : List (Seq × OutMsg)) (m : OutMsg),
      (s.link h).replayBuffer = older ++ (f.ack, m) :: newer →
      (∀ x ∈ older, x.1 ≠ f.ack) →
      ∃ t, exec (.receiveIdleFrame h f) s = .next t ∧ ChangesOnly [.hosts] s t ∧
        OtherHostsSame h s t ∧
        t.host h = { s.host h with link := { s.link h with
          receiver := .normal, silence := some (s.now + 2000000), replayBuffer := newer
          replayCount := 0, replayPos := (t.link h).replayPos } } ∧
        ((s.link h).replayPos = none → (t.link h).replayPos = none) ∧
        ∀ n, (s.link h).replayPos = some n →
          (n ∈ newer.map (fun x => x.1) → (t.link h).replayPos = some n) ∧
          (n ∉ newer.map (fun x => x.1) →
            (t.link h).replayPos = newer.head?.map fun x => x.1)

/-- R149, R150, R153 (log 11, 12): the other frames on an UP link: an IDLE with another number and a discarded
or corrupted frame call for a NAK, the latter only while the receiver is NORMAL; a duplicate calls for
none; a NAK of a buffered frame starts a replay, and the fifth takes the link DOWN. -/
def Obligations.NaksAndDiscards : Prop :=
  ∀ (s : State) (h : HostId) (f : FrameHdr) (l : Link), (s.link h).state = .up →
    l = { s.link h with silence := some (s.now + 2000000) } →
    (exec (.receiveCorruptedFrame h) s = .next (s.setHost h { s.host h with
      link := if (s.link h).receiver = .normal then
          { s.link h with nakDue := some (s.link h).expected, receiver := .nakSent }
        else s.link h })) ∧
    ((∀ x ∈ (s.link h).replayBuffer, x.1 ≠ f.ack) →
      (f.seq ≠ (s.link h).expected →
        exec (.receiveIdleFrame h f) s = .next (s.setHost h { s.host h with
          link := { l with nakDue := some (s.link h).expected, receiver := .nakSent } })) ∧
      (∀ tagged, (s.host h).delivers f tagged = false →
        (f.seq = (s.link h).expected ∨ (f.seq - (s.link h).expected).toNat ≤ 127 →
          exec (.messageFrameDiscarded h f tagged) s = .next (s.setHost h { s.host h with
            link := if (s.link h).receiver = .normal then
                { l with nakDue := some (s.link h).expected, receiver := .nakSent }
              else l })) ∧
        (128 ≤ (f.seq - (s.link h).expected).toNat →
          exec (.messageFrameDiscarded h f tagged) s =
            .next (s.setHost h { s.host h with link := l }))) ∧
      (∀ (n : Seq) (older newer : List (Seq × OutMsg)) (m : OutMsg),
        (s.link h).replayBuffer = older ++ (n, m) :: newer → (∀ x ∈ older, x.1 ≠ n) →
        (older ≠ [] ∨ (s.link h).replayCount < 4 →
          exec (.receiveNakFrame h f n) s = .next (s.setHost h { s.host h with
            link := { l with
              replayBuffer := (n, m) :: newer
              replayCount := (if older = [] then (s.link h).replayCount else 0) + 1
              replayPos := some n } })) ∧
        (older = [] → (s.link h).replayCount = 4 →
          ∃ t, exec (.receiveNakFrame h f n) s = .next t ∧
            t.host h = HostSide.down (some (s.now + 2500000)))) ∧
      (∀ n : Seq, (∀ x ∈ (s.link h).replayBuffer, x.1 ≠ n) →
        (n = (s.link h).nextSend →
          exec (.receiveNakFrame h f n) s = .next (s.setHost h { s.host h with
            link := { l with replayBuffer := [], replayCount := 0, replayPos := none } })) ∧
        (n ≠ (s.link h).nextSend →
          exec (.receiveNakFrame h f n) s =
            .next (s.setHost h { s.host h with link := l }))))

/-- R151, R153: what an UP link sends, in the order of R151. Every frame carries the acknowledgement one below
the expected number and restarts the send timer; a message sent first is kept for replay. The expiry of the
send timer sends the same, or an IDLE. When the wire is free is the sender's choice (log 7); the last frame
put on it is the model's own field (log 17). -/
def Obligations.SendingFollowsItsOrder : Prop :=
  ∀ (s : State) (h : HostId) (l : Link) (a : Seq), (s.link h).state = .up → l = s.link h →
    a = (s.link h).expected - 1#8 →
    ∀ c : Instr, c = .sendFrame h ∨ (c = .sendTimerExpiry h ∧ due s.now l.sendTimer = true) →
      (∀ n, l.nakDue = some n →
        exec c s = .next (s.setHost h { s.host h with link := { l with
          nakDue := none, lastSent := some ⟨l.nextSend, a, .nak n⟩
          sendTimer := some (s.now + 100000) } })) ∧
      (l.nakDue = none →
        (∀ (older newer : List (Seq × OutMsg)) (n : Seq) (m : OutMsg),
          l.replayPos = some n → l.replayBuffer = older ++ (n, m) :: newer →
          (∀ x ∈ older, x.1 ≠ n) →
          exec c s = .next (s.setHost h { s.host h with link := { l with
            replayPos := newer.head?.map fun x => x.1
            lastSent := some ⟨n, a, .message m⟩, sendTimer := some (s.now + 100000) } })) ∧
        (l.replayPos = none →
          (∀ (m : OutMsg) (rest : List OutMsg), l.sendQueue = m :: rest →
            l.replayBuffer.length < 8 →
            exec c s = .next (s.setHost h { s.host h with link := { l with
              sendQueue := rest, replayBuffer := l.replayBuffer ++ [(l.nextSend, m)]
              nextSend := l.nextSend + 1#8, lastSent := some ⟨l.nextSend, a, .message m⟩
              sendTimer := some (s.now + 100000) } })) ∧
          (l.sendQueue = [] ∨ 8 ≤ l.replayBuffer.length →
            (due s.now l.sendTimer = true →
              exec c s = .next (s.setHost h { s.host h with link := { l with
                lastSent := some ⟨l.nextSend, a, .idle⟩
                sendTimer := some (s.now + 100000) } })) ∧
            (due s.now l.sendTimer = false → exec c s = .next s))))

/-! ## Notifications and queries (chapter 9) -/

/-- R35, R172, R173: QUERY is answered with the status record, whose held and waited banks are empty for a
host that is LINKED or JOINING; QUERY_BANK with the bank's record, or RANGE above bank 7. -/
def Obligations.QueriesAnswerSnapshots : Prop :=
  ∀ (s : State) (h : HostId) (f : FrameHdr) (tag : Tag), RequestArrives s h f tag →
    (∃ r : StatusRecord,
      exec (.query h f tag) s =
        .next (s.setHost h (sideAnswered s h f [⟨tag, .query, .ok, .status r⟩])) ∧
      r.device = s.seq.device ∧ r.epoch = s.agree.epoch ∧ r.agree = s.agree.state ∧
      r.counter = s.agree.counter ∧ (∀ g, r.attached.get g = inSet s g) ∧
      r.park = s.standby.park ∧ r.standby = s.standby.state ∧ r.owed = s.account.owed ∧
      r.missed = s.account.missed ∧ r.lanes = s.seq.lanes ∧
      (s.port h = .attached ∨ s.port h = .leaving → IsHeldSet s h r.held ∧
        ∀ b : Bank, r.waited.getLsbD b.val = s.waits h b) ∧
      (s.port h = .linked ∨ s.port h = .joining → r.held = 0#8 ∧ r.waited = 0#8)) ∧
    (s.port h = .attached →
      (∀ b : Bank, exec (.queryBank h f tag (bankByte b)) s =
        .next (s.setHost h (sideAnswered s h f [⟨tag, .queryBank, .ok, .bank
          { state := (s.bank b).state, row := (s.bank b).row, mode := (s.bank b).mode
            holders := ((s.bank b).holders.map fun x => (x.host, x.status))
            waiters := ((s.bank b).waiters.map fun w => w.host) }⟩]))) ∧
      ∀ x : Byte, 7 < x.toNat → exec (.queryBank h f tag x) s =
        .next (s.setHost h (sideAnswered s h f [plain tag .queryBank .range])))

/-- R164, R166 to R169: NOTE_ACK of a delivered entry removes it and those ahead of it, and with the
overflow flag set places OVERFLOW behind the delivered entries left; of any other number it queues FAULT
(BAD_ACK). A delivery numbers the oldest undelivered entry and places it in the send queue. -/
def Obligations.NotificationsDeliveredAndAcknowledged : Prop :=
  ∀ (s : State) (h : HostId) (q : NoteQueue) (d u : List NoteEntry), q = (s.host h).notes →
    q.entries = d ++ u → (∀ e ∈ u, e.number = none) → (∀ e ∈ d, e.number ≠ none) →
    (∀ (f : FrameHdr) (n : Seq), (s.host h).delivers f false = true →
      (∀ (older newer : List NoteEntry) (x : Notification), d = older ++ ⟨x, some n⟩ :: newer →
        (∀ e ∈ older, e.number ≠ some n) →
        exec (.noteAck h f n) s = .next (s.setHost h { s.host h with
          link := linkAfter s h f
          notes := { q with
            overflow := false
            entries := newer ++ (if q.overflow then [⟨.overflow, none⟩] else []) ++ u } })) ∧
      ((∀ e ∈ d, e.number ≠ some n) →
        exec (.noteAck h f n) s = .next (s.setHost h
          (sideNotified true (.fault .badAck) { s.host h with link := linkAfter s h f })))) ∧
    ∀ (e : NoteEntry) (rest : List NoteEntry), u = e :: rest →
      (d.length < 4 → (s.link h).notesWaiting < 4 →
        exec (.notificationDelivery h) s = .next (s.setHost h { s.host h with
          notes := { q with
            entries := d ++ ⟨e.note, some q.next⟩ :: rest, next := q.next + 1#8 }
          link := { s.link h with
            sendQueue := (s.link h).sendQueue ++ [.note q.next e.note] } })) ∧
      (4 ≤ d.length ∨ 4 ≤ (s.link h).notesWaiting →
        exec (.notificationDelivery h) s = .next s)
end

