-- ==== Sys2Proof/Laws/State.lean ====
section
/-! SUPPORT. The small lemmas of the state's updates: what each field, each host's side, each bank record
and each bank operation record is after each update. All are `@[simp]`, so that no proof need unfold an
update. -/

namespace Sys2Proof.Machine

/-! ## Things there are four of -/

namespace PerHost

variable {α β : Type}

@[simp] theorem get_set_same (t : PerHost α) (h : HostId) (x : α) : (t.set h x).get h = x := by
  cases h <;> rfl

@[simp] theorem get_set_other (t : PerHost α) {g h : HostId} (x : α) (hg : g ≠ h) :
    (t.set h x).get g = t.get g := by
  cases g <;> cases h <;> first | rfl | exact absurd rfl hg

theorem get_set (t : PerHost α) (g h : HostId) (x : α) :
    (t.set h x).get g = if g = h then x else t.get g := by
  cases g <;> cases h <;> rfl

@[simp] theorem set_set (t : PerHost α) (h : HostId) (x y : α) : (t.set h x).set h y = t.set h y := by
  cases h <;> rfl

@[simp] theorem set_get (t : PerHost α) (h : HostId) : t.set h (t.get h) = t := by
  cases h <;> rfl

theorem set_comm (t : PerHost α) {g h : HostId} (x y : α) (hg : g ≠ h) :
    (t.set g x).set h y = (t.set h y).set g x := by
  cases g <;> cases h <;> first | rfl | exact absurd rfl hg

@[simp] theorem get_const (x : α) (h : HostId) : (const x).get h = x := by cases h <;> rfl

@[simp] theorem get_of (f : HostId → α) (h : HostId) : (of f).get h = f h := by cases h <;> rfl

@[simp] theorem get_imap (f : HostId → α → β) (t : PerHost α) (h : HostId) :
    (t.imap f).get h = f h (t.get h) := by cases h <;> rfl

/-- Two tables that agree on every host are the same. -/
theorem ext_get {t u : PerHost α} (h : ∀ g, t.get g = u.get g) : t = u := by
  have ha := h .a
  have hb := h .b
  have hc := h .c
  have hd := h .d
  cases t
  cases u
  simp only [get] at ha hb hc hd
  subst ha hb hc hd
  rfl

end PerHost

namespace State

/-! ## Fields after updates -/

@[simp] theorem setHost_pending (s : State) (h : HostId) (x : HostSide) :
    (s.setHost h x).pending = s.pending := rfl
@[simp] theorem setHost_now (s : State) (h : HostId) (x : HostSide) :
    (s.setHost h x).now = s.now := rfl
@[simp] theorem setHost_resetN (s : State) (h : HostId) (x : HostSide) :
    (s.setHost h x).resetN = s.resetN := rfl
@[simp] theorem setHost_seq (s : State) (h : HostId) (x : HostSide) :
    (s.setHost h x).seq = s.seq := rfl
@[simp] theorem setHost_gate (s : State) (h : HostId) (x : HostSide) :
    (s.setHost h x).gate = s.gate := rfl
@[simp] theorem setHost_banks (s : State) (h : HostId) (x : HostSide) :
    (s.setHost h x).banks = s.banks := rfl
@[simp] theorem setHost_chan (s : State) (h : HostId) (x : HostSide) :
    (s.setHost h x).chan = s.chan := rfl
@[simp] theorem setHost_xfer (s : State) (h : HostId) (x : HostSide) :
    (s.setHost h x).xfer = s.xfer := rfl
@[simp] theorem setHost_account (s : State) (h : HostId) (x : HostSide) :
    (s.setHost h x).account = s.account := rfl
@[simp] theorem setHost_agree (s : State) (h : HostId) (x : HostSide) :
    (s.setHost h x).agree = s.agree := rfl
@[simp] theorem setHost_standby (s : State) (h : HostId) (x : HostSide) :
    (s.setHost h x).standby = s.standby := rfl
@[simp] theorem setHost_hosts (s : State) (h : HostId) (x : HostSide) :
    (s.setHost h x).hosts = s.hosts.set h x := rfl
@[simp] theorem setHost_dram (s : State) (h : HostId) (x : HostSide) :
    (s.setHost h x).dram = s.dram := rfl
@[simp] theorem setHost_dramGen (s : State) (h : HostId) (x : HostSide) :
    (s.setHost h x).dramGen = s.dramGen := rfl

@[simp] theorem setBank_pending (s : State) (b : Bank) (r : BankRecord) :
    (s.setBank b r).pending = s.pending := rfl
@[simp] theorem setBank_now (s : State) (b : Bank) (r : BankRecord) :
    (s.setBank b r).now = s.now := rfl
@[simp] theorem setBank_resetN (s : State) (b : Bank) (r : BankRecord) :
    (s.setBank b r).resetN = s.resetN := rfl
@[simp] theorem setBank_seq (s : State) (b : Bank) (r : BankRecord) :
    (s.setBank b r).seq = s.seq := rfl
@[simp] theorem setBank_gate (s : State) (b : Bank) (r : BankRecord) :
    (s.setBank b r).gate = s.gate := rfl
@[simp] theorem setBank_banks (s : State) (b : Bank) (r : BankRecord) :
    (s.setBank b r).banks = s.banks.set b.val r := rfl
@[simp] theorem setBank_chan (s : State) (b : Bank) (r : BankRecord) :
    (s.setBank b r).chan = s.chan := rfl
@[simp] theorem setBank_xfer (s : State) (b : Bank) (r : BankRecord) :
    (s.setBank b r).xfer = s.xfer := rfl
@[simp] theorem setBank_account (s : State) (b : Bank) (r : BankRecord) :
    (s.setBank b r).account = s.account := rfl
@[simp] theorem setBank_agree (s : State) (b : Bank) (r : BankRecord) :
    (s.setBank b r).agree = s.agree := rfl
@[simp] theorem setBank_standby (s : State) (b : Bank) (r : BankRecord) :
    (s.setBank b r).standby = s.standby := rfl
@[simp] theorem setBank_hosts (s : State) (b : Bank) (r : BankRecord) :
    (s.setBank b r).hosts = s.hosts := rfl
@[simp] theorem setBank_dram (s : State) (b : Bank) (r : BankRecord) :
    (s.setBank b r).dram = s.dram := rfl
@[simp] theorem setBank_dramGen (s : State) (b : Bank) (r : BankRecord) :
    (s.setBank b r).dramGen = s.dramGen := rfl

@[simp] theorem setChan_pending (s : State) (c : Channel) :
    (s.setChan c).pending = s.pending := rfl
@[simp] theorem setChan_now (s : State) (c : Channel) :
    (s.setChan c).now = s.now := rfl
@[simp] theorem setChan_resetN (s : State) (c : Channel) :
    (s.setChan c).resetN = s.resetN := rfl
@[simp] theorem setChan_seq (s : State) (c : Channel) :
    (s.setChan c).seq = s.seq := rfl
@[simp] theorem setChan_gate (s : State) (c : Channel) :
    (s.setChan c).gate = s.gate := rfl
@[simp] theorem setChan_banks (s : State) (c : Channel) :
    (s.setChan c).banks = s.banks := rfl
@[simp] theorem setChan_chan (s : State) (c : Channel) :
    (s.setChan c).chan = c := rfl
@[simp] theorem setChan_xfer (s : State) (c : Channel) :
    (s.setChan c).xfer = s.xfer := rfl
@[simp] theorem setChan_account (s : State) (c : Channel) :
    (s.setChan c).account = s.account := rfl
@[simp] theorem setChan_agree (s : State) (c : Channel) :
    (s.setChan c).agree = s.agree := rfl
@[simp] theorem setChan_standby (s : State) (c : Channel) :
    (s.setChan c).standby = s.standby := rfl
@[simp] theorem setChan_hosts (s : State) (c : Channel) :
    (s.setChan c).hosts = s.hosts := rfl
@[simp] theorem setChan_dram (s : State) (c : Channel) :
    (s.setChan c).dram = s.dram := rfl
@[simp] theorem setChan_dramGen (s : State) (c : Channel) :
    (s.setChan c).dramGen = s.dramGen := rfl

@[simp] theorem setList_pending (s : State) (l : List Transfer) :
    (s.setList l).pending = s.pending := rfl
@[simp] theorem setList_now (s : State) (l : List Transfer) :
    (s.setList l).now = s.now := rfl
@[simp] theorem setList_resetN (s : State) (l : List Transfer) :
    (s.setList l).resetN = s.resetN := rfl
@[simp] theorem setList_seq (s : State) (l : List Transfer) :
    (s.setList l).seq = s.seq := rfl
@[simp] theorem setList_gate (s : State) (l : List Transfer) :
    (s.setList l).gate = s.gate := rfl
@[simp] theorem setList_banks (s : State) (l : List Transfer) :
    (s.setList l).banks = s.banks := rfl
@[simp] theorem setList_chan (s : State) (l : List Transfer) :
    (s.setList l).chan = s.chan := rfl
@[simp] theorem setList_xfer (s : State) (l : List Transfer) :
    (s.setList l).xfer = { s.xfer with list := l } := rfl
@[simp] theorem setList_account (s : State) (l : List Transfer) :
    (s.setList l).account = s.account := rfl
@[simp] theorem setList_agree (s : State) (l : List Transfer) :
    (s.setList l).agree = s.agree := rfl
@[simp] theorem setList_standby (s : State) (l : List Transfer) :
    (s.setList l).standby = s.standby := rfl
@[simp] theorem setList_hosts (s : State) (l : List Transfer) :
    (s.setList l).hosts = s.hosts := rfl
@[simp] theorem setList_dram (s : State) (l : List Transfer) :
    (s.setList l).dram = s.dram := rfl
@[simp] theorem setList_dramGen (s : State) (l : List Transfer) :
    (s.setList l).dramGen = s.dramGen := rfl

@[simp] theorem setIntake_pending (s : State) (l : List TransferReq) :
    (s.setIntake l).pending = s.pending := rfl
@[simp] theorem setIntake_now (s : State) (l : List TransferReq) :
    (s.setIntake l).now = s.now := rfl
@[simp] theorem setIntake_resetN (s : State) (l : List TransferReq) :
    (s.setIntake l).resetN = s.resetN := rfl
@[simp] theorem setIntake_seq (s : State) (l : List TransferReq) :
    (s.setIntake l).seq = s.seq := rfl
@[simp] theorem setIntake_gate (s : State) (l : List TransferReq) :
    (s.setIntake l).gate = s.gate := rfl
@[simp] theorem setIntake_banks (s : State) (l : List TransferReq) :
    (s.setIntake l).banks = s.banks := rfl
@[simp] theorem setIntake_chan (s : State) (l : List TransferReq) :
    (s.setIntake l).chan = s.chan := rfl
@[simp] theorem setIntake_xfer (s : State) (l : List TransferReq) :
    (s.setIntake l).xfer = { s.xfer with intake := l } := rfl
@[simp] theorem setIntake_account (s : State) (l : List TransferReq) :
    (s.setIntake l).account = s.account := rfl
@[simp] theorem setIntake_agree (s : State) (l : List TransferReq) :
    (s.setIntake l).agree = s.agree := rfl
@[simp] theorem setIntake_standby (s : State) (l : List TransferReq) :
    (s.setIntake l).standby = s.standby := rfl
@[simp] theorem setIntake_hosts (s : State) (l : List TransferReq) :
    (s.setIntake l).hosts = s.hosts := rfl
@[simp] theorem setIntake_dram (s : State) (l : List TransferReq) :
    (s.setIntake l).dram = s.dram := rfl
@[simp] theorem setIntake_dramGen (s : State) (l : List TransferReq) :
    (s.setIntake l).dramGen = s.dramGen := rfl

@[simp] theorem setAccount_pending (s : State) (a : Account) :
    (s.setAccount a).pending = s.pending := rfl
@[simp] theorem setAccount_now (s : State) (a : Account) :
    (s.setAccount a).now = s.now := rfl
@[simp] theorem setAccount_resetN (s : State) (a : Account) :
    (s.setAccount a).resetN = s.resetN := rfl
@[simp] theorem setAccount_seq (s : State) (a : Account) :
    (s.setAccount a).seq = s.seq := rfl
@[simp] theorem setAccount_gate (s : State) (a : Account) :
    (s.setAccount a).gate = s.gate := rfl
@[simp] theorem setAccount_banks (s : State) (a : Account) :
    (s.setAccount a).banks = s.banks := rfl
@[simp] theorem setAccount_chan (s : State) (a : Account) :
    (s.setAccount a).chan = s.chan := rfl
@[simp] theorem setAccount_xfer (s : State) (a : Account) :
    (s.setAccount a).xfer = s.xfer := rfl
@[simp] theorem setAccount_account (s : State) (a : Account) :
    (s.setAccount a).account = a := rfl
@[simp] theorem setAccount_agree (s : State) (a : Account) :
    (s.setAccount a).agree = s.agree := rfl
@[simp] theorem setAccount_standby (s : State) (a : Account) :
    (s.setAccount a).standby = s.standby := rfl
@[simp] theorem setAccount_hosts (s : State) (a : Account) :
    (s.setAccount a).hosts = s.hosts := rfl
@[simp] theorem setAccount_dram (s : State) (a : Account) :
    (s.setAccount a).dram = s.dram := rfl
@[simp] theorem setAccount_dramGen (s : State) (a : Account) :
    (s.setAccount a).dramGen = s.dramGen := rfl

@[simp] theorem setAgree_pending (s : State) (a : Agreement) :
    (s.setAgree a).pending = s.pending := rfl
@[simp] theorem setAgree_now (s : State) (a : Agreement) :
    (s.setAgree a).now = s.now := rfl
@[simp] theorem setAgree_resetN (s : State) (a : Agreement) :
    (s.setAgree a).resetN = s.resetN := rfl
@[simp] theorem setAgree_seq (s : State) (a : Agreement) :
    (s.setAgree a).seq = s.seq := rfl
@[simp] theorem setAgree_gate (s : State) (a : Agreement) :
    (s.setAgree a).gate = s.gate := rfl
@[simp] theorem setAgree_banks (s : State) (a : Agreement) :
    (s.setAgree a).banks = s.banks := rfl
@[simp] theorem setAgree_chan (s : State) (a : Agreement) :
    (s.setAgree a).chan = s.chan := rfl
@[simp] theorem setAgree_xfer (s : State) (a : Agreement) :
    (s.setAgree a).xfer = s.xfer := rfl
@[simp] theorem setAgree_account (s : State) (a : Agreement) :
    (s.setAgree a).account = s.account := rfl
@[simp] theorem setAgree_agree (s : State) (a : Agreement) :
    (s.setAgree a).agree = a := rfl
@[simp] theorem setAgree_standby (s : State) (a : Agreement) :
    (s.setAgree a).standby = s.standby := rfl
@[simp] theorem setAgree_hosts (s : State) (a : Agreement) :
    (s.setAgree a).hosts = s.hosts := rfl
@[simp] theorem setAgree_dram (s : State) (a : Agreement) :
    (s.setAgree a).dram = s.dram := rfl
@[simp] theorem setAgree_dramGen (s : State) (a : Agreement) :
    (s.setAgree a).dramGen = s.dramGen := rfl

@[simp] theorem setStandby_pending (s : State) (x : Standby) :
    (s.setStandby x).pending = s.pending := rfl
@[simp] theorem setStandby_now (s : State) (x : Standby) :
    (s.setStandby x).now = s.now := rfl
@[simp] theorem setStandby_resetN (s : State) (x : Standby) :
    (s.setStandby x).resetN = s.resetN := rfl
@[simp] theorem setStandby_seq (s : State) (x : Standby) :
    (s.setStandby x).seq = s.seq := rfl
@[simp] theorem setStandby_gate (s : State) (x : Standby) :
    (s.setStandby x).gate = s.gate := rfl
@[simp] theorem setStandby_banks (s : State) (x : Standby) :
    (s.setStandby x).banks = s.banks := rfl
@[simp] theorem setStandby_chan (s : State) (x : Standby) :
    (s.setStandby x).chan = s.chan := rfl
@[simp] theorem setStandby_xfer (s : State) (x : Standby) :
    (s.setStandby x).xfer = s.xfer := rfl
@[simp] theorem setStandby_account (s : State) (x : Standby) :
    (s.setStandby x).account = s.account := rfl
@[simp] theorem setStandby_agree (s : State) (x : Standby) :
    (s.setStandby x).agree = s.agree := rfl
@[simp] theorem setStandby_standby (s : State) (x : Standby) :
    (s.setStandby x).standby = x := rfl
@[simp] theorem setStandby_hosts (s : State) (x : Standby) :
    (s.setStandby x).hosts = s.hosts := rfl
@[simp] theorem setStandby_dram (s : State) (x : Standby) :
    (s.setStandby x).dram = s.dram := rfl
@[simp] theorem setStandby_dramGen (s : State) (x : Standby) :
    (s.setStandby x).dramGen = s.dramGen := rfl

@[simp] theorem setSeq_pending (s : State) (q : Sequencer) :
    (s.setSeq q).pending = s.pending := rfl
@[simp] theorem setSeq_now (s : State) (q : Sequencer) :
    (s.setSeq q).now = s.now := rfl
@[simp] theorem setSeq_resetN (s : State) (q : Sequencer) :
    (s.setSeq q).resetN = s.resetN := rfl
@[simp] theorem setSeq_seq (s : State) (q : Sequencer) :
    (s.setSeq q).seq = q := rfl
@[simp] theorem setSeq_gate (s : State) (q : Sequencer) :
    (s.setSeq q).gate = s.gate := rfl
@[simp] theorem setSeq_banks (s : State) (q : Sequencer) :
    (s.setSeq q).banks = s.banks := rfl
@[simp] theorem setSeq_chan (s : State) (q : Sequencer) :
    (s.setSeq q).chan = s.chan := rfl
@[simp] theorem setSeq_xfer (s : State) (q : Sequencer) :
    (s.setSeq q).xfer = s.xfer := rfl
@[simp] theorem setSeq_account (s : State) (q : Sequencer) :
    (s.setSeq q).account = s.account := rfl
@[simp] theorem setSeq_agree (s : State) (q : Sequencer) :
    (s.setSeq q).agree = s.agree := rfl
@[simp] theorem setSeq_standby (s : State) (q : Sequencer) :
    (s.setSeq q).standby = s.standby := rfl
@[simp] theorem setSeq_hosts (s : State) (q : Sequencer) :
    (s.setSeq q).hosts = s.hosts := rfl
@[simp] theorem setSeq_dram (s : State) (q : Sequencer) :
    (s.setSeq q).dram = s.dram := rfl
@[simp] theorem setSeq_dramGen (s : State) (q : Sequencer) :
    (s.setSeq q).dramGen = s.dramGen := rfl

@[simp] theorem setGate_pending (s : State) (g : Gate) :
    (s.setGate g).pending = s.pending := rfl
@[simp] theorem setGate_now (s : State) (g : Gate) :
    (s.setGate g).now = s.now := rfl
@[simp] theorem setGate_resetN (s : State) (g : Gate) :
    (s.setGate g).resetN = s.resetN := rfl
@[simp] theorem setGate_seq (s : State) (g : Gate) :
    (s.setGate g).seq = s.seq := rfl
@[simp] theorem setGate_gate (s : State) (g : Gate) :
    (s.setGate g).gate = g := rfl
@[simp] theorem setGate_banks (s : State) (g : Gate) :
    (s.setGate g).banks = s.banks := rfl
@[simp] theorem setGate_chan (s : State) (g : Gate) :
    (s.setGate g).chan = s.chan := rfl
@[simp] theorem setGate_xfer (s : State) (g : Gate) :
    (s.setGate g).xfer = s.xfer := rfl
@[simp] theorem setGate_account (s : State) (g : Gate) :
    (s.setGate g).account = s.account := rfl
@[simp] theorem setGate_agree (s : State) (g : Gate) :
    (s.setGate g).agree = s.agree := rfl
@[simp] theorem setGate_standby (s : State) (g : Gate) :
    (s.setGate g).standby = s.standby := rfl
@[simp] theorem setGate_hosts (s : State) (g : Gate) :
    (s.setGate g).hosts = s.hosts := rfl
@[simp] theorem setGate_dram (s : State) (g : Gate) :
    (s.setGate g).dram = s.dram := rfl
@[simp] theorem setGate_dramGen (s : State) (g : Gate) :
    (s.setGate g).dramGen = s.dramGen := rfl

@[simp] theorem setDram_pending (s : State) (m : Memory) :
    (s.setDram m).pending = s.pending := rfl
@[simp] theorem setDram_now (s : State) (m : Memory) :
    (s.setDram m).now = s.now := rfl
@[simp] theorem setDram_resetN (s : State) (m : Memory) :
    (s.setDram m).resetN = s.resetN := rfl
@[simp] theorem setDram_seq (s : State) (m : Memory) :
    (s.setDram m).seq = s.seq := rfl
@[simp] theorem setDram_gate (s : State) (m : Memory) :
    (s.setDram m).gate = s.gate := rfl
@[simp] theorem setDram_banks (s : State) (m : Memory) :
    (s.setDram m).banks = s.banks := rfl
@[simp] theorem setDram_chan (s : State) (m : Memory) :
    (s.setDram m).chan = s.chan := rfl
@[simp] theorem setDram_xfer (s : State) (m : Memory) :
    (s.setDram m).xfer = s.xfer := rfl
@[simp] theorem setDram_account (s : State) (m : Memory) :
    (s.setDram m).account = s.account := rfl
@[simp] theorem setDram_agree (s : State) (m : Memory) :
    (s.setDram m).agree = s.agree := rfl
@[simp] theorem setDram_standby (s : State) (m : Memory) :
    (s.setDram m).standby = s.standby := rfl
@[simp] theorem setDram_hosts (s : State) (m : Memory) :
    (s.setDram m).hosts = s.hosts := rfl
@[simp] theorem setDram_dram (s : State) (m : Memory) :
    (s.setDram m).dram = m := rfl
@[simp] theorem setDram_dramGen (s : State) (m : Memory) :
    (s.setDram m).dramGen = s.dramGen := rfl

@[simp] theorem setOp_pending (s : State) (b : Bank) (o : BankOp) :
    (s.setOp b o).pending = s.pending := rfl
@[simp] theorem setOp_now (s : State) (b : Bank) (o : BankOp) :
    (s.setOp b o).now = s.now := rfl
@[simp] theorem setOp_resetN (s : State) (b : Bank) (o : BankOp) :
    (s.setOp b o).resetN = s.resetN := rfl
@[simp] theorem setOp_seq (s : State) (b : Bank) (o : BankOp) :
    (s.setOp b o).seq = s.seq := rfl
@[simp] theorem setOp_gate (s : State) (b : Bank) (o : BankOp) :
    (s.setOp b o).gate = s.gate := rfl
@[simp] theorem setOp_banks (s : State) (b : Bank) (o : BankOp) :
    (s.setOp b o).banks = s.banks := rfl
@[simp] theorem setOp_chan (s : State) (b : Bank) (o : BankOp) :
    (s.setOp b o).chan = { s.chan with ops := s.chan.ops.set b.val o } := rfl
@[simp] theorem setOp_xfer (s : State) (b : Bank) (o : BankOp) :
    (s.setOp b o).xfer = s.xfer := rfl
@[simp] theorem setOp_account (s : State) (b : Bank) (o : BankOp) :
    (s.setOp b o).account = s.account := rfl
@[simp] theorem setOp_agree (s : State) (b : Bank) (o : BankOp) :
    (s.setOp b o).agree = s.agree := rfl
@[simp] theorem setOp_standby (s : State) (b : Bank) (o : BankOp) :
    (s.setOp b o).standby = s.standby := rfl
@[simp] theorem setOp_hosts (s : State) (b : Bank) (o : BankOp) :
    (s.setOp b o).hosts = s.hosts := rfl
@[simp] theorem setOp_dram (s : State) (b : Bank) (o : BankOp) :
    (s.setOp b o).dram = s.dram := rfl
@[simp] theorem setOp_dramGen (s : State) (b : Bank) (o : BankOp) :
    (s.setOp b o).dramGen = s.dramGen := rfl
@[simp] theorem keepPlace_pending (s : State) :
    (keepPlace s).pending = s.pending := rfl
@[simp] theorem keepPlace_now (s : State) :
    (keepPlace s).now = s.now := rfl
@[simp] theorem keepPlace_resetN (s : State) :
    (keepPlace s).resetN = s.resetN := rfl
@[simp] theorem keepPlace_seq (s : State) :
    (keepPlace s).seq = s.seq := rfl
@[simp] theorem keepPlace_gate (s : State) :
    (keepPlace s).gate = s.gate := rfl
@[simp] theorem keepPlace_banks (s : State) :
    (keepPlace s).banks = s.banks := rfl
@[simp] theorem keepPlace_chan (s : State) :
    (keepPlace s).chan = { s.chan with first := s.firstClaim } := rfl
@[simp] theorem keepPlace_xfer (s : State) :
    (keepPlace s).xfer = s.xfer := rfl
@[simp] theorem keepPlace_account (s : State) :
    (keepPlace s).account = s.account := rfl
@[simp] theorem keepPlace_agree (s : State) :
    (keepPlace s).agree = s.agree := rfl
@[simp] theorem keepPlace_standby (s : State) :
    (keepPlace s).standby = s.standby := rfl
@[simp] theorem keepPlace_hosts (s : State) :
    (keepPlace s).hosts = s.hosts := rfl
@[simp] theorem keepPlace_dram (s : State) :
    (keepPlace s).dram = s.dram := rfl
@[simp] theorem keepPlace_dramGen (s : State) :
    (keepPlace s).dramGen = s.dramGen := rfl
@[simp] theorem keepPlace_host (s : State) (g : HostId) :
    (keepPlace s).host g = s.host g := rfl
@[simp] theorem keepPlace_link (s : State) (g : HostId) :
    (keepPlace s).link g = s.link g := rfl
@[simp] theorem keepPlace_port (s : State) (g : HostId) :
    (keepPlace s).port g = s.port g := rfl
@[simp] theorem keepPlace_bank (s : State) (c : Bank) :
    (keepPlace s).bank c = s.bank c := rfl
@[simp] theorem keepPlace_op (s : State) (c : Bank) :
    (keepPlace s).op c = s.op c := rfl

/-! ## Parts after updates -/

@[simp] theorem setHost_bank (s : State) (h : HostId) (x : HostSide) (c : Bank) :
    (s.setHost h x).bank c = s.bank c := rfl
@[simp] theorem setHost_op (s : State) (h : HostId) (x : HostSide) (c : Bank) :
    (s.setHost h x).op c = s.op c := rfl
@[simp] theorem setBank_host (s : State) (b : Bank) (r : BankRecord) (g : HostId) :
    (s.setBank b r).host g = s.host g := rfl
@[simp] theorem setBank_link (s : State) (b : Bank) (r : BankRecord) (g : HostId) :
    (s.setBank b r).link g = s.link g := rfl
@[simp] theorem setBank_port (s : State) (b : Bank) (r : BankRecord) (g : HostId) :
    (s.setBank b r).port g = s.port g := rfl
@[simp] theorem setBank_op (s : State) (b : Bank) (r : BankRecord) (c : Bank) :
    (s.setBank b r).op c = s.op c := rfl
@[simp] theorem setChan_host (s : State) (c : Channel) (g : HostId) :
    (s.setChan c).host g = s.host g := rfl
@[simp] theorem setChan_link (s : State) (c : Channel) (g : HostId) :
    (s.setChan c).link g = s.link g := rfl
@[simp] theorem setChan_port (s : State) (c : Channel) (g : HostId) :
    (s.setChan c).port g = s.port g := rfl
@[simp] theorem setChan_bank (s : State) (k : Channel) (c : Bank) :
    (s.setChan k).bank c = s.bank c := rfl
@[simp] theorem setList_host (s : State) (l : List Transfer) (g : HostId) :
    (s.setList l).host g = s.host g := rfl
@[simp] theorem setList_link (s : State) (l : List Transfer) (g : HostId) :
    (s.setList l).link g = s.link g := rfl
@[simp] theorem setList_port (s : State) (l : List Transfer) (g : HostId) :
    (s.setList l).port g = s.port g := rfl
@[simp] theorem setList_bank (s : State) (l : List Transfer) (c : Bank) :
    (s.setList l).bank c = s.bank c := rfl
@[simp] theorem setList_op (s : State) (l : List Transfer) (c : Bank) :
    (s.setList l).op c = s.op c := rfl
@[simp] theorem setIntake_host (s : State) (l : List TransferReq) (g : HostId) :
    (s.setIntake l).host g = s.host g := rfl
@[simp] theorem setIntake_link (s : State) (l : List TransferReq) (g : HostId) :
    (s.setIntake l).link g = s.link g := rfl
@[simp] theorem setIntake_port (s : State) (l : List TransferReq) (g : HostId) :
    (s.setIntake l).port g = s.port g := rfl
@[simp] theorem setIntake_bank (s : State) (l : List TransferReq) (c : Bank) :
    (s.setIntake l).bank c = s.bank c := rfl
@[simp] theorem setIntake_op (s : State) (l : List TransferReq) (c : Bank) :
    (s.setIntake l).op c = s.op c := rfl
@[simp] theorem setAccount_host (s : State) (a : Account) (g : HostId) :
    (s.setAccount a).host g = s.host g := rfl
@[simp] theorem setAccount_link (s : State) (a : Account) (g : HostId) :
    (s.setAccount a).link g = s.link g := rfl
@[simp] theorem setAccount_port (s : State) (a : Account) (g : HostId) :
    (s.setAccount a).port g = s.port g := rfl
@[simp] theorem setAccount_bank (s : State) (a : Account) (c : Bank) :
    (s.setAccount a).bank c = s.bank c := rfl
@[simp] theorem setAccount_op (s : State) (a : Account) (c : Bank) :
    (s.setAccount a).op c = s.op c := rfl
@[simp] theorem setAgree_host (s : State) (a : Agreement) (g : HostId) :
    (s.setAgree a).host g = s.host g := rfl
@[simp] theorem setAgree_link (s : State) (a : Agreement) (g : HostId) :
    (s.setAgree a).link g = s.link g := rfl
@[simp] theorem setAgree_port (s : State) (a : Agreement) (g : HostId) :
    (s.setAgree a).port g = s.port g := rfl
@[simp] theorem setAgree_bank (s : State) (a : Agreement) (c : Bank) :
    (s.setAgree a).bank c = s.bank c := rfl
@[simp] theorem setAgree_op (s : State) (a : Agreement) (c : Bank) :
    (s.setAgree a).op c = s.op c := rfl
@[simp] theorem setStandby_host (s : State) (x : Standby) (g : HostId) :
    (s.setStandby x).host g = s.host g := rfl
@[simp] theorem setStandby_link (s : State) (x : Standby) (g : HostId) :
    (s.setStandby x).link g = s.link g := rfl
@[simp] theorem setStandby_port (s : State) (x : Standby) (g : HostId) :
    (s.setStandby x).port g = s.port g := rfl
@[simp] theorem setStandby_bank (s : State) (x : Standby) (c : Bank) :
    (s.setStandby x).bank c = s.bank c := rfl
@[simp] theorem setStandby_op (s : State) (x : Standby) (c : Bank) :
    (s.setStandby x).op c = s.op c := rfl
@[simp] theorem setSeq_host (s : State) (q : Sequencer) (g : HostId) :
    (s.setSeq q).host g = s.host g := rfl
@[simp] theorem setSeq_link (s : State) (q : Sequencer) (g : HostId) :
    (s.setSeq q).link g = s.link g := rfl
@[simp] theorem setSeq_port (s : State) (q : Sequencer) (g : HostId) :
    (s.setSeq q).port g = s.port g := rfl
@[simp] theorem setSeq_bank (s : State) (q : Sequencer) (c : Bank) :
    (s.setSeq q).bank c = s.bank c := rfl
@[simp] theorem setSeq_op (s : State) (q : Sequencer) (c : Bank) :
    (s.setSeq q).op c = s.op c := rfl
@[simp] theorem setGate_host (s : State) (k : Gate) (g : HostId) :
    (s.setGate k).host g = s.host g := rfl
@[simp] theorem setGate_link (s : State) (k : Gate) (g : HostId) :
    (s.setGate k).link g = s.link g := rfl
@[simp] theorem setGate_port (s : State) (k : Gate) (g : HostId) :
    (s.setGate k).port g = s.port g := rfl
@[simp] theorem setGate_bank (s : State) (g : Gate) (c : Bank) :
    (s.setGate g).bank c = s.bank c := rfl
@[simp] theorem setGate_op (s : State) (g : Gate) (c : Bank) :
    (s.setGate g).op c = s.op c := rfl
@[simp] theorem setDram_host (s : State) (m : Memory) (g : HostId) :
    (s.setDram m).host g = s.host g := rfl
@[simp] theorem setDram_link (s : State) (m : Memory) (g : HostId) :
    (s.setDram m).link g = s.link g := rfl
@[simp] theorem setDram_port (s : State) (m : Memory) (g : HostId) :
    (s.setDram m).port g = s.port g := rfl
@[simp] theorem setDram_bank (s : State) (m : Memory) (c : Bank) :
    (s.setDram m).bank c = s.bank c := rfl
@[simp] theorem setDram_op (s : State) (m : Memory) (c : Bank) :
    (s.setDram m).op c = s.op c := rfl
@[simp] theorem setOp_host (s : State) (b : Bank) (o : BankOp) (g : HostId) :
    (s.setOp b o).host g = s.host g := rfl
@[simp] theorem setOp_link (s : State) (b : Bank) (o : BankOp) (g : HostId) :
    (s.setOp b o).link g = s.link g := rfl
@[simp] theorem setOp_port (s : State) (b : Bank) (o : BankOp) (g : HostId) :
    (s.setOp b o).port g = s.port g := rfl
@[simp] theorem setOp_bank (s : State) (b : Bank) (o : BankOp) (c : Bank) :
    (s.setOp b o).bank c = s.bank c := rfl

@[simp] theorem setHost_host_same (s : State) (h : HostId) (x : HostSide) :
    (s.setHost h x).host h = x := by simp [host]

@[simp] theorem setHost_host_other (s : State) {g h : HostId} (x : HostSide) (hg : g ≠ h) :
    (s.setHost h x).host g = s.host g := by simp [host, hg]

@[simp] theorem setHost_link_same (s : State) (h : HostId) (x : HostSide) :
    (s.setHost h x).link h = x.link := by simp [link]

@[simp] theorem setHost_link_other (s : State) {g h : HostId} (x : HostSide) (hg : g ≠ h) :
    (s.setHost h x).link g = s.link g := by simp [link, hg]

@[simp] theorem setHost_port_same (s : State) (h : HostId) (x : HostSide) :
    (s.setHost h x).port h = x.port := by simp [port]

@[simp] theorem setHost_port_other (s : State) {g h : HostId} (x : HostSide) (hg : g ≠ h) :
    (s.setHost h x).port g = s.port g := by simp [port, hg]

@[simp] theorem setBank_bank_same (s : State) (b : Bank) (r : BankRecord) :
    (s.setBank b r).bank b = r := by simp [bank]

@[simp] theorem setBank_bank_other (s : State) {b c : Bank} (r : BankRecord) (hc : c ≠ b) :
    (s.setBank b r).bank c = s.bank c := by
  have : b.val ≠ c.val := fun e => hc (Fin.ext e.symm)
  simp [bank, this]

@[simp] theorem setOp_op_same (s : State) (b : Bank) (o : BankOp) : (s.setOp b o).op b = o := by
  simp [op]

@[simp] theorem setOp_op_other (s : State) {b c : Bank} (o : BankOp) (hc : c ≠ b) :
    (s.setOp b o).op c = s.op c := by
  have : b.val ≠ c.val := fun e => hc (Fin.ext e.symm)
  simp [op, this]

/-! ## Two updates of one part -/

@[simp] theorem setHost_setHost (s : State) (h : HostId) (x y : HostSide) :
    (s.setHost h x).setHost h y = s.setHost h y := by simp [setHost]

@[simp] theorem setHost_self (s : State) (h : HostId) : s.setHost h (s.host h) = s := by
  simp [setHost, host]

@[simp] theorem setBank_setBank (s : State) (b : Bank) (r q : BankRecord) :
    (s.setBank b r).setBank b q = s.setBank b q := by simp [setBank]

@[simp] theorem setBank_self (s : State) (b : Bank) : s.setBank b (s.bank b) = s := by
  simp [setBank, bank]

@[simp] theorem setOp_setOp (s : State) (b : Bank) (o q : BankOp) :
    (s.setOp b o).setOp b q = s.setOp b q := by simp [setOp, setChan]

/-- Every host's side alike, the host tables are the same. -/
theorem hosts_ext {s t : State} (h : ∀ g, t.host g = s.host g) : t.hosts = s.hosts :=
  PerHost.ext_get h

/-- Every bank record alike, the bank tables are the same. -/
theorem banks_ext {s t : State} (h : ∀ b, t.bank b = s.bank b) : t.banks = s.banks :=
  Vector.ext fun i hi => h ⟨i, hi⟩

end State

/-! ## One step -/

@[simp] theorem step_nil (s : State) (h : s.pending = []) : step s = .next s.idle := by
  simp [step, h]

@[simp] theorem step_cons (s : State) (c : Instr) (rest : List Instr) (h : s.pending = c :: rest) :
    step s = exec c { s with pending := rest } := by
  simp [step, h]

end Sys2Proof.Machine
end

