-- ==== Sys2Proof/Laws/Conditions.lean ====
section
/-! SUPPORT. What each condition of Flags.lean says, once, in the words of the statements: all banks
closed, queues empty, idle on banks, no transfer, pressed, the moments due, and the offers. -/

namespace Sys2Proof.Machine

open Sys2Proof.Safety

@[simp] theorem due_none (now : Time) : due now none = false := rfl

@[simp] theorem due_some (now t : Time) : due now (some t) = decide (t ≤ now) := rfl

@[simp] theorem mem_allBanks (b : Bank) : b ∈ allBanks := by revert b; decide

@[simp] theorem mem_allHosts (h : HostId) : h ∈ allHosts := by cases h <;> decide

theorem all_allBanks (p : Bank → Bool) : allBanks.all p = true ↔ ∀ b, p b = true := by
  simp only [List.all_eq_true]
  exact ⟨fun h b => h b (mem_allBanks b), fun h b _ => h b⟩

theorem any_allBanks (p : Bank → Bool) : allBanks.any p = true ↔ ∃ b, p b = true := by
  simp only [List.any_eq_true]
  exact ⟨fun ⟨b, _, h⟩ => ⟨b, h⟩, fun ⟨b, h⟩ => ⟨b, mem_allBanks b, h⟩⟩

theorem all_allHosts (p : HostId → Bool) : allHosts.all p = true ↔ ∀ h, p h = true := by
  simp only [List.all_eq_true]
  exact ⟨fun h g => h g (mem_allHosts g), fun h g _ => h g⟩

theorem any_allHosts (p : HostId → Bool) : allHosts.any p = true ↔ ∃ h, p h = true := by
  simp only [List.any_eq_true]
  exact ⟨fun ⟨g, _, h⟩ => ⟨g, h⟩, fun ⟨g, h⟩ => ⟨g, mem_allHosts g, h⟩⟩

/-! ## The lease table (R8) -/

theorem allClosed_iff (s : State) : s.allClosed = true ↔ ∀ b, (s.bank b).state = .closed := by
  simp [State.allClosed]

theorem queuesEmpty_iff (s : State) : s.queuesEmpty = true ↔ noWaiters s := by
  simp [State.queuesEmpty, noWaiters]

theorem idleOnBanks_iff (s : State) (h : HostId) :
    s.idleOnBanks h = true ↔ ∀ b, s.holds h b = false ∧ s.waits h b = false := by
  simp [State.idleOnBanks]

theorem holds_iff (s : State) (h : HostId) (b : Bank) :
    s.holds h b = true ↔ ∃ x, (s.bank b).holder h = some x := by
  simp [State.holds, Option.isSome_iff_exists]

theorem holds_false_iff (s : State) (h : HostId) (b : Bank) :
    s.holds h b = false ↔ (s.bank b).holder h = none := by
  simp [State.holds]

theorem waits_false_iff (s : State) (h : HostId) (b : Bank) :
    s.waits h b = false ↔ (s.bank b).waiter h = none := by
  simp [State.waits]

/-- A host's holder entry carries the host's name. -/
theorem holder_host {r : BankRecord} {h : HostId} {x : Holder} (hx : r.holder h = some x) :
    x.host = h ∧ x ∈ r.holders := by
  refine ⟨?_, List.mem_of_find?_eq_some hx⟩
  simpa using List.find?_some hx

/-- A host's waiter entry carries the host's name. -/
theorem waiter_host {r : BankRecord} {h : HostId} {w : Waiter} (hw : r.waiter h = some w) :
    w.host = h ∧ w ∈ r.waiters := by
  refine ⟨?_, List.mem_of_find?_eq_some hw⟩
  simpa using List.find?_some hw

/-- On a bank where each host stands once, the entry found is the only one of its host. -/
theorem holder_unique {r : BankRecord} (hs : BankListsSound r) {h : HostId} {x y : Holder}
    (hx : r.holder h = some x) (hy : y ∈ r.holders) (hh : y.host = h) : y = x := by
  obtain ⟨hxh, hxm⟩ := holder_host hx
  have hn : (r.holders.map fun z => z.host).Nodup := (List.nodup_append.mp hs.1).1
  exact List.inj_on_of_nodup_map hn hy hxm (hh.trans hxh.symm)

/-! ## The transfer engine (R61) -/

theorem noTransferOn_iff (s : State) (h : HostId) (b : Bank) :
    s.noTransferOn h b = true ↔ noneLeft s h b := by
  simp only [State.noTransferOn, noneLeft, List.all_eq_true, Bool.not_eq_true',
    Bool.and_eq_false_iff, decide_eq_false_iff_not, not_and_or]

theorem noTransfer_iff (s : State) (h : HostId) :
    s.noTransfer h = true ↔
      (∀ e ∈ s.xfer.list, e.host ≠ h) ∧ ∀ q ∈ s.xfer.intake, q.host ≠ h := by
  simp [State.noTransfer]

/-! ## The refresh account (R88, R94) -/

theorem pressed_iff (s : State) :
    s.pressed = true ↔ presses s s.agree.live.threshold s.account.owed := by
  simp only [State.pressed, presses, Bool.and_eq_true, Bool.or_eq_true, decide_eq_true_eq,
    Option.isSome_iff_ne_none]
  exact Iff.rfl

theorem refreshWanted_iff (s : State) :
    s.refreshWanted = true ↔
      s.account.timer ≠ none ∧ s.account.offer = .none ∧ (∀ b, (s.bank b).state = .closed) ∧
        (s.account.calDue = true ∨ 1 ≤ s.account.owed ∨
          (-4 < s.account.owed ∧ noWaiters s ∧ s.xfer.list = [])) := by
  simp only [State.refreshWanted, Bool.and_eq_true, Bool.or_eq_true, allClosed_iff,
    queuesEmpty_iff, State.listEmpty, List.isEmpty_iff, decide_eq_true_eq,
    Option.isSome_iff_ne_none]
  tauto

/-! ## The channel (R70, R77, R78) -/

theorem gate_isEmpty_iff (g : Gate) : g.isEmpty = true ↔ g = ⟨false, false, false, false⟩ := by
  obtain ⟨a, b, c, d⟩ := g
  cases a <;> cases b <;> cases c <;> cases d <;> decide

theorem maintEligible_iff (s : State) (o : Offer) : s.maintEligible o = true ↔ Eligible s o := by
  have hg : s.gate.isEmpty = false ↔ s.gate ≠ ⟨false, false, false, false⟩ := by
    rw [ne_eq, ← gate_isEmpty_iff]
    simp
  simp only [State.maintEligible, State.quiet, Eligible, Bool.and_eq_true, allClosed_iff,
    all_allBanks, BankOp.idle, decide_eq_true_eq, Bool.not_eq_true', hg]
  have hc : s.channelAllows o = true ↔
      ((s.chan.state = .uninit ∧ o.by_ = .sequencer) ∨
        (s.chan.state = .active ∧ o.op ≠ .standbyExit) ∨
        (s.chan.state = .selfRefresh ∧ o.op = .standbyExit)) := by
    unfold State.channelAllows
    split <;> simp_all
  rw [hc]
  constructor
  · rintro ⟨⟨⟨h1, h2⟩, h3⟩, h4⟩
    exact ⟨fun b => ⟨h1 b, (h2 b).1.1, (h2 b).1.2, (h2 b).2⟩, h3, h4⟩
  · rintro ⟨h1, h3, h4⟩
    exact ⟨⟨⟨fun b => (h1 b).1, fun b => ⟨⟨(h1 b).2.1, (h1 b).2.2.1⟩, (h1 b).2.2.2⟩⟩, h3⟩, h4⟩

theorem prechargeEligible_iff (s : State) (b : Bank) :
    (s.op b).prechargeEligible = true ↔ PrechargeReady s b := by
  unfold BankOp.prechargeEligible PrechargeReady
  split
  · simp_all [Option.isSome_iff_ne_none, and_assoc]
  · simp_all

theorem activateEligible_iff (s : State) (b : Bank) :
    (s.op b).activateEligible = true ↔ ActivateReady s b := by
  unfold BankOp.activateEligible ActivateReady
  split
  · simp_all [and_assoc]
  · simp_all

/-- The maintenance operation in flight has come to its end. -/
theorem inFlight_maintDue {s : State} {op : MaintOp} {by_ : Requester} (h : Lands s op by_) :
    (s.inFlight op && s.maintDue) = true := by
  obtain ⟨d, hd, hm⟩ := h
  simp [State.inFlight, State.maintDue, hm, hd]

theorem landed_eq {s : State} {op : MaintOp} {by_ : Requester} (h : Lands s op by_) :
    ∃ d, s.chan.maint = some ⟨⟨op, by_⟩, d⟩ ∧ d ≤ s.now := by
  obtain ⟨d, hd, hm⟩ := h
  exact ⟨d, hm, hd⟩

/-! ## The arbiter (R81) -/

/-- Where no event of the moment has left an operation first at the bus, the ranks decide. -/
theorem firstChoice_none {s : State} (h : ∀ f, s.chan.first = some f → f.moment ≠ s.now) :
    s.firstChoice = none := by
  unfold State.firstChoice
  split
  · rfl
  · rename_i f hf
    simp [h f hf]

/-- A busy bus takes nothing. -/
theorem arbiter_busy {s : State} (h : s.busFree = false) : s.arbiter = none := by
  simp [State.arbiter, h]

/-- With no maintenance operation in flight a lane captures with its capture delay. -/
theorem capturesWith_idle {s : State} (h : s.chan.maint = none) (lane : Lane) :
    s.capturesWith lane = s.chan.capture[lane.val] := by
  simp [State.capturesWith, h]

/-- The arbiter sees of the hosts only their ports. -/
theorem arbiter_hosts (s : State) (l : PerHost HostSide) (hl : ∀ g, (l.get g).port = s.port g) :
    { s with hosts := l }.arbiter = s.arbiter := by
  have hp : ∀ g, { s with hosts := l }.port g = s.port g := hl
  have he : { s with hosts := l }.entryCondition = s.entryCondition := by
    simp only [State.entryCondition, hp]
  have hr : { s with hosts := l }.reactionOpen = s.reactionOpen := by
    simp only [State.reactionOpen, he]
    rfl
  simp only [State.arbiter, State.rankChoice, hr]
  rfl

/-- Keeping the place at the bus and a change to a host's side that leaves its port do not meet. -/
theorem keepPlace_setHost (s : State) (h : HostId) (x : HostSide) (hx : x.port = s.port h) :
    keepPlace (s.setHost h x) = (keepPlace s).setHost h x := by
  have ha : (s.setHost h x).arbiter = s.arbiter := by
    refine arbiter_hosts s (s.hosts.set h x) fun g => ?_
    rw [PerHost.get_set]
    split
    · rename_i hg
      rw [hg, hx]
    · rfl
  simp only [keepPlace, State.firstClaim, ha]
  rfl

/-! ## Banks and rows from their fields -/

@[simp] theorem bankOfByte_bankByte (b : Bank) : bankOfByte (bankByte b) = some b := by
  revert b; decide

theorem bankOfByte_none (x : Byte) : bankOfByte x = none ↔ 7 < x.toNat := by
  unfold bankOfByte
  split <;> simp_all <;> omega

@[simp] theorem rowOfField_rowWord (r : Row) : rowOfField (rowWord r) = some r := by
  have h : (rowWord r).toNat < 16384 := by
    have := r.isLt
    simp [rowWord]
    omega
  have e : (rowWord r).setWidth 14 = r := by
    apply BitVec.eq_of_toNat_eq
    simp [rowWord]
  simp [rowOfField, h, e]

theorem rowOfField_none (x : BitVec 16) : rowOfField x = none ↔ 16383 < x.toNat := by
  unfold rowOfField
  split <;> simp_all <;> omega

end Sys2Proof.Machine
end

