-- ==== Sys2Proof/Laws/Memory.lean ====
section
/-! SUPPORT. The laws of the bytes of the DRAM: a read after a write, the canonical form kept by every
write, and equal reads of equal memories. -/

namespace Sys2Proof.Machine

/-- A byte just written reads back. -/
@[simp] theorem Memory.read_write_same (m : Memory) (a : Nat) (v : Byte) :
    (Memory.write m a v).read a = some v := by
  induction m with
  | nil => simp [Memory.write, Memory.read]
  | cons e rest ih =>
    obtain ⟨b, w⟩ := e
    unfold Memory.write
    split
    · simp [Memory.read]
    · split
      · simp [Memory.read]
      · rename_i _ hb
        have : b ≠ a := fun e => hb e.symm
        simp [Memory.read, this, ih]

/-- A write leaves every other byte alone. -/
@[simp] theorem Memory.read_write_other (m : Memory) {a c : Nat} (v : Byte) (hc : c ≠ a) :
    (Memory.write m a v).read c = m.read c := by
  induction m with
  | nil => simp [Memory.write, Memory.read, Ne.symm hc]
  | cons e rest ih =>
    obtain ⟨b, w⟩ := e
    unfold Memory.write
    split
    · simp [Memory.read, Ne.symm hc]
    · split
      · rename_i _ hb
        subst hb
        simp [Memory.read, Ne.symm hc]
      · simp [Memory.read, ih]

/-- A bound below an address written stays a bound. -/
theorem Memory.above_write (lo : Nat) (m : Memory) (a : Nat) (v : Byte) (h : m.above lo = true)
    (ha : lo < a) : (Memory.write m a v).above lo = true := by
  induction m generalizing lo with
  | nil => simp [Memory.write, Memory.above, ha]
  | cons e rest ih =>
    obtain ⟨b, w⟩ := e
    simp only [Memory.above, Bool.and_eq_true, decide_eq_true_eq] at h
    unfold Memory.write
    split
    · rename_i hb
      simp [Memory.above, ha, hb, h.2]
    · split
      · rename_i _ hb
        subst hb
        simp [Memory.above, ha, h.2]
      · rename_i h1 h2
        simp only [Memory.above, Bool.and_eq_true, decide_eq_true_eq]
        exact ⟨h.1, ih b h.2 (by omega)⟩

/-- A write keeps the canonical form. -/
theorem Memory.wf_write (m : Memory) (a : Nat) (v : Byte) (h : m.wf = true) :
    (Memory.write m a v).wf = true := by
  cases m with
  | nil => rfl
  | cons e rest =>
    obtain ⟨b, w⟩ := e
    simp only [Memory.wf] at h
    unfold Memory.write
    split
    · rename_i hb
      simp [Memory.wf, Memory.above, hb, h]
    · split
      · rename_i _ hb
        subst hb
        exact h
      · exact Memory.above_write b rest a v h (by omega)

/-- The bytes of a write burst that are written, one after another, keep the canonical form. -/
theorem writeBurstBytes_wf (o : BurstOrder) (e : Transfer) (n : Nat) (m : Memory) (h : m.wf = true) :
    (writeBurstBytes o e n m).wf = true := by
  unfold writeBurstBytes
  generalize burstBytes = l
  induction l generalizing m with
  | nil => exact h
  | cons k rest ih =>
    simp only [List.foldl_cons]
    split
    · exact ih _ (Memory.wf_write _ _ _ h)
    · exact ih _ h

/-- A write burst leaves every byte alone that is not one of its enabled bytes. -/
theorem writeBurstBytes_other (o : BurstOrder) (e : Transfer) (n : Nat) (m : Memory) (a : Nat)
    (h : ∀ k : Fin 32, e.enables.getD (32 * n + k.val) false = true →
      a ≠ transferAddress o e.bank e.row e.col n k) :
    (writeBurstBytes o e n m).read a = m.read a := by
  unfold writeBurstBytes
  generalize burstBytes = l
  induction l generalizing m with
  | nil => rfl
  | cons k rest ih =>
    simp only [List.foldl_cons]
    split
    · rename_i hk
      rw [ih, Memory.read_write_other _ _ (h k hk)]
    · exact ih _

end Sys2Proof.Machine
end

