-- ==== Sys2Proof/Laws/Ops.lean ====
section
/-! SUPPORT. What each shared operation does, once: answers, notifications, the path of a received
request, leaving a bank, serving queues, reasons and offers, pressure. Proofs cite these and need not
unfold the operations. -/

namespace Sys2Proof.Machine

open Sys2Proof.Safety

/-! ## Answers (R157) -/

/-- An answer to an OUTSTANDING tag frees it and joins the tail of the send queue. -/
theorem answer_outstanding {s : State} {h : HostId} {tag : Tag} {kind : ReqKind} (st : Status)
    (p : Payload) (ht : (s.host h).tags[tag.val] = some kind) :
    answer h tag st p s = s.setHost h (sideAnswers (s.host h) tag ⟨tag, kind, st, p⟩) := by
  simp [answer, ht, sideAnswers]

/-- An answer to a FREE tag sends nothing (log 22). -/
theorem answer_free {s : State} {h : HostId} {tag : Tag} (st : Status) (p : Payload)
    (ht : (s.host h).tags[tag.val] = none) : answer h tag st p s = s := by
  simp [answer, ht]

theorem answerStatus_outstanding {s : State} {h : HostId} {tag : Tag} {kind : ReqKind}
    (st : Status) (ht : (s.host h).tags[tag.val] = some kind) :
    answerStatus h tag st s = s.setHost h (sideAnswers (s.host h) tag (plain tag kind st)) :=
  answer_outstanding st .none ht

/-- Every answer touches at most the side of its host: its tags and its send queue. -/
theorem answer_cases (h : HostId) (tag : Tag) (st : Status) (p : Payload) (s : State) :
    answer h tag st p s = s ∨
      ∃ kind, (s.host h).tags[tag.val] = some kind ∧
        answer h tag st p s = s.setHost h (sideAnswers (s.host h) tag ⟨tag, kind, st, p⟩) := by
  cases ht : (s.host h).tags[tag.val] with
  | none => exact .inl (answer_free st p ht)
  | some kind => exact .inr ⟨kind, rfl, answer_outstanding st p ht⟩

@[simp] theorem answerOpt_none (h : HostId) (st : Status) (s : State) :
    answerOpt h none st s = s := rfl

@[simp] theorem answerOpt_some (h : HostId) (tag : Tag) (st : Status) (s : State) :
    answerOpt h (some tag) st s = answerStatus h tag st s := rfl

@[simp] theorem sideAnswers_port (p : HostSide) (tag : Tag) (r : Response) :
    (sideAnswers p tag r).port = p.port := rfl

@[simp] theorem sideAnswers_notes (p : HostSide) (tag : Tag) (r : Response) :
    (sideAnswers p tag r).notes = p.notes := rfl

@[simp] theorem sideAnswers_tags_other (p : HostSide) {tag i : Tag} (r : Response) (hi : i ≠ tag) :
    (sideAnswers p tag r).tags[i.val] = p.tags[i.val] := by
  have : tag.val ≠ i.val := fun e => hi (Fin.ext e.symm)
  simp [sideAnswers, this]

/-! ## Notifications (R165, R171) -/

theorem notify_eq (h : HostId) (n : Notification) (s : State) :
    notify h n s = s.setHost h (sideNotified true n (s.host h)) := by
  by_cases hp : (s.host h).port = .down <;> simp [notify, HostSide.notify, sideNotified, hp]

theorem notifyEach_host (f : HostId → Option Notification) (s : State) (h : HostId) :
    (notifyEach f s).host h =
      match f h with
      | none => s.host h
      | some n => sideNotified true n (s.host h) := by
  simp only [notifyEach, State.host, PerHost.get_imap]
  cases f h with
  | none => rfl
  | some n =>
    by_cases hp : (s.hosts.get h).port = .down <;> simp [HostSide.notify, sideNotified, hp]

theorem notifySet_host (t : HostSet) (n : Notification) (s : State) (h : HostId) :
    (notifySet t n s).host h = sideNotified (t.get h) n (s.host h) := by
  simp only [notifySet, notifyEach_host]
  cases t.get h <;> simp [sideNotified]

@[simp] theorem attachedSet_get (s : State) (h : HostId) : s.attachedSet.get h = inSet s h := by
  simp only [State.attachedSet, inSet, State.port, State.host, PerHost.get_imap]
  rfl

theorem notifyAttached_host (n : Notification) (s : State) (h : HostId) :
    (notifyAttached n s).host h = sideNotified (inSet s h) n (s.host h) := by
  simp [notifyAttached, notifySet_host]

/-- A notification to several hosts touches nothing but the hosts' sides. -/
theorem notifyEach_changes (f : HostId → Option Notification) (s : State) :
    notifyEach f s = { s with hosts := (notifyEach f s).hosts } := rfl

theorem notifySet_changes (t : HostSet) (n : Notification) (s : State) :
    notifySet t n s = { s with hosts := (notifySet t n s).hosts } := rfl

theorem notifyAttached_changes (n : Notification) (s : State) :
    notifyAttached n s = { s with hosts := (notifyAttached n s).hosts } := rfl

@[simp] theorem sideNotified_false (n : Notification) (p : HostSide) :
    sideNotified false n p = p := by simp [sideNotified]

@[simp] theorem sideNotified_port (a : Bool) (n : Notification) (p : HostSide) :
    (sideNotified a n p).port = p.port := by
  unfold sideNotified; split <;> rfl

@[simp] theorem sideNotified_tags (a : Bool) (n : Notification) (p : HostSide) :
    (sideNotified a n p).tags = p.tags := by
  unfold sideNotified; split <;> rfl

@[simp] theorem sideNotified_link (a : Bool) (n : Notification) (p : HostSide) :
    (sideNotified a n p).link = p.link := by
  unfold sideNotified; split <;> rfl

/-- An answer and a notification of one host do not meet. -/
theorem sideNotified_sideAnswers (a : Bool) (n : Notification) (p : HostSide) (tag : Tag)
    (r : Response) :
    sideNotified a n (sideAnswers p tag r) = sideAnswers (sideNotified a n p) tag r := by
  unfold sideNotified
  by_cases h : a = true ∧ p.port ≠ .down <;> simp [h, sideAnswers]

/-! ## Received requests (R148 to R150, R156, R157) -/

@[simp] theorem takeAck_sendQueue (l : Link) (a : Seq) : (l.takeAck a).sendQueue = l.sendQueue := by
  unfold Link.takeAck; split <;> rfl

@[simp] theorem takeAck_expected (l : Link) (a : Seq) : (l.takeAck a).expected = l.expected := by
  unfold Link.takeAck; split <;> rfl

@[simp] theorem takeAck_state (l : Link) (a : Seq) : (l.takeAck a).state = l.state := by
  unfold Link.takeAck; split <;> rfl

@[simp] theorem takeAck_nextSend (l : Link) (a : Seq) : (l.takeAck a).nextSend = l.nextSend := by
  unfold Link.takeAck; split <;> rfl

@[simp] theorem takeAck_receiver (l : Link) (a : Seq) : (l.takeAck a).receiver = l.receiver := by
  unfold Link.takeAck; split <;> rfl

/-- An acknowledgement that names no frame of the buffer changes nothing. -/
theorem takeAck_unknown {l : Link} {a : Seq} (h : ∀ x ∈ l.replayBuffer, x.1 ≠ a) :
    l.takeAck a = l := by
  have hb : buffered a l.replayBuffer = false := by simpa [buffered] using h
  simp [Link.takeAck, hb]

/-- The frames left by an acknowledgement of one in the buffer. -/
theorem dropThrough_append {older newer : List (Seq × OutMsg)} {a : Seq} {m : OutMsg}
    (h : ∀ x ∈ older, x.1 ≠ a) : dropThrough a (older ++ (a, m) :: newer) = newer := by
  unfold dropThrough
  induction older with
  | nil => simp
  | cons x rest ih =>
    have hx : x.1 ≠ a := h x (by simp)
    have hr : ∀ y ∈ rest, y.1 ≠ a := fun y hy => h y (by simp [hy])
    simpa [List.dropWhile_cons, hx] using ih hr

@[simp] theorem linkAfter_sendQueue (s : State) (h : HostId) (f : FrameHdr) :
    (linkAfter s h f).sendQueue = (s.link h).sendQueue := by
  simp [linkAfter, Link.accept, Link.takeValid]

@[simp] theorem linkAfter_state (s : State) (h : HostId) (f : FrameHdr) :
    (linkAfter s h f).state = (s.link h).state := by
  simp [linkAfter, Link.accept, Link.takeValid]

theorem acceptFrame_eq (h : HostId) (f : FrameHdr) (s : State) :
    acceptFrame h f s = s.setHost h { s.host h with link := linkAfter s h f } := rfl

theorem deliver_delivered {s : State} {h : HostId} {f : FrameHdr} {tagged : Bool}
    (act : State → State) (hd : (s.host h).delivers f tagged = true) :
    deliver h f tagged act s =
      act (s.setHost h { s.host h with link := linkAfter s h f }) := by
  simp [deliver, hd, acceptFrame_eq]

theorem deliver_not_delivered {s : State} {h : HostId} {f : FrameHdr} {tagged : Bool}
    (act : State → State) (hd : (s.host h).delivers f tagged = false) :
    deliver h f tagged act s = discardFrame h f s := by
  simp [deliver, hd]

/-- A request that arrives is handed on with its tag OUTSTANDING. -/
theorem request_arrives {s : State} {h : HostId} {f : FrameHdr} {tag : Tag} (kind : ReqKind)
    (act : State → State) (ha : RequestArrives s h f tag) :
    request h f tag kind act s = act (s.setHost h (sideTaken s h f tag kind)) := by
  obtain ⟨hd, hp, ht⟩ := ha
  have hp' : (s.host h).port ≠ .down := hp
  simp [request, deliver_delivered _ hd, takeRequest, hp', ht, sideTaken]

@[simp] theorem sideTaken_port (s : State) (h : HostId) (f : FrameHdr) (tag : Tag)
    (kind : ReqKind) : (sideTaken s h f tag kind).port = s.port h := rfl

@[simp] theorem sideTaken_notes (s : State) (h : HostId) (f : FrameHdr) (tag : Tag)
    (kind : ReqKind) : (sideTaken s h f tag kind).notes = (s.host h).notes := rfl

@[simp] theorem sideTaken_tags_same (s : State) (h : HostId) (f : FrameHdr) (tag : Tag)
    (kind : ReqKind) : (sideTaken s h f tag kind).tags[tag.val] = some kind := by
  simp [sideTaken]

@[simp] theorem sideTaken_tags_other (s : State) (h : HostId) (f : FrameHdr) {tag i : Tag}
    (kind : ReqKind) (hi : i ≠ tag) :
    (sideTaken s h f tag kind).tags[i.val] = (s.host h).tags[i.val] := by
  have : tag.val ≠ i.val := fun e => hi (Fin.ext e.symm)
  simp [sideTaken, this]

/-- A request taken and answered in one event leaves its tag FREE. -/
theorem sideAnswers_sideTaken {s : State} {h : HostId} {tag : Tag} (f : FrameHdr)
    (kind : ReqKind) (r : Response) (ht : (s.host h).tags[tag.val] = none) :
    sideAnswers (sideTaken s h f tag kind) tag r = sideAnswered s h f [r] := by
  have : (s.host h).tags.set tag.val none = (s.host h).tags := by
    rw [← ht]; simp
  simp [sideAnswers, sideTaken, sideAnswered, this]

/-- An answer made in the event of its request. -/
theorem answer_taken {s : State} {h : HostId} {f : FrameHdr} {tag : Tag} (kind : ReqKind)
    (st : Status) (p : Payload) (ha : RequestArrives s h f tag) :
    answer h tag st p (s.setHost h (sideTaken s h f tag kind)) =
      s.setHost h (sideAnswered s h f [⟨tag, kind, st, p⟩]) := by
  rw [answer_outstanding (kind := kind) st p (by simp)]
  simp [sideAnswers_sideTaken f kind _ ha.2.2]

theorem answerStatus_taken {s : State} {h : HostId} {f : FrameHdr} {tag : Tag} (kind : ReqKind)
    (st : Status) (ha : RequestArrives s h f tag) :
    answerStatus h tag st (s.setHost h (sideTaken s h f tag kind)) =
      s.setHost h (sideAnswered s h f [plain tag kind st]) :=
  answer_taken kind st .none ha

/-! ## Leaving a bank (R21, R24, R30) -/

theorem removeHolder_eq (b : Bank) (h : HostId) (s : State) :
    removeHolder b h s = holderGone b h s := by
  have e : (fun x : Holder => !decide (x.host = h)) = fun x => decide (x.host ≠ h) := by
    funext x; simp
  simp only [removeHolder, holderGone, BankRecord.afterRemoval, requestPrecharge, e,
    List.isEmpty_iff]
  split
  · rename_i hl
    simp only [hl]
    rfl
  · rfl

@[simp] theorem holderGone_host (b : Bank) (h g : HostId) (s : State) :
    (holderGone b h s).host g = s.host g := by
  simp only [holderGone]; split <;> rfl

@[simp] theorem holderGone_xfer (b : Bank) (h : HostId) (s : State) :
    (holderGone b h s).xfer = s.xfer := by
  simp only [holderGone]; split <;> rfl

@[simp] theorem holderGone_gate (b : Bank) (h : HostId) (s : State) :
    (holderGone b h s).gate = s.gate := by
  simp only [holderGone]; split <;> rfl

/-- A holder's leaving and a host's side do not meet. -/
theorem holderGone_setHost (b : Bank) (h g : HostId) (x : HostSide) (s : State) :
    holderGone b h (s.setHost g x) = (holderGone b h s).setHost g x := by
  by_cases hl : ((s.bank b).holders.filter fun x => decide (x.host ≠ h)) = [] <;>
    simp only [holderGone, State.setHost_bank, hl, if_true, if_false] <;> rfl

/-- Nothing happens where the host is no leaving holder, the bank is not OPEN, or a transfer is left. -/
theorem finishHolder_stays {b : Bank} {h : HostId} {s : State}
    (hn : ¬((s.bank b).state = .opened ∧ noneLeft s h b)) : finishHolder b h s = s := by
  unfold finishHolder
  split
  · rfl
  · rw [if_neg]
    rwa [noTransferOn_iff]

theorem finishHolder_none {b : Bank} {h : HostId} {s : State} (hn : (s.bank b).holder h = none) :
    finishHolder b h s = s := by simp [finishHolder, hn]

theorem finishHolder_active {b : Bank} {h : HostId} {s : State} {x : Holder}
    (hx : (s.bank b).holder h = some x) (ha : x.status = .active) : finishHolder b h s = s := by
  simp [finishHolder, hx, ha]

theorem finishHolder_closing {b : Bank} {h : HostId} {s : State} {x : Holder}
    (hx : (s.bank b).holder h = some x) (hc : x.status = .closing)
    (ho : (s.bank b).state = .opened) (hn : noneLeft s h b) :
    finishHolder b h s = answerOpt h x.closeTag .ok (holderGone b h s) := by
  simp [finishHolder, hx, hc, ho, (noTransferOn_iff s h b).mpr hn, removeHolder_eq]

theorem finishHolder_lost {b : Bank} {h : HostId} {s : State} {x : Holder}
    (hx : (s.bank b).holder h = some x) (hc : x.status = .revoking .hostLost)
    (ho : (s.bank b).state = .opened) (hn : noneLeft s h b) :
    finishHolder b h s = holderGone b h s := by
  simp [finishHolder, hx, hc, ho, (noTransferOn_iff s h b).mpr hn, removeHolder_eq]

theorem finishHolder_revoking {b : Bank} {h : HostId} {s : State} {x : Holder} {r : RevokeReason}
    (hx : (s.bank b).holder h = some x) (hc : x.status = .revoking r) (hr : r ≠ .hostLost)
    (ho : (s.bank b).state = .opened) (hn : noneLeft s h b) :
    finishHolder b h s =
      answerOpt h x.closeTag .ok (notify h (.leaseRevoked b r) (holderGone b h s)) := by
  cases r <;>
    simp_all [finishHolder, (noTransferOn_iff s h b).mpr hn, removeHolder_eq]

/-! ## Serving queues and the gate (R9, R11, R17) -/

theorem serveReady_iff (s : State) (b : Bank) :
    s.serveReady b = true ↔
      (s.bank b).state = .closed ∧ (s.bank b).waiters ≠ [] ∧
        s.gate = ⟨false, false, false, false⟩ := by
  simp [State.serveReady, gate_isEmpty_iff, and_assoc]

/-- A queue that cannot be served stays as it is. -/
theorem serveBank_stays {b : Bank} {s : State}
    (h : (s.bank b).state ≠ .closed ∨ (s.bank b).waiters = [] ∨
      s.gate ≠ ⟨false, false, false, false⟩) : serveBank b s = s := by
  have : s.serveReady b = false := by
    rw [Bool.eq_false_iff, ne_eq, serveReady_iff]
    tauto
  simp [serveBank, this]

/-- A queue that can be served is: its head's batch is granted. -/
theorem serveBank_grants {b : Bank} {s : State} {head : Waiter} {rest : List Waiter}
    (hc : (s.bank b).state = .closed) (hw : (s.bank b).waiters = head :: rest)
    (hg : s.gate = ⟨false, false, false, false⟩) :
    serveBank b s =
      grant b head.row head.mode
        ((grantBatch head rest).map fun w => Holder.granted w.host w.tag)
        ((head :: rest).drop (grantBatch head rest).length) s := by
  have : s.serveReady b = true := (serveReady_iff s b).mpr ⟨hc, by simp [hw], hg⟩
  simp [serveBank, this, hw]

/-- With no waiter on any bank, opening the gate serves nothing. -/
theorem serveAll_noWaiters {s : State} (h : noWaiters s) : serveAll s = s := by
  have e : ∀ b, serveBank b s = s := fun b => serveBank_stays (.inr (.inl (h b)))
  simp [serveAll, allBanks, e]

theorem removeReason_noWaiters {s : State} (r : GateReason) (h : noWaiters s) :
    removeReason r s = s.setGate (s.gate.put r false) := by
  have h' : noWaiters (s.setGate (s.gate.put r false)) := h
  simp only [removeReason, serveAll_noWaiters h', ite_self]

/-- While another reason stays in the gate, taking one out serves nothing. -/
theorem removeReason_stays {s : State} (r : GateReason)
    (h : s.gate.put r false ≠ ⟨false, false, false, false⟩) :
    removeReason r s = s.setGate (s.gate.put r false) := by
  have : (s.gate.put r false).isEmpty = false := by
    rw [Bool.eq_false_iff, ne_eq, gate_isEmpty_iff]
    exact h
  simp [removeReason, this]

/-- A reason that is not in the gate is taken out without effect. -/
theorem removeReason_absent {s : State} {r : GateReason} (h : s.gate.put r false = s.gate) :
    removeReason r s = s := by
  cases hg : s.gate.isEmpty <;> simp [removeReason, h, hg, State.setGate]

/-! ## The intake (R56) -/

theorem takeFromIntake_stays {s : State} (h : 64 ≤ s.xfer.list.length ∨ s.xfer.intake = []) :
    takeFromIntake s = s := by
  have : s.intakeReady = false := by
    rcases h with h | h
    · simp [State.intakeReady, Config.transferLimit, Nat.not_lt.mpr h]
    · simp [State.intakeReady, h]
  simp [takeFromIntake, this]

/-- One request leaves the intake. -/
theorem takeFromIntake_takes {s : State} {q : TransferReq} {rest : List TransferReq}
    (hl : s.xfer.list.length < 64) (hi : s.xfer.intake = q :: rest) :
    takeFromIntake s = checkTransfer q (s.setIntake rest) := by
  have : s.intakeReady = true := by simp [State.intakeReady, Config.transferLimit, hl, hi]
  simp [takeFromIntake, this, hi]

/-- A check of a request leaves the intake as it is. -/
@[simp] theorem checkTransfer_intake (q : TransferReq) (s : State) :
    (checkTransfer q s).xfer.intake = s.xfer.intake := by
  have ha : ∀ (t : Tag) (st : Status), (answerStatus q.host t st s).xfer = s.xfer := by
    intro t st
    rcases answer_cases q.host t st .none s with h | ⟨_, _, h⟩ <;> simp [answerStatus, h]
  simp only [checkTransfer]
  split
  · simp [ha]
  · split <;> simp [ha, State.setList]

/-- Nothing is taken while the list is full or the intake empty. -/
theorem takeIntake_stays {s : State} (h : 64 ≤ s.xfer.list.length ∨ s.xfer.intake = []) :
    takeIntake s = s := by
  have : ∀ l : List TransferReq, l.foldl (fun s _ => takeFromIntake s) s = s := by
    intro l
    induction l with
    | nil => rfl
    | cons q l ih => rw [List.foldl_cons, takeFromIntake_stays h, ih]
  exact this _

/-- With room the oldest request is checked, and the rest follows. -/
theorem takeIntake_takes {s : State} {q : TransferReq} {rest : List TransferReq}
    (hl : s.xfer.list.length < 64) (hi : s.xfer.intake = q :: rest) :
    takeIntake s = takeIntake (checkTransfer q (s.setIntake rest)) := by
  rw [takeIntake, hi, List.foldl_cons, takeFromIntake_takes hl hi, takeIntake,
    checkTransfer_intake, State.setIntake]

/-! ## Detaches (R119 to R122) -/

/-- R119: a detach finds nothing to change in an IDLE unit. -/
theorem detachAgreement_idle {s : State} (h : HostId) (hs : s.agree.state = .idle) :
    detachAgreement h s = s := by
  simp [detachAgreement, hs]

/-- R122, R155: in DRAINING and APPLYING a detach takes the host out of the record's electorate. -/
theorem detachAgreement_goesOn {s : State} {p : Proposal} (h : HostId)
    (hp : s.agree.proposal = some p)
    (hs : s.agree.state = .draining ∨ s.agree.state = .applying) :
    detachAgreement h s =
      s.setAgree { s.agree with proposal := some (p.withoutElector h) } := by
  rcases hs with hs | hs <;> simp [detachAgreement, hs, hp]

/-- R121: in BALLOT an elector's detach takes it out of the electorate, and the ballot is judged. -/
theorem detachAgreement_elector {s : State} {p : Proposal} {h : HostId}
    (hp : s.agree.proposal = some p) (hs : s.agree.state = .ballot) (hh : p.proposer ≠ h)
    (he : p.electorate.get h = true) :
    detachAgreement h s =
      judgeBallot (s.setAgree { s.agree with proposal := some (p.withoutElector h) }) := by
  simp [detachAgreement, hs, hp, hh, he]

/-! ## Pressure and offers (R69, R80, R91, R180) -/

/-- Where no pressure hold begins and no sweep is moved, judging the account changes nothing. -/
theorem judgeAccount_calm {s : State} (h : calm s s.agree.live.threshold s.account.owed) :
    judgeAccount s = s := by
  obtain ⟨hc, hs⟩ := h
  have hn : ¬(s.pressed = true ∧ s.account.hold = false) := by
    rw [pressed_iff]
    rcases hc with hc | hc <;> simp [hc]
  have hp : s.pressed = true ↔ presses s s.agree.live.threshold s.account.owed := pressed_iff s
  rw [judgeAccount, if_neg hn, judgeYield]
  rcases hs with hs | ⟨h1, h2⟩ | ⟨h1, h2⟩
  · simp [hs]
  · simp [hp.mpr h1, h2]
  · have : s.pressed = false := by rwa [← hp, Bool.not_eq_true] at h1
    simp [this, h2]

/-- The end of a yield: the kept step is offered. -/
theorem judgeAccount_goesOn {s : State} {w : Sweep} (hw : s.seq.sweep = some w)
    (hy : s.seq.yielding = true) (hp : ¬presses s s.agree.live.threshold s.account.owed) :
    judgeAccount s = offerStep s := by
  have : s.pressed = false := by rw [Bool.eq_false_iff, ne_eq, pressed_iff]; exact hp
  simp [judgeAccount, judgeYield, this, hw, hy]

/-- A step is offered while the account is not PRESSED. -/
theorem offerStep_offers {s : State} {w : Sweep} (hw : s.seq.sweep = some w)
    (hp : ¬presses s s.agree.live.threshold s.account.owed) :
    offerStep s = { s with
      seq := { s.seq with yielding := false, stepOffer := .offered }
      chan := { s.chan with offers := s.chan.offers ++ [stepOf w.lane w.delay] } } := by
  have : s.pressed = false := by rw [Bool.eq_false_iff, ne_eq, pressed_iff]; exact hp
  simp [offerStep, hw, this, offer, State.setChan, State.setSeq, stepOf]

/-- The sweep yields while the account is PRESSED. -/
theorem offerStep_yields {s : State} {w : Sweep} (hw : s.seq.sweep = some w)
    (hp : presses s s.agree.live.threshold s.account.owed) :
    offerStep s = s.setSeq { s.seq with yielding := true, stepOffer := .none } := by
  have : s.pressed = true := (pressed_iff s).mpr hp
  simp [offerStep, hw, this]

/-- The arbiter's maintenance offer is the one taken. -/
theorem maintTaken_eq {s : State} {o : Offer} (h : s.arbiter = some (.maint o)) :
    s.maintTaken = some o := by simp [State.maintTaken, h]

end Sys2Proof.Machine
end

