-- ==== Sys2Proof/Laws/PerInstr.lean ====
section
/-! SUPPORT. Lemmas made per command. `MessageCarriesHeader`: the message of a request command has at least
the four bytes of the message header (R187), so a frame that carries it passes the link's check of a
MESSAGE body (R186). A command that is no request carries no message. -/

namespace Sys2Proof.Laws.MessageCarriesHeader

open Sys2Proof Sys2Proof.Machine

/-- R186, R187: the message that a command carries, if it is a request, is at least a message header. -/
def Statement (i : Instr) : Prop := ∀ l : List Byte, requestMessage i = some l → 4 ≤ l.length

/-- R187: a message is a header of four bytes and a payload. -/
theorem four_le_messageBytes (kind tag : Byte) (p : List Byte) :
    4 ≤ (messageBytes kind tag p).length := by
  simp [messageBytes, le16]

theorem resetNAssert : Statement .resetNAssert := by
  intro l e
  cases e

theorem resetNRelease : Statement .resetNRelease := by
  intro l e
  cases e

theorem holdPhaseEnd : Statement .holdPhaseEnd := by
  intro l e
  cases e

theorem settlePhaseEnd : Statement .settlePhaseEnd := by
  intro l e
  cases e

theorem lockPhaseEnd : Statement .lockPhaseEnd := by
  intro l e
  cases e

theorem intervalExpiry : Statement .intervalExpiry := by
  intro l e
  cases e

theorem holdDeadlineExpiry : ∀ b h, Statement (.holdDeadlineExpiry b h) := by
  intro b h l e
  cases e

theorem waitDeadlineExpiry : ∀ b h, Statement (.waitDeadlineExpiry b h) := by
  intro b h l e
  cases e

theorem ballotDeadlineExpiry : Statement .ballotDeadlineExpiry := by
  intro l e
  cases e

theorem drainDeadlineExpiry : Statement .drainDeadlineExpiry := by
  intro l e
  cases e

theorem silenceDeadlineExpiry : ∀ h, Statement (.silenceDeadlineExpiry h) := by
  intro h l e
  cases e

theorem quietEnd : ∀ h, Statement (.quietEnd h) := by
  intro h l e
  cases e

theorem sendTimerExpiry : ∀ h, Statement (.sendTimerExpiry h) := by
  intro h l e
  cases e

theorem sendFrame : ∀ h, Statement (.sendFrame h) := by
  intro h l e
  cases e

theorem receiveIdleFrame : ∀ h f, Statement (.receiveIdleFrame h f) := by
  intro h f l e
  cases e

theorem receiveNakFrame : ∀ h f n, Statement (.receiveNakFrame h f n) := by
  intro h f n l e
  cases e

theorem receiveCorruptedFrame : ∀ h, Statement (.receiveCorruptedFrame h) := by
  intro h l e
  cases e

theorem messageFrameDiscarded : ∀ h f tagged, Statement (.messageFrameDiscarded h f tagged) := by
  intro h f tagged l e
  cases e

theorem malformedMessage : ∀ h f tagged, Statement (.malformedMessage h f tagged) := by
  intro h f tagged l e
  cases e

theorem join : ∀ h f tag, Statement (.join h f tag) := by
  intro h f tag l e
  cases e
  exact four_le_messageBytes _ _ _

theorem joinComplete : Statement .joinComplete := by
  intro l e
  cases e

theorem leave : ∀ h f tag, Statement (.leave h f tag) := by
  intro h f tag l e
  cases e
  exact four_le_messageBytes _ _ _

theorem leaveComplete : ∀ h, Statement (.leaveComplete h) := by
  intro h l e
  cases e

theorem openLease : ∀ h f tag bank row mode wait, Statement (.openLease h f tag bank row mode wait) := by
  intro h f tag bank row mode wait l e
  cases e
  exact four_le_messageBytes _ _ _

theorem closeLease : ∀ h f tag bank, Statement (.closeLease h f tag bank) := by
  intro h f tag bank l e
  cases e
  exact four_le_messageBytes _ _ _

theorem closeComplete : ∀ b h, Statement (.closeComplete b h) := by
  intro b h l e
  cases e

theorem revocationFinish : ∀ b h, Statement (.revocationFinish b h) := by
  intro b h l e
  cases e

theorem grantFromQueue : ∀ b, Statement (.grantFromQueue b) := by
  intro b l e
  cases e

theorem read : ∀ h f tag bank bursts col, Statement (.read h f tag bank bursts col) := by
  intro h f tag bank bursts col l e
  cases e
  exact four_le_messageBytes _ _ _

theorem write : ∀ h f tag bank bursts col payload, Statement (.write h f tag bank bursts col payload) := by
  intro h f tag bank bursts col payload l e
  cases e
  exact four_le_messageBytes _ _ _

theorem intakeTake : Statement .intakeTake := by
  intro l e
  cases e

theorem propose : ∀ h f tag base items, Statement (.propose h f tag base items) := by
  intro h f tag base items l e
  cases e
  exact four_le_messageBytes _ _ _

theorem vote : ∀ h f tag number accept, Statement (.vote h f tag number accept) := by
  intro h f tag number accept l e
  cases e
  exact four_le_messageBytes _ _ _

theorem drainComplete : Statement .drainComplete := by
  intro l e
  cases e

theorem commit : Statement .commit := by
  intro l e
  cases e

theorem park : ∀ h f tag, Statement (.park h f tag) := by
  intro h f tag l e
  cases e
  exact four_le_messageBytes _ _ _

theorem unpark : ∀ h f tag, Statement (.unpark h f tag) := by
  intro h f tag l e
  cases e
  exact four_le_messageBytes _ _ _

theorem standbyEntering : Statement .standbyEntering := by
  intro l e
  cases e

theorem standbyEnterOffer : Statement .standbyEnterOffer := by
  intro l e
  cases e

theorem query : ∀ h f tag, Statement (.query h f tag) := by
  intro h f tag l e
  cases e
  exact four_le_messageBytes _ _ _

theorem queryBank : ∀ h f tag bank, Statement (.queryBank h f tag bank) := by
  intro h f tag bank l e
  cases e
  exact four_le_messageBytes _ _ _

theorem noteAck : ∀ h f n, Statement (.noteAck h f n) := by
  intro h f n l e
  cases e
  exact four_le_messageBytes _ _ _

theorem notificationDelivery : ∀ h, Statement (.notificationDelivery h) := by
  intro h l e
  cases e

theorem refreshRequest : Statement .refreshRequest := by
  intro l e
  cases e

theorem setupEnd : ∀ b, Statement (.setupEnd b) := by
  intro b l e
  cases e

theorem commandSlotEnd : Statement .commandSlotEnd := by
  intro l e
  cases e

theorem writeRecoveryEnd : ∀ b, Statement (.writeRecoveryEnd b) := by
  intro b l e
  cases e

theorem activateIssue : Statement .activateIssue := by
  intro l e
  cases e

theorem prechargeIssue : Statement .prechargeIssue := by
  intro l e
  cases e

theorem burstIssue : Statement .burstIssue := by
  intro l e
  cases e

theorem refreshIssue : Statement .refreshIssue := by
  intro l e
  cases e

theorem shortCalIssue : Statement .shortCalIssue := by
  intro l e
  cases e

theorem longCalIssue : Statement .longCalIssue := by
  intro l e
  cases e

theorem modeLoadIssue : Statement .modeLoadIssue := by
  intro l e
  cases e

theorem trainStepIssue : Statement .trainStepIssue := by
  intro l e
  cases e

theorem standbyEnterIssue : Statement .standbyEnterIssue := by
  intro l e
  cases e

theorem standbyExitIssue : Statement .standbyExitIssue := by
  intro l e
  cases e

theorem activateCompletion : ∀ b, Statement (.activateCompletion b) := by
  intro b l e
  cases e

theorem prechargeCompletion : ∀ b, Statement (.prechargeCompletion b) := by
  intro b l e
  cases e

theorem burstCompletion : ∀ b, Statement (.burstCompletion b) := by
  intro b l e
  cases e

theorem refreshCompletion : Statement .refreshCompletion := by
  intro l e
  cases e

theorem shortCalCompletion : Statement .shortCalCompletion := by
  intro l e
  cases e

theorem longCalCompletion : Statement .longCalCompletion := by
  intro l e
  cases e

theorem modeLoadCompletion : Statement .modeLoadCompletion := by
  intro l e
  cases e

theorem trainStepCompletion : ∀ sample, Statement (.trainStepCompletion sample) := by
  intro sample l e
  cases e

theorem standbyEnterCompletion : Statement .standbyEnterCompletion := by
  intro l e
  cases e

theorem standbyExitCompletion : Statement .standbyExitCompletion := by
  intro l e
  cases e

end Sys2Proof.Laws.MessageCarriesHeader
end

