-- ==== Sys2Proof/Tests/Slice0.lean ====
section
/-! SUPPORT. The author's own tests: well-formedness, words and frames written out from chapter 11, small
steps with results taken from the spec, and for each statement with hypotheses a witness that meets them,
clause by clause. -/

namespace Sys2Proof.Tests

open Sys2Proof Sys2Proof.Machine Sys2Proof.Safety

/-! ## Small states -/

/-- A frame that carries number 0 and acknowledges nothing, the first after a link up (R145, R147). -/
def f0 : FrameHdr := ⟨0#8, 255#8⟩

/-- The next frame that a host sends. -/
def f1 : FrameHdr := ⟨1#8, 255#8⟩

/-- A host's side with its link just up (R147) and its port in a state. -/
def side (p : PortState) : HostSide :=
  { HostSide.down none with
    link := { Link.down none with
      state := .up, idleRun := 3, silence := some 2000000, sendTimer := some 100000 }
    port := p }

/-- A READY device with all four hosts attached, nothing held and nothing offered. -/
def ready : State :=
  { State.reset with
    resetN := true
    seq := { Sequencer.reset with device := .ready }
    gate := ⟨false, false, false, false⟩
    chan := { Channel.reset with
      state := .active, loadedOrder := some .linearWrap, capture := Vector.replicate 4 (some 20#6)
      dresetN := true, cke := true, clockOn := true }
    account := { Account.reset with timer := some 6400 }
    hosts := PerHost.const (side .attached) }

/-- An ACTIVE holder that has been answered. -/
def holder (h : HostId) (tag : Tag) : Holder := ⟨h, tag, true, some 250000, false, .active, none⟩

/-- A holder whose activation has not completed. -/
def granted (h : HostId) (tag : Tag) : Holder := ⟨h, tag, false, none, false, .active, none⟩

/-- A waiter without a wait deadline. -/
def waiter (h : HostId) (tag : Tag) (row : Row) (mode : LeaseMode) : Waiter := ⟨h, tag, row, mode, none⟩

/-- Bank 2 OPEN on row 5. -/
def opened (mode : LeaseMode) (l : List Holder) (w : List Waiter) : State :=
  (ready.setBank 2 ⟨.opened, some 5#14, some mode, l, w⟩).setOp 2
    { BankOp.reset with openRow := some 5#14 }

/-- Bank 2 ACTIVATING on row 5, its ACTIVATE due at 15. -/
def activating (mode : LeaseMode) (l : List Holder) (w : List Waiter) : State :=
  (ready.setBank 2 ⟨.activating, some 5#14, some mode, l, w⟩).setOp 2
    { BankOp.reset with inFlight := .activate 5#14, due := some 15 }

/-- Bank 2 PRECHARGING, its PRECHARGE due at 15. -/
def precharging (w : List Waiter) : State :=
  (ready.setBank 2 ⟨.precharging, some 5#14, none, [], w⟩).setOp 2
    { BankOp.reset with inFlight := .precharge, due := some 15, openRow := some 5#14 }

/-- A state at a moment. -/
def atTime (t : Time) (s : State) : State := { s with now := t }

/-- A state with a host's tag OUTSTANDING. -/
def tagged (h : HostId) (tag : Tag) (kind : ReqKind) (s : State) : State :=
  s.setHost h { s.host h with tags := (s.host h).tags.set tag.val (some kind) }

/-- A one-burst transfer of host A on bank 2. -/
def entry (kind : TransferKind) (issued : Nat) : Transfer :=
  { host := .a, tag := 1, kind := kind, bank := 2, row := 5#14, col := 13#10, bursts := 1
    issued := issued, completed := 0, cancelled := false
    data := match kind with | .read => [] | .write => List.replicate 32 7#8
    enables := match kind with | .read => [] | .write => List.replicate 32 true }

/-- Host A alone on bank 2, with transfers. -/
def busy (l : List Transfer) : State := (opened .exclusive [holder .a 0] []).setList l

/-- A maintenance operation in flight that completes at the present moment. -/
def landing (op : MaintOp) (by_ : Requester) (s : State) : State :=
  s.setChan { s.chan with state := .maintenance, maint := some ⟨⟨op, by_⟩, s.now⟩ }

/-- A proposal of host A, posted at 0 with the ballot timeout of 20 ms (R113). -/
def proposal (items : List ChangeItem) (accepted : HostSet) : Proposal :=
  { number := 1#8, proposer := .a, items := items, heavy := items.any ChangeItem.heavy
    electorate := ⟨false, true, true, true⟩, accepted := accepted
    ballotDeadline := some 20000000, drainDeadline := none, outcome := none }

/-- The agreement unit in a state on a proposal. -/
def agreeing (st : AgreeState) (p : Proposal) (s : State) : State :=
  s.setAgree { s.agree with
    state := st, proposal := some p, staged := applyItems s.agree.live p.items }

/-- A SET_HOLD_LIMIT of 100 µs for host B. -/
def lightItem : RawItem := ⟨3#8, 1#8, 0#8, 0#8, 100#16, 0#16⟩

/-- A sweep at a delay. -/
def sweepAt (lane : Lane) (d : Delay) (kind : SweepKind) (prev : Option Bool) : Sweep :=
  ⟨lane, d, 1, prev, kind⟩

/-- The device training, one step of a sweep completing now. -/
def training (w : Sweep) : State :=
  landing (.trainStep w.lane w.delay) .sequencer
    { ready with
      gate := ⟨true, false, false, false⟩
      seq := { Sequencer.reset with
        device := .starting .train, sweep := some w, stepOffer := .inFlight
        lanes := Vector.replicate 4 ⟨0#6, .untrained, 1⟩ }
      hosts := PerHost.const (side .linked) }

/-- The write data of one burst, all bytes enabled. -/
def payload : List WriteBurst := [⟨Vector.replicate 32 7#8, BitVec.allOnes 32⟩]

/-! ## Well-formedness (R187, R188) -/

theorem test_wf_write_needs_its_bursts :
    Instr.wf (.write .a f0 1 2#8 2#8 0#16 payload) = false := by decide

theorem test_wf_write_with_its_bursts :
    Instr.wf (.write .a f0 1 2#8 1#8 0#16 payload) = true := by decide

theorem test_wf_propose_needs_an_item : Instr.wf (.propose .a f0 1 0#16 []) = false := by decide

theorem test_wf_propose_refuses_17_items :
    Instr.wf (.propose .a f0 1 0#16 (List.replicate 17 lightItem)) = false := by decide

theorem test_wf_propose_takes_16_items :
    Instr.wf (.propose .a f0 1 0#16 (List.replicate 16 lightItem)) = true := by decide

/-! ## Words and frames (chapter 11) -/

/-- No row of the table gives bits: no word spells a command (log 6). -/
theorem test_no_word_spells_a_command : decodeTableWord 32 0 = none := by decide

/-- The published check value of this CRC over the bytes of "123456789" (log 14). -/
theorem test_crc_check_value :
    crc32 [0x31#8, 0x32#8, 0x33#8, 0x34#8, 0x35#8, 0x36#8, 0x37#8, 0x38#8, 0x39#8] =
      0xCBF43926#32 := by decide +kernel

/-- R187, R189: the message of an OPEN of bank 2, row 100 (0064h), EXCLUSIVE, wait limit 500 µs (01F4h),
with tag 3. -/
theorem test_open_message_bytes :
    requestMessage (.openLease .a f0 3 2#8 100#16 .exclusive 500#16) =
      some [0x03#8, 0x03#8, 0x06#8, 0x00#8, 0x02#8, 0x01#8, 0x64#8, 0x00#8, 0xF4#8, 0x01#8] := by
  decide

/-- R187, R188: the same bytes read back, and with a wrong length they are malformed. -/
theorem test_open_message_read :
    commandOfMessage .a f0
      [0x03#8, 0x03#8, 0x06#8, 0x00#8, 0x02#8, 0x01#8, 0x64#8, 0x00#8, 0xF4#8, 0x01#8] =
        .openLease .a f0 3 2#8 100#16 .exclusive 500#16 ∧
      commandOfMessage .a f0 [0x03#8, 0x03#8, 0x05#8, 0x00#8, 0x02#8, 0x01#8, 0x64#8, 0x00#8, 0xF4#8] =
        .malformedMessage .a f0 true := by decide

/-- R187, R189: a SET_WINDOW item: index 1, banks 0 to 3 (0Fh), READ for A and READ_WRITE for B (09h),
rows 16 to 31. -/
theorem test_set_window_item :
    parseItem ⟨1#8, 1#8, 0x0F#8, 0x09#8, 16#16, 31#16⟩ =
      some (.setWindow 1 ⟨0x0F#8, 16#14, 31#14, ⟨.read, .readWrite, .none, .none⟩⟩) := by decide

/-- R49: LINEAR_WRAP and XOR_WRAP starting at position 5: the columns of beats 0 to 7. -/
theorem test_burst_orders :
    ([0, 1, 2, 3, 4, 5, 6, 7].map fun i =>
        (beatColumn .linearWrap 5#3 (BitVec.ofNat 3 i)).toNat) = [5, 6, 7, 0, 1, 2, 3, 4] ∧
      ([0, 1, 2, 3, 4, 5, 6, 7].map fun i =>
        (beatColumn .xorWrap 5#3 (BitVec.ofNat 3 i)).toNat) = [5, 4, 7, 6, 1, 0, 3, 2] := by decide

/-! ## Witnesses of the hypotheses: one theorem per statement, clause by clause -/

theorem arrives_ready (h : HostId) (tag : Tag) : RequestArrives ready h f0 tag := by
  cases h <;> exact ⟨by decide, by decide, by revert tag; decide⟩

/-- The queue with one command in front. -/
theorem witness_EveryStepAnswersNext :
    ({ ready with pending := [.commit] } : State).pending = .commit :: [] ∧
      ready.pending = [] ∧ (atTime 6400 ready).timerDue = true := by decide

/-- Every law holds of the ready device, whose step answers a next state. -/
theorem witness_StepKeepsMemoryCanonical :
    MemorySound ready ∧ MemorySound (ready.setDram [(0, 1#8), (7, 2#8)]) ∧
      step ready = .next ready.idle :=
  ⟨by unfold MemorySound; decide, by unfold MemorySound; decide, rfl⟩

theorem witness_StepKeepsLeaseLaws :
    LeaseSound ready ∧ step ready = .next ready.idle := by
  refine ⟨fun b => ?_, rfl⟩
  revert b
  simp only [BankStateSound, BankListsSound, noRowFlight]
  intro b
  have hb : ready.bank b = BankRecord.reset ∧ ready.op b = BankOp.reset := by
    revert b; decide
  rw [hb.1, hb.2]
  refine ⟨⟨rfl, rfl, rfl, rfl, by decide, ?_⟩, by decide, by decide⟩
  intro row h
  cases h

theorem witness_StepKeepsTransferLaws :
    TransfersSound (busy [entry .read 0]) ∧
      step (busy [entry .read 0]) = .next (busy [entry .read 0]).idle := by
  refine ⟨⟨by decide, ?_, by decide⟩, rfl⟩
  intro e he
  simp only [busy, State.setList, List.mem_singleton] at he
  subst he
  unfold TransferSound
  decide

theorem witness_StepKeepsOwedInRange : AccountSound ready ∧ step ready = .next ready.idle :=
  ⟨by unfold AccountSound; decide, rfl⟩

theorem witness_StepKeepsAgreementLaws :
    AgreementSound ready ∧ PortsSound ready ∧ step ready = .next ready.idle := by
  refine ⟨⟨by decide, by decide, by decide, ?_⟩, fun h => by cases h <;> decide, rfl⟩
  intro p hp
  cases hp

theorem witness_StepKeepsStandbyLaws : StandbySound ready ∧ step ready = .next ready.idle :=
  ⟨by unfold StandbySound; decide, rfl⟩

theorem witness_StepKeepsPortLaws : PortsSound ready ∧ step ready = .next ready.idle :=
  ⟨fun h => by cases h <;> decide, rfl⟩

theorem consecutiveTo_nil (n : Seq) : consecutiveTo n [] := by
  intro i hi
  cases hi

theorem witness_StepKeepsReplayLaws : LinksSound ready ∧ step ready = .next ready.idle := by
  refine ⟨fun h => ?_, rfl⟩
  have hl : ready.link h = (side .attached).link := by cases h <;> rfl
  rw [hl]
  refine ⟨by decide, consecutiveTo_nil _, by decide, ?_, by decide, by decide, by decide⟩
  intro n hn
  cases hn

theorem witness_StepKeepsHostQueueLaws :
    SendQueuesSound ready ∧ NotesSound ready ∧ step ready = .next ready.idle := by
  refine ⟨fun h => ?_, fun h => ?_, rfl⟩
  · have hh : ready.host h = side .attached := by cases h <;> rfl
    rw [hh]
    unfold SendQueueSound
    decide
  · have hh : ready.host h = side .attached := by cases h <;> rfl
    rw [hh]
    refine ⟨by decide, [], [], rfl, by decide, ?_, ?_, consecutiveTo_nil _⟩ <;>
      · intro e he; cases he

theorem witness_RequestFramesReadBack :
    Instr.wf (.noteAck .a f0 7#8) = true ∧ (encodeRequest (.noteAck .a f0 7#8)).isSome = true := by
  decide

theorem witness_TransferBytesLieAsLaidOut : (1023#10).toNat / 8 + 1 ≤ 128 ∧ 0 < 1 := by decide

/-- An OPEN of the reset window's rows, on a CLOSED bank, and on a bank held SHARED by host B, OPEN or
ACTIVATING. -/
theorem witness_OpenIsGrantedOrJoins :
    (RequestArrives ready .a f0 3 ∧ ready.port .a = .attached ∧
      ready.standby.park.get .a = false ∧ ready.holds .a 2 = false ∧
      (rightOf ready.agree.live .a 2 5#14).enough .exclusive = true ∧
      ready.gate = ⟨false, false, false, false⟩ ∧ (ready.bank 2).waiters = [] ∧
      (ready.bank 2).state = .closed) ∧
    (let s := opened .shared [holder .b 0] [];
      RequestArrives s .a f0 3 ∧ s.port .a = .attached ∧ s.standby.park.get .a = false ∧
        s.holds .a 2 = false ∧ (rightOf s.agree.live .a 2 5#14).enough .shared = true ∧
        s.gate = ⟨false, false, false, false⟩ ∧ (s.bank 2).waiters = [] ∧
        (s.bank 2).mode = some .shared ∧ (s.bank 2).row = some 5#14 ∧
        (s.bank 2).state = .opened) ∧
    (let s := activating .shared [granted .b 0] [];
      RequestArrives s .a f0 3 ∧ s.port .a = .attached ∧ s.standby.park.get .a = false ∧
        s.holds .a 2 = false ∧ (rightOf s.agree.live .a 2 5#14).enough .shared = true ∧
        s.gate = ⟨false, false, false, false⟩ ∧ (s.bank 2).waiters = [] ∧
        (s.bank 2).mode = some .shared ∧ (s.bank 2).row = some 5#14 ∧
        (s.bank 2).state = .activating) := by
  unfold RequestArrives
  decide

/-- An OPEN that must queue: for the gate, behind a waiter, on a PRECHARGING bank, and on a bank held in
another mode. -/
theorem witness_OpenThatCannotBeGrantedQueues :
    (let s := ready.setGate ⟨false, true, false, false⟩;
      RequestArrives s .a f0 3 ∧ s.holds .a 2 = false ∧ s.waits .a 2 = false ∧
        s.gate ≠ ⟨false, false, false, false⟩) ∧
    (let s := opened .shared [holder .b 0] [waiter .c 1 9#14 .shared];
      RequestArrives s .a f0 3 ∧ s.holds .a 2 = false ∧ s.waits .a 2 = false ∧
        (s.bank 2).waiters ≠ []) ∧
    (let s := precharging [];
      RequestArrives s .a f0 3 ∧ s.port .a = .attached ∧ s.standby.park.get .a = false ∧
        s.holds .a 2 = false ∧ s.waits .a 2 = false ∧ (s.bank 2).state = .precharging ∧
        ∀ x ∈ (s.bank 2).holders, x.status = .active → x.overstayed = false) ∧
    (let s := opened .exclusive [holder .b 0] [];
      RequestArrives s .a f0 3 ∧ s.port .a = .attached ∧ s.standby.park.get .a = false ∧
        s.holds .a 2 = false ∧ s.waits .a 2 = false ∧
        (rightOf s.agree.live .a 2 5#14).enough .shared = true ∧ (s.bank 2).state ≠ .closed ∧
        (s.bank 2).mode ≠ some .shared ∧
        ∀ x ∈ (s.bank 2).holders, x.status = .active → x.overstayed = false) ∧
    (∀ l ∈ [[], [{ entry .read 1 with host := .b }]],
      let x : Holder := { holder .b 0 with deadline := none, overstayed := true };
      let s := (opened .exclusive [x] []).setList l;
      RequestArrives s .a f0 3 ∧ s.port .a = .attached ∧ s.standby.park.get .a = false ∧
        s.holds .a 2 = false ∧ s.waits .a 2 = false ∧ (s.bank 2).state ≠ .closed ∧
        BankListsSound (s.bank 2) ∧ overstays x = true ∧
        hasBegun s .b 2 = decide (l ≠ [])) := by
  unfold RequestArrives BankListsSound
  decide

/-- The boundaries of R12: bank 8, row 16384; a parked host; a holder; a host without right. -/
theorem witness_OpenRefusedInOrder :
    (RequestArrives ready .a f0 3 ∧ ready.port .a = .attached ∧ 7 < (8#8).toNat ∧
      16383 < (16384#16).toNat) ∧
    (let s := ready.setStandby { ready.standby with park := ⟨true, false, false, false⟩ };
      RequestArrives s .a f0 3 ∧ s.standby.park.get .a = true) ∧
    (let s := opened .exclusive [holder .a 0] [];
      RequestArrives s .a f0 3 ∧ s.standby.park.get .a = false ∧ s.holds .a 2 = true) ∧
    (let s := ready.setAgree { ready.agree with
        live := applyItem SharedConfig.reset (.clearWindow 0) };
      RequestArrives s .a f0 3 ∧ s.standby.park.get .a = false ∧ s.holds .a 2 = false ∧
        s.waits .a 2 = false ∧ (rightOf s.agree.live .a 2 5#14).enough .shared = false) := by
  unfold RequestArrives
  decide

/-- The reset window covers bank 7 and row 16383, and a window list without records covers nothing. -/
theorem witness_RightIsStrongestOfWindows :
    Right.readWrite = rightOf SharedConfig.reset .d 7 16383#14 ∧
      Right.none = rightOf (applyItem SharedConfig.reset (.clearWindow 0)) .d 7 16383#14 ∧
      SharedConfig.reset.windows[0] = some Window.reset ∧
      Window.reset.banks.getLsbD 7 = true ∧ Window.reset.rowLow.toNat ≤ (16383#14).toNat ∧
      (16383#14).toNat ≤ Window.reset.rowHigh.toNat := by decide

/-- Requests that reach no owner: from a LINKED and a LEAVING host, a malformed message, a tag in use. -/
theorem witness_MessagesThatReachNoOwner :
    (let s := ready.setPort .a .linked;
      RequestArrives s .a f0 3 ∧ s.port .a ≠ .attached ∧ s.port .a = .linked ∧
        1 ≤ [lightItem].length ∧ [lightItem].length ≤ 16 ∧ payload.length = (1#8).toNat) ∧
    (let s := ready.setPort .a .leaving;
      RequestArrives s .a f0 3 ∧ s.port .a ≠ .attached) ∧
    (ready.host .a).delivers f0 true = true ∧ (ready.host .a).delivers f0 false = true ∧
    (let s := tagged .a 3 .query ready;
      (s.host .a).delivers f0 true = true ∧ s.port .a ≠ .down ∧ (s.host .a).tags[3] ≠ none ∧
        Instr.wf (.write .a f0 3 2#8 1#8 0#16 payload) = true ∧
        Instr.wf (.propose .a f0 3 0#16 [lightItem]) = true) ∧
    payload.length ≠ (2#8).toNat ∧ 16 < (List.replicate 17 lightItem).length := by
  unfold RequestArrives
  decide

theorem lists_opened_a : BankListsSound ((opened .exclusive [holder .a 0] []).bank 2) := by
  unfold BankListsSound
  decide

/-- CLOSE by an ACTIVE holder: with nothing left, during the activation, and with a transfer left. -/
theorem witness_CloseByActiveHolder :
    (let s := opened .exclusive [holder .a 0] [];
      RequestArrives s .a f0 3 ∧ s.port .a = .attached ∧ (s.bank 2).holder .a = some (holder .a 0) ∧
        BankListsSound (s.bank 2) ∧ (s.bank 2).state = .opened ∧ noneLeft s .a 2) ∧
    (let s := activating .exclusive [granted .a 0] [];
      RequestArrives s .a f0 3 ∧ (s.bank 2).holder .a = some (granted .a 0) ∧
        BankListsSound (s.bank 2) ∧ (s.bank 2).state = .activating) ∧
    (let s := busy [entry .read 1];
      RequestArrives s .a f0 3 ∧ (s.bank 2).holder .a = some (holder .a 0) ∧
        BankListsSound (s.bank 2) ∧ (s.bank 2).state = .opened ∧
        entry .read 1 ∈ s.xfer.list) := by
  unfold RequestArrives BankListsSound noneLeft
  decide

/-- CLOSE of bank 8, by a stranger, by a waiter, by a REVOKING holder and by a CLOSING one. -/
theorem witness_CloseInOtherCases :
    (RequestArrives ready .a f0 3 ∧ ready.port .a = .attached ∧ 7 < (8#8).toNat ∧
      (ready.bank 2).holder .a = none ∧ (ready.bank 2).waiter .a = none) ∧
    (let s := tagged .a 5 .openLease
        (opened .exclusive [holder .b 0] [waiter .a 5 9#14 .shared]);
      RequestArrives s .a f0 3 ∧ (s.bank 2).holder .a = none ∧
        (s.bank 2).waiter .a = some (waiter .a 5 9#14 .shared) ∧
        (s.host .a).tags[5] = some .openLease) ∧
    (let x : Holder := { holder .a 0 with status := .revoking .refresh, deadline := none };
      let s := opened .exclusive [x] [];
      RequestArrives s .a f0 3 ∧ (s.bank 2).holder .a = some x ∧ BankListsSound (s.bank 2) ∧
        x.closeTag = none) ∧
    (let x : Holder := { holder .a 0 with status := .closing, deadline := none, closeTag := some 9 };
      let s := opened .exclusive [x] [];
      RequestArrives s .a f0 3 ∧ (s.bank 2).holder .a = some x) := by
  unfold RequestArrives BankListsSound
  decide

/-- Holders that leave: CLOSING without and with a CLOSE to answer, REVOKING for a lost host, for REFRESH
without and with a CLOSE to answer. -/
theorem witness_LeavingHolderIsRemoved :
    ∀ st ∈ [HolderStatus.closing, .revoking .hostLost, .revoking .refresh],
      ∀ ct ∈ [none, some (4 : Tag)],
      let x : Holder := { holder .a 0 with status := st, deadline := none, closeTag := ct };
      let s := tagged .a 4 .closeLease (opened .exclusive [x] []);
      (s.bank 2).holder .a = some x ∧ (s.bank 2).state = .opened ∧ noneLeft s .a 2 ∧
        (s.host .a).tags[4] = some .closeLease := by
  unfold noneLeft
  decide

/-- Queues on a CLOSED bank: an EXCLUSIVE head, and a SHARED head with one waiter of its row behind it and
one of another row after that. -/
theorem witness_QueueIsServedFromItsHead :
    (let s := ready.setBank 2 { BankRecord.reset with waiters := [waiter .a 1 5#14 .exclusive] };
      (s.bank 2).state = .closed ∧ s.gate = ⟨false, false, false, false⟩ ∧
        (s.bank 2).waiters = waiter .a 1 5#14 .exclusive :: [] ++ []) ∧
    (let s := ready.setBank 2 { BankRecord.reset with
        waiters := [waiter .a 1 5#14 .shared, waiter .b 1 5#14 .shared, waiter .c 1 6#14 .shared] };
      (s.bank 2).state = .closed ∧ s.gate = ⟨false, false, false, false⟩ ∧
        (s.bank 2).waiters =
          waiter .a 1 5#14 .shared :: [waiter .b 1 5#14 .shared] ++ [waiter .c 1 6#14 .shared] ∧
        GrantedTogether (waiter .a 1 5#14 .shared) [waiter .b 1 5#14 .shared]
          [waiter .c 1 6#14 .shared]) ∧
    (let s := (opened .exclusive [holder .a 0] [waiter .b 1 6#14 .shared]).setBank 3
        { BankRecord.reset with waiters := [waiter .b 2 6#14 .exclusive] };
      let g := landing .shortCal .account ((s.setGate ⟨false, true, false, false⟩).setAccount
        { ready.account with owed := 0, hold := true, calDue := true, offer := .shortCal });
      g.gate ≠ ⟨false, false, false, false⟩ ∧
        g.gate.put .refresh false = ⟨false, false, false, false⟩ ∧
        calm g g.agree.live.threshold g.account.owed ∧ g.account.owed ≤ 0 ∧
        (g.bank 3).state = .closed ∧ (g.bank 3).waiters ≠ [] ∧ (g.bank 2).state ≠ .closed) ∧
    ∀ s : State, Lands (landing .shortCal .account s) .shortCal .account := by
  unfold GrantedTogether calm presses
  exact ⟨by decide, ⟨by decide, by decide, by decide, .inr ⟨rfl, by decide, by
    intro w hw
    cases hw
    decide⟩⟩, by decide, fun s => ⟨s.now, Nat.le_refl _, rfl⟩⟩

/-- An activation due at 15 with two ACTIVE holders that wait for their answers. -/
theorem witness_ActivationAnswersActiveHolders :
    let s := atTime 15 (tagged .a 1 .openLease (tagged .b 2 .openLease
      (activating .shared [granted .a 1, granted .b 2] [])));
    (s.op 2).inFlight = .activate 5#14 ∧ due s.now (s.op 2).due = true ∧
      BankListsSound (s.bank 2) ∧
      ∀ x ∈ (s.bank 2).holders, x.status = .active ∧
        (s.host x.host).tags[x.grantTag.val] = some .openLease := by
  unfold BankListsSound
  decide

/-- An activation due at 15 whose only holder leaves, for each of its ways to leave, with and without a
CLOSE; and one with an ACTIVE holder, a CLOSING one and two REVOKING ones. -/
theorem witness_ActivationOfLeavingHolderPrecharges :
    (∀ st ∈ [HolderStatus.closing, .revoking .hostLost, .revoking .refresh],
      ∀ ct ∈ [none, some (4 : Tag)],
      let x : Holder := { granted .a 1 with status := st, closeTag := ct };
      let s := atTime 15 (tagged .a 1 .openLease (tagged .a 4 .closeLease
        (activating .exclusive [x] [])));
      (s.op 2).inFlight = .activate 5#14 ∧ due s.now (s.op 2).due = true ∧
        (s.bank 2).holders = [x] ∧ x.status ≠ .active ∧ noneLeft s x.host 2 ∧
        (s.host .a).tags[1] = some .openLease ∧ (s.host .a).tags[4] = some .closeLease) ∧
    (let s := atTime 15 (tagged .a 1 .openLease (tagged .b 1 .openLease (tagged .c 1 .openLease
        (activating .shared [granted .a 1, { granted .b 1 with status := .closing },
          { granted .c 1 with status := .revoking .config },
          { granted .d 1 with status := .revoking .hostLost }] []))));
      (s.op 2).inFlight = .activate 5#14 ∧ due s.now (s.op 2).due = true ∧
        BankListsSound (s.bank 2) ∧
        ∀ x ∈ (s.bank 2).holders, x.status ≠ .revoking .hostLost →
          (s.host x.host).tags[x.grantTag.val] = some .openLease ∧ x.closeTag = none) := by
  unfold noneLeft BankListsSound
  decide

/-- A precharge due at 15, with no waiter, with the gate held, and with waiters to serve. -/
theorem witness_PrechargeCompletionCloses :
    (let s := atTime 15 (precharging []);
      (s.op 2).inFlight = .precharge ∧ due s.now (s.op 2).due = true ∧ (s.bank 2).waiters = []) ∧
    (let s := atTime 15 ((precharging [waiter .a 1 5#14 .exclusive]).setGate
        ⟨false, true, false, false⟩);
      due s.now (s.op 2).due = true ∧ s.gate ≠ ⟨false, false, false, false⟩) ∧
    (let s := atTime 15 (precharging [waiter .a 1 5#14 .exclusive]);
      due s.now (s.op 2).due = true ∧ (s.bank 2).waiters = waiter .a 1 5#14 .exclusive :: [] ∧
        s.gate = ⟨false, false, false, false⟩) := by decide

/-- A hold deadline at 250 µs with and without a waiter, and a wait deadline at 7 µs. -/
theorem witness_LeaseDeadlinesExpire :
    (let s := atTime 250000 (opened .exclusive [holder .a 0] []);
      (s.bank 2).holder .a = some (holder .a 0) ∧ BankListsSound (s.bank 2) ∧
        due s.now (holder .a 0).deadline = true ∧ (s.bank 2).waiters = []) ∧
    (let s := atTime 250000 (opened .exclusive [holder .a 0] [waiter .b 1 9#14 .shared]);
      (s.bank 2).holder .a = some (holder .a 0) ∧ BankListsSound (s.bank 2) ∧
        due s.now (holder .a 0).deadline = true ∧ (s.bank 2).waiters ≠ [] ∧
        (s.bank 2).state = .opened ∧ noneLeft s .a 2) ∧
    (let w : Waiter := ⟨.b, 1, 9#14, .shared, some 7000⟩;
      let s := atTime 7000 (tagged .b 1 .openLease (opened .exclusive [holder .a 0] [w]));
      (s.bank 2).waiter .b = some w ∧ due s.now w.deadline = true ∧
        (s.host .b).tags[1] = some .openLease) := by
  unfold BankListsSound noneLeft
  decide

/-- A hold deadline that finds a begun transfer and two not begun. -/
theorem witness_RevocationCancelsUnbegunTransfers :
    let l := [{ entry .read 0 with tag := 2 }, { entry .write 0 with tag := 3 }];
    let s := tagged .a 2 .read (tagged .a 3 .write (atTime 250000
      ((opened .exclusive [holder .a 0] [waiter .b 1 9#14 .shared]).setList
        (entry .read 1 :: l))));
    l = s.xfer.list.filter (fun e => decide (e.host = .a ∧ e.bank = 2 ∧ e.issued = 0)) ∧
      (l.map fun e => e.tag).Nodup ∧
      (∀ e ∈ l, (s.host .a).tags[e.tag.val] = some (kindOf e.kind)) ∧
      (s.bank 2).holder .a = some (holder .a 0) ∧ BankListsSound (s.bank 2) ∧
      due s.now (holder .a 0).deadline = true ∧ (s.bank 2).waiters ≠ [] ∧
      entry .read 1 ∈ s.xfer.list ∧ 0 < (entry .read 1).issued := by
  unfold BankListsSound
  decide

/-- The rise of owed from 4, with and without a hold and a sweep, and a drain deadline, each with a holder
left. -/
theorem witness_MassRevocationReachesEveryHolder :
    (∀ o ∈ [StepOffer.offered, .inFlight],
      let s := atTime 6400 ((opened .exclusive [holder .a 0] []).setAccount
        { Account.reset with timer := some 6400, owed := 4 });
      let w := { s with
        seq := { s.seq with sweep := some (sweepAt 0 0#6 .retrain none), stepOffer := o } };
      (∀ b, BankListsSound (w.bank b)) ∧ due w.now w.account.timer = true ∧ w.account.owed = 4 ∧
        w.account.hold = false ∧ IsHeldSet w .a 4#8 ∧ w.port .a ≠ .down ∧ s.seq.sweep = none ∧
        w.seq.sweep ≠ none ∧ w.seq.stepOffer = o) ∧
    (let s := atTime 6400 ((opened .exclusive [holder .a 0] []).setAccount
        { Account.reset with timer := some 6400, owed := 4, hold := true });
      (∀ b, BankListsSound (s.bank b)) ∧ due s.now s.account.timer = true ∧
        s.account.owed = 4) ∧
    (let p : Proposal := { proposal [.retrain] ⟨false, true, true, true⟩ with
        ballotDeadline := none, drainDeadline := some 500000 };
      let s := atTime 500000 (agreeing .draining p (opened .exclusive [holder .a 0] []));
      (∀ b, BankListsSound (s.bank b)) ∧ s.agree.state = .draining ∧
        s.agree.proposal = some p ∧ due s.now p.drainDeadline = true) := by
  unfold BankListsSound IsHeldSet
  decide

/-- The transfer list with room, and full. -/
theorem witness_TransfersJoinListOrIntake :
    (let s := opened .exclusive [holder .a 0] [];
      RequestArrives s .a f0 3 ∧ s.port .a = .attached ∧ payload.length = (1#8).toNat ∧
        s.xfer.list.length < 64 ∧ s.xfer.intake = []) ∧
    PassesChecks (opened .exclusive [holder .a 0] []) (readOf .a 3 (bankByte 2) 1#8 1023#16) 2 5#14 ∧
    PassesChecks (opened .exclusive [holder .a 0] [])
      (writeOf .a 3 (bankByte 2) 1#8 1023#16 payload) 2 5#14 ∧
    (let s := busy (List.replicate 64 (entry .read 0));
      RequestArrives s .a f0 3 ∧ s.port .a = .attached ∧ 64 ≤ s.xfer.list.length) := by
  unfold RequestArrives PassesChecks
  refine ⟨by decide, ⟨rfl, rfl, ⟨holder .a 0, by decide⟩, by decide, by unfold InRange; decide⟩,
    ⟨rfl, rfl, ⟨holder .a 0, by decide⟩, by decide, by unfold InRange; decide⟩, by decide⟩

/-- A host without a lease, a write on a SHARED bank, and one block too many. -/
theorem witness_TransfersRefusedInOrder :
    RequestArrives ready .a f0 3 ∧ ready.port .a = .attached ∧ payload.length = (1#8).toNat ∧
    RefusedWith ready (readOf .a 3 8#8 1#8 0#16) .range ∧
    RefusedWith ready (readOf .a 3 2#8 1#8 0#16) .notHeld ∧
    RefusedWith (opened .shared [holder .a 0] []) (writeOf .a 3 2#8 1#8 0#16 payload) .mode ∧
    RefusedWith (opened .shared [holder .a 0] []) (readOf .a 3 2#8 2#8 1023#16) .range ∧
    (let s := tagged .a 3 .read (ready.setIntake [readOf .a 3 2#8 1#8 0#16]);
      s.xfer.list.length < 64 ∧ s.xfer.intake = readOf .a 3 2#8 1#8 0#16 :: [] ∧
        RefusedWith s (readOf .a 3 2#8 1#8 0#16) .notHeld ∧
        (s.host .a).tags[3] = some .read) ∧
    (let s := (opened .exclusive [holder .a 0] []).setIntake [readOf .a 3 2#8 1#8 1023#16];
      s.xfer.intake = readOf .a 3 2#8 1#8 1023#16 :: [] ∧
        PassesChecks s (readOf .a 3 2#8 1#8 1023#16) 2 5#14) := by
  unfold RequestArrives RefusedWith PassesChecks
  refine ⟨by decide, by decide, by decide, .inl (by decide), .inr ⟨2, rfl, .inl (by decide)⟩,
    .inr ⟨2, rfl, .inr ⟨holder .a 0, by decide, .inr (.inr ⟨rfl, .inl (by decide)⟩)⟩⟩,
    .inr ⟨2, rfl, .inr ⟨holder .a 0, by decide, .inr (.inr ⟨rfl, .inr
      ⟨rfl, by decide, by unfold InRange; decide⟩⟩)⟩⟩,
    ⟨by decide, rfl, .inr ⟨2, rfl, .inl (by decide)⟩, by decide⟩,
    ⟨rfl, rfl, by decide, ⟨holder .a 0, by decide⟩, by decide, by unfold InRange; decide⟩⟩

/-- The arbiter takes the burst of a READ, and the last burst of a WRITE. -/
theorem witness_BurstIssueCountsAndStores :
    ((busy [entry .read 0]).arbiter = some (.burst 0) ∧
      (busy [entry .read 0]).xfer.list[0]? = some (entry .read 0) ∧
      (busy [entry .read 0]).chan.loadedOrder = some .linearWrap) ∧
    (let s := tagged .a 1 .write (busy [entry .write 0]);
      s.arbiter = some (.burst 0) ∧ s.xfer.list[0]? = some (entry .write 0) ∧
        s.chan.loadedOrder = some .linearWrap ∧ (s.host .a).tags[1] = some .write) := by decide

/-- A burst in flight on bank 2, of a READ or a WRITE of so many bursts, for a holder of host A. -/
def inBurst (k : TransferKind) (n : Nat) (gone : Bool) (x : Holder) : State :=
  tagged .a 4 .closeLease (tagged .a 1 (kindOf k)
    ((atTime 100 ((opened .exclusive [x] []).setList
      [{ entry k 1 with bursts := n, cancelled := gone }])).setOp 2
      { BankOp.reset with
        openRow := some 5#14, due := some 100
        inFlight := match k with | .read => .readBurst | .write => .writeBurst }))

/-- The last burst and the one before it, for an ACTIVE, a CLOSING and a REVOKING holder, with a CLOSE to
answer and without, of a transfer that is cancelled or not. -/
theorem witness_BurstCompletionDeliversData :
    (∀ k ∈ [TransferKind.read, .write], ∀ n ∈ [1, 2], ∀ gone ∈ [true, false],
      ∀ st ∈ [HolderStatus.active, .closing, .revoking .refresh, .revoking .hostLost],
      ∀ ct ∈ [none, some (4 : Tag)],
      let x : Holder := { holder .a 0 with status := st, closeTag := ct };
      let s := inBurst k n gone x;
      s.xfer.list[0]? = some { entry k 1 with bursts := n, cancelled := gone } ∧
        (entry k 1).completed < (entry k 1).issued ∧ s.chan.loadedOrder = some .linearWrap ∧
        due s.now (s.op 2).due = true ∧ (s.bank 2).holder .a = some x ∧
        (s.bank 2).state = .opened ∧ s.xfer.list.eraseIdx 0 = [] ∧
        (s.host .a).tags[1] = some (kindOf k) ∧ (s.host .a).tags[4] = some .closeLease) ∧
    ((inBurst .read 1 false (holder .a 0)).op 2).inFlight = .readBurst ∧
    ((inBurst .write 1 false (holder .a 0)).op 2).inFlight = .writeBurst := by decide

/-- One offer, on a channel that is free, with no refresh left to bring forward (R94). -/
def offering (st : ChannelState) (o : Offer) : State :=
  ((ready.setGate ⟨false, true, false, true⟩).setChan
    { ready.chan with state := st, offers := [o] }).setAccount { ready.account with owed := -4 }

/-- Each operation is taken by the arbiter in some state, and each moment comes. -/
theorem witness_IssuesPutOperationsInFlight :
    (let s := atTime 5 (ready.setOp 1 { BankOp.reset with setupEnd := some 5 });
      due s.now (s.op 1).setupEnd = true ∧ (s.op 1).setupDone = false) ∧
    (let s := atTime 5 (ready.setChan { ready.chan with slotEnd := some 5 });
      due s.now s.chan.slotEnd = true) ∧
    (let s := atTime 5 (ready.setOp 1 { BankOp.reset with recoveryEnd := some 5 });
      due s.now (s.op 1).recoveryEnd = true ∧ (s.op 1).recoveryDone = false) ∧
    (let s := (ready.setBank 2 ⟨.activating, some 5#14, some .exclusive, [granted .a 1], []⟩).setOp 2
        { BankOp.reset with pending := .activate 5#14, setupDone := true };
      s.arbiter = some (.activate 2) ∧ (s.op 2).pending = .activate 5#14) ∧
    ((ready.setBank 2 ⟨.precharging, some 5#14, none, [], []⟩).setOp 2
      { BankOp.reset with pending := .precharge, setupDone := true, openRow := some 5#14 }).arbiter =
        some (.precharge 2) ∧
    (∀ o ∈ [⟨.refresh, .account⟩, ⟨.shortCal, .account⟩, ⟨.standbyEnter, .standby⟩,
        ⟨.modeLoad (.burst .xorWrap), .agreement⟩, ⟨.trainStep 3 63#6, .sequencer⟩],
      (offering .active o).arbiter = some (.maint o)) ∧
    (∀ o ∈ [⟨.longCal, .sequencer⟩, ⟨.modeLoad .latency, .sequencer⟩,
        (⟨.trainStep 0 0#6, .sequencer⟩ : Offer)],
      (offering .uninit o).arbiter = some (.maint o)) ∧
    (offering .selfRefresh ⟨.standbyExit, .standby⟩).arbiter =
      some (.maint ⟨.standbyExit, .standby⟩) := by decide

/-- A burst on bank 2 that may issue, and a PRECHARGE of bank 5 whose set-up ends now. -/
def contested : State :=
  (((busy [entry .read 0]).setBank 5 ⟨.precharging, some 1#14, none, [], []⟩).setOp 5
    { BankOp.reset with openRow := some 1#14, pending := .precharge, setupEnd := some 0 })

/-- R81: the burst that was offered first is taken first, and the PRECHARGE that ranks before it waits. -/
theorem test_first_offer_keeps_its_place :
    contested.arbiter = some (.burst 0) ∧
      ((keepPlace contested).setOp 5 { contested.op 5 with setupDone := true }).arbiter =
        some (.burst 0) ∧
      (contested.setOp 5 { contested.op 5 with setupDone := true }).arbiter =
        some (.precharge 5) := by decide

/-- R81: of two set-ups that end in one moment, the higher bank's first, the higher bank is taken first. -/
theorem test_setup_ends_in_order :
    let s := (ready.setOp 2 { BankOp.reset with
        openRow := some 1#14, pending := .precharge, setupEnd := some 0 }).setOp 5
      { BankOp.reset with
        openRow := some 1#14, pending := .precharge, setupEnd := some 0, setupDone := true };
    (∃ t, exec (.setupEnd 2) s = .next t ∧ t.arbiter = some (.precharge 5)) :=
  ⟨_, rfl, by decide⟩

/-- What the arbiter is asked of: a busy bus, each kind of choice (above), a choice with SETUP_END to come,
and nothing eligible. -/
theorem witness_ArbiterFollowsRanks :
    (ready.setChan { ready.chan with slotEnd := some 2 }).chan.slotEnd ≠ none ∧
    contested.arbiter = some (.burst 0) ∧ contested.chan.first = none ∧
    (let s := busy [];
      s.arbiter = none ∧ s.chan.maint = none ∧ s.chan.slotEnd = none ∧ s.reactionOpen = false ∧
        s.chan.state = .active) := by decide

/-- INTERVAL_EXPIRY at each owed count that changes the rule. -/
theorem witness_IntervalExpiryRaisesOwed :
    (∀ owed ∈ [-4, 0, (1 : Int)],
      let s := atTime 6400 (ready.setAccount { ready.account with owed := owed });
      due s.now s.account.timer = true ∧ s.account.owed < 6 ∧ s.account.owed ≠ 4 ∧
        calm s s.agree.live.threshold (s.account.owed + 1)) ∧
    (let s := atTime 6400 (ready.setAccount { ready.account with owed := 2 });
      due s.now s.account.timer = true ∧ s.account.owed < 6 ∧ s.account.owed ≠ 4 ∧
        s.account.hold = false ∧ s.seq.sweep = none ∧
        presses s s.agree.live.threshold (s.account.owed + 1)) ∧
    (∀ o ∈ [StepOffer.offered, .inFlight],
      let s := { atTime 6400 (ready.setAccount { ready.account with owed := 2 }) with
        seq := { ready.seq with sweep := some (sweepAt 0 0#6 .retrain none), stepOffer := o } };
      due s.now s.account.timer = true ∧ s.account.owed < 6 ∧ s.account.owed ≠ 4 ∧
        s.account.hold = false ∧ s.seq.sweep ≠ none ∧ s.seq.stepOffer = o ∧
        presses s s.agree.live.threshold (s.account.owed + 1)) ∧
    (let s := { atTime 6400 (ready.setAccount { ready.account with owed := 5, hold := true }) with
        seq := { ready.seq with
          sweep := some (sweepAt 0 0#6 .retrain none), stepOffer := .offered } };
      due s.now s.account.timer = true ∧ s.account.owed < 6 ∧ s.account.owed ≠ 4 ∧
        s.account.hold = true ∧ s.seq.sweep ≠ none ∧ s.seq.stepOffer = .offered ∧
        presses s s.agree.live.threshold (s.account.owed + 1)) ∧
    (let s := atTime 6400 (ready.setAccount { ready.account with owed := 6, missed := 255 });
      due s.now s.account.timer = true ∧ 6 ≤ s.account.owed) := by
  unfold calm presses
  decide

theorem witness_AccountOffersAndCompletions :
    (∀ owed ∈ [-3, 0, (1 : Int)], ∀ cal ∈ [true, false],
      let s := ready.setAccount { ready.account with owed := owed, calDue := cal };
      s.account.timer ≠ none ∧ s.account.offer = .none ∧ (∀ b, (s.bank b).state = .closed) ∧
        s.account.calDue = cal ∧ -4 < s.account.owed ∧ noWaiters s ∧ s.xfer.list = []) ∧
    (∀ owed ∈ [-3, (1 : Int)], ∀ count ∈ [126, 127],
      let s := landing .refresh .account (ready.setAccount
        { ready.account with owed := owed, sinceCal := count, offer := .refresh });
      calm s s.agree.live.threshold (s.account.owed - 1) ∧ s.account.calDue = false ∧
        s.account.hold = false ∧ noWaiters s) ∧
    (let s := landing .refresh .account (ready.setAccount
        { ready.account with owed := 2, hold := true, offer := .refresh });
      calm s s.agree.live.threshold (s.account.owed - 1) ∧ s.account.sinceCal ≠ 127 ∧
        s.account.calDue = false ∧ s.account.hold = true ∧ 2 ≤ s.account.owed) ∧
    (∀ owed ∈ [1, (3 : Int)], ∀ count ∈ [126, 127],
      let w := sweepAt 2 11#6 .retrain none;
      let s := landing .refresh .account ({ ready with
        seq := { ready.seq with sweep := some w, yielding := true } }.setAccount
          { ready.account with owed := owed, sinceCal := count, hold := true, offer := .refresh });
      s.seq.sweep = some w ∧ s.seq.yielding = true ∧ s.account.calDue = false ∧
        s.account.hold = true ∧ noWaiters s ∧
        ¬presses s s.agree.live.threshold (s.account.owed - 1)) ∧
    (let s := landing .shortCal .account (ready.setAccount
        { ready.account with owed := 1, hold := true, calDue := true, offer := .shortCal });
      calm s s.agree.live.threshold s.account.owed ∧ s.account.hold = true ∧
        1 ≤ s.account.owed) ∧
    (let s := landing .shortCal .account (ready.setAccount
        { ready.account with owed := 0, hold := true, calDue := true, offer := .shortCal });
      calm s s.agree.live.threshold s.account.owed ∧ s.account.owed ≤ 0 ∧ noWaiters s) ∧
    ∀ (s : State) (op : MaintOp) (by_ : Requester), Lands (landing op by_ s) op by_ := by
  unfold calm presses noWaiters
  exact ⟨by decide, by decide, by decide, by decide, by decide, by decide,
    fun s op by_ => ⟨s.now, Nat.le_refl _, rfl⟩⟩

/-- The device in a start-up phase, at the end of its time. -/
def phase (p : Phase) : State :=
  { State.reset with
    now := 1600, resetN := true
    seq := { Sequencer.reset with device := .starting p, phaseEnd := some 1600 } }

theorem witness_StartUpPhasesFollow :
    State.reset.resetN = false ∧
    (∀ p ∈ [Phase.hold, .settle, .lock],
      (phase p).seq.device = .starting p ∧ due (phase p).now (phase p).seq.phaseEnd = true) ∧
    (let s := phase .lock;
      s.seq.sweep = none ∧ s.account.owed = 0 ∧ 1 ≤ s.agree.live.threshold ∧
        s.account.offer = .none ∧ s.account.calDue = false ∧
        (∀ b, (s.bank b).state = .closed) ∧ noWaiters s ∧ s.xfer.list = []) := by
  unfold noWaiters
  decide

/-- A maintenance operation of `landing` lands. -/
theorem lands_landing (op : MaintOp) (by_ : Requester) (s : State) :
    Lands (landing op by_ s) op by_ := ⟨s.now, Nat.le_refl _, rfl⟩

/-- The mode loads of start-up by number, the one of an apply, and LONG_CAL. -/
theorem witness_LoadAndCalibrationCompletions :
    (∀ n ∈ [0, 1, 2], ∃ m next, Lands (landing (.modeLoad m) .sequencer
        { ready with seq := { ready.seq with modeLoadsDone := n } }) (.modeLoad m) .sequencer ∧
      [ModeSetting.latency, .burst .linearWrap, .drive, .selfRefresh][n + 1]? = some next) ∧
    (let s := landing (.modeLoad .selfRefresh) .sequencer
        { ready with seq := { ready.seq with modeLoadsDone := 3 } };
      Lands s (.modeLoad .selfRefresh) .sequencer ∧ s.seq.modeLoadsDone = 3) ∧
    Lands (landing (.modeLoad (.burst .xorWrap)) .agreement ready)
      (.modeLoad (.burst .xorWrap)) .agreement ∧
    (let s := landing .longCal .sequencer ready;
      Lands s .longCal .sequencer ∧ s.seq.lanes[0] = LaneRecord.reset ∧
        ¬presses s s.agree.live.threshold s.account.owed) := by
  refine ⟨?_, ⟨lands_landing _ _ _, by decide⟩, lands_landing _ _ _,
    lands_landing _ _ _, by decide, by unfold presses; decide⟩
  intro n hn
  simp only [List.mem_cons, List.not_mem_nil, or_false] at hn
  obtain rfl | rfl | rfl := hn
  · exact ⟨.latency, _, lands_landing _ _ _, rfl⟩
  · exact ⟨.latency, _, lands_landing _ _ _, rfl⟩
  · exact ⟨.latency, _, lands_landing _ _ _, rfl⟩

/-- A step at delay 62 and at delay 63, with and without a transition, on lanes 0 and 3. -/
theorem witness_StartUpTrainingStep :
    (∀ lane ∈ [(0 : Lane), 3], ∀ d ∈ [62#6, 63#6],
      let w := sweepAt lane d .startUp (some false);
      let s := training w;
      s.seq.sweep = some w ∧ s.seq.lanes[lane.val] = ⟨0#6, .untrained, 1⟩ ∧
        ¬Transition false w ∧ Transition true w ∧ noWaiters s ∧
        (false = true ↔ presses s s.agree.live.threshold s.account.owed)) ∧
    (∀ w h, (training w).port h ≠ .joining) ∧
    (∀ w, Lands (training w) (.trainStep w.lane w.delay) .sequencer) ∧
    (let s := (training (sweepAt 0 5#6 .startUp none)).setAccount
        { ready.account with owed := 3 };
      (true = true ↔ presses s s.agree.live.threshold s.account.owed)) ∧
    (let s := { training (sweepAt 0 63#6 .startUp none) with
        seq := { (training (sweepAt 0 63#6 .startUp none)).seq with
          lanes := Vector.replicate 4 ⟨0#6, .untrained, 3⟩ } };
      3 ≤ s.seq.lanes[0].attempts ∧ s.seq.lanes[0].attempts ≤ 3) := by
  refine ⟨?_, fun w h => by cases h <;> exact (by decide : PortState.linked ≠ .joining),
    fun w => lands_landing _ _ _, by unfold presses; decide, by decide⟩
  unfold presses noWaiters Transition
  decide

/-- The device retraining, one step completing now. -/
def retraining (w : Sweep) (attempts : Nat) : State :=
  agreeing .applying { proposal [.retrain] ⟨false, true, true, true⟩ with ballotDeadline := none }
    (landing (.trainStep w.lane w.delay) .sequencer
      { ready with
        gate := ⟨false, false, true, false⟩
        seq := { ready.seq with
          lanes := Vector.replicate 4 ⟨9#6, .trained, 1⟩
          staged := some (Vector.replicate 4 ⟨some 7#6, .trained, attempts⟩)
          sweep := some w, stepOffer := .inFlight } })

theorem witness_RetrainingStep :
    (∀ lane ∈ [(0 : Lane), 2, 3],
      let w := sweepAt lane 8#6 .retrain (some false);
      let s := retraining w 1;
      s.seq.sweep = some w ∧ w.kind = .retrain ∧ w.lane = lane ∧
        s.seq.staged = some (Vector.replicate 4 ⟨some 7#6, .trained, 1⟩) ∧
        Transition true w ∧ ¬Transition false w ∧ w.delay ≠ 63#6 ∧
        s.seq.lanes[lane.val].delay = 9#6 ∧
        (false = true ↔ presses s s.agree.live.threshold s.account.owed) ∧
        s.agree.staged.burstOrder = s.agree.live.burstOrder) ∧
    (∀ w n, Lands (retraining w n) (.trainStep w.lane w.delay) .sequencer) ∧
    (let s := (retraining (sweepAt 1 8#6 .retrain none) 1).setAccount
        { ready.account with owed := 3 };
      (true = true ↔ presses s s.agree.live.threshold s.account.owed)) ∧
    (let w := sweepAt 1 63#6 .retrain none;
      let s := retraining w 2;
      s.seq.sweep = some w ∧ ¬Transition false w ∧ w.delay = 63#6 ∧
        (Vector.replicate 4 (⟨some 7#6, .trained, 2⟩ : StagedLane))[1].attempts < 3) ∧
    (let w := sweepAt 1 63#6 .retrain none;
      let s := retraining w 3;
      s.seq.sweep = some w ∧ ¬Transition false w ∧ w.delay = 63#6 ∧
        s.agree.proposal = some
          { proposal [.retrain] ⟨false, true, true, true⟩ with ballotDeadline := none } ∧
        noWaiters s) := by
  refine ⟨?_, fun w n => ⟨0, Nat.le_refl _, rfl⟩, ?_, ?_, ?_⟩
  all_goals
    try unfold Transition
    try unfold presses
    try unfold noWaiters
    decide

/-- One raw item of each kind at the edge of its range. -/
theorem witness_ChangeItemsReadAndCarriedOut :
    ∀ x ∈ [(⟨1#8, 15#8, 1#8, 0xAA#8, 16383#16, 16383#16⟩ : RawItem), ⟨2#8, 15#8, 0#8, 0#8, 0#16, 0#16⟩,
        ⟨3#8, 3#8, 0#8, 0#8, 0#16, 0#16⟩, ⟨4#8, 0#8, 0#8, 0#8, 1#16, 0#16⟩,
        ⟨5#8, 0#8, 0#8, 0#8, 4#16, 0#16⟩, ⟨6#8, 0#8, 0#8, 0#8, 255#16, 0#16⟩,
        ⟨7#8, 0#8, 0#8, 0#8, 0xFFFF#16, 0#16⟩, ⟨8#8, 0#8, 0#8, 0#8, 1#16, 0#16⟩,
        ⟨9#8, 0#8, 0#8, 0#8, 0#16, 0#16⟩],
      (parseItem x).isSome = true := by decide

/-- Host A alone attached. -/
def alone (s : State) : State := ((s.setPort .b .linked).setPort .c .down).setPort .d .leaving

theorem witness_ProposeIsRefusedOrPosted :
    (RequestArrives ready .a f0 3 ∧ ready.port .a = .attached ∧ 1 ≤ [lightItem].length ∧
      [lightItem].length ≤ 16 ∧ ready.standby.park.get .a = false ∧ ready.agree.state = .idle ∧
      0#16 = ready.agree.epoch ∧ 1#16 ≠ ready.agree.epoch ∧
      [lightItem].map parseItem = [ChangeItem.setHoldLimit .b 100#16].map some ∧
      ready.port .b = .attached) ∧
    (List.replicate 16 lightItem).length ≤ 16 ∧
    parseItem ⟨10#8, 0#8, 0#8, 0#8, 0#16, 0#16⟩ = none ∧
    (let s := ready.setStandby { ready.standby with park := ⟨true, false, false, false⟩ };
      RequestArrives s .a f0 3 ∧ s.standby.park.get .a = true) ∧
    (let s := agreeing .ballot (proposal [.retrain] ⟨false, false, false, false⟩) ready;
      RequestArrives s .a f0 3 ∧ s.agree.state ≠ .idle) ∧
    (let s := alone (opened .exclusive [holder .a 0] []);
      RequestArrives s .a f0 3 ∧ s.port .a = .attached ∧ s.agree.state = .idle ∧
        0#16 = s.agree.epoch ∧ s.port .b ≠ .attached ∧ s.port .c ≠ .attached ∧
        s.port .d ≠ .attached ∧ (s.bank 2).state ≠ .closed ∧
        calm s (applyItem s.agree.live (.setThreshold 1)).threshold s.account.owed) ∧
    (∀ b, ((alone ready).bank b).state = .closed) := by
  unfold RequestArrives calm presses
  decide

/-- A ballot of host A in which B has accepted. -/
def ballot : State :=
  agreeing .ballot (proposal [.setHoldLimit .b 100#16] ⟨false, true, false, false⟩) ready

/-- VOTE by each host of the ballot, and the ballot deadline at 20 ms. -/
theorem witness_VotesAndBallotDeadline :
    (∀ h : HostId, RequestArrives ballot h f0 3 ∧ ballot.port h = .attached) ∧
    ready.agree.state ≠ .ballot ∧ ballot.agree.state = .ballot ∧ ballot.gate.config = false ∧
    (let p := proposal [.setHoldLimit .b 100#16] ⟨false, true, false, false⟩;
      ballot.agree.proposal = some p ∧ p.electorate.get .a = false ∧
        p.electorate.get .b = true ∧ p.accepted.get .b = true ∧ p.accepted.get .c = false ∧
        p.accepted.set .c true ≠ p.electorate ∧
        due (atTime 20000000 ballot).now p.ballotDeadline = true) := by
  refine ⟨fun h => ?_, by decide⟩
  unfold RequestArrives
  cases h <;> decide

/-- The last vote of a light and of a heavy proposal, the latter with a lease held. -/
theorem witness_UnanimousBallotActs :
    (let p := proposal [.setHoldLimit .b 100#16] ⟨false, true, true, false⟩;
      let s := agreeing .ballot p ready;
      RequestArrives s .d f0 3 ∧ s.port .d = .attached ∧ s.agree.state = .ballot ∧
        s.agree.proposal = some p ∧ p.electorate.get .d = true ∧ p.accepted.get .d = false ∧
        p.accepted.set .d true = p.electorate ∧ p.heavy = false ∧
        calm s s.agree.staged.threshold s.account.owed) ∧
    (let p := proposal [.retrain] ⟨false, true, true, false⟩;
      let s := agreeing .ballot p (opened .exclusive [holder .a 0] []);
      RequestArrives s .d f0 3 ∧ s.port .d = .attached ∧ s.agree.proposal = some p ∧
        p.accepted.set .d true = p.electorate ∧ p.heavy = true ∧ (s.bank 2).state ≠ .closed) ∧
    (let p := proposal [.setThreshold 1] ⟨false, true, true, false⟩;
      let s := agreeing .ballot p (ready.setAccount { ready.account with owed := 1 });
      RequestArrives s .d f0 3 ∧ s.agree.proposal = some p ∧
        p.accepted.set .d true = p.electorate ∧ p.heavy = false ∧ s.account.hold = false ∧
        s.seq.sweep = none ∧ presses s s.agree.staged.threshold s.account.owed) ∧
    (let p := proposal [.retrain] ⟨false, true, true, false⟩;
      let s := agreeing .ballot p ready;
      RequestArrives s .d f0 3 ∧ s.agree.proposal = some p ∧
        p.accepted.set .d true = p.electorate ∧ p.heavy = true ∧
        ∀ b, (s.bank b).state = .closed) := by
  unfold RequestArrives calm presses
  decide

/-- A proposal of some items that drains, with every bank CLOSED. -/
def draining (items : List ChangeItem) : State :=
  (agreeing .draining { proposal items ⟨false, true, true, true⟩ with
    ballotDeadline := none, drainDeadline := some 500000 } ready).setGate
    ⟨false, false, true, false⟩

/-- A proposal at its commit. -/
def committing : State :=
  let s := agreeing .applying { proposal [.clearWindow 0] ⟨false, true, true, true⟩ with
    ballotDeadline := none } ready;
  (s.setAgree { s.agree with applyStep := some .commit }).setGate ⟨false, false, true, false⟩

theorem witness_ApplyBeginsAndCommits :
    (∀ items ∈ [[ChangeItem.clearWindow 3], [.setBurstOrder .xorWrap], [.retrain]],
      (draining items).agree.state = .draining ∧
        (∀ b, ((draining items).bank b).state = .closed) ∧
        (draining items).agree.proposal ≠ none) ∧
    ChangeItem.retrain ∉ [ChangeItem.clearWindow 3] ∧
    ChangeItem.retrain ∉ [ChangeItem.setBurstOrder .xorWrap] ∧
    (let s := draining [.clearWindow 3];
      s.agree.staged.burstOrder = s.agree.live.burstOrder) ∧
    (let s := draining [.setBurstOrder .xorWrap];
      s.agree.staged.burstOrder ≠ s.agree.live.burstOrder) ∧
    (let s := draining [.retrain]; ¬presses s s.agree.live.threshold s.account.owed) ∧
    committing.agree.state = .applying ∧ committing.agree.applyStep = some .commit ∧
    committing.agree.proposal ≠ none ∧ noWaiters committing ∧
    calm committing committing.agree.staged.threshold committing.account.owed := by
  unfold noWaiters calm presses
  decide

/-- A waiter without right at the commit, with the gate then empty, and with REFRESH left in it. -/
theorem witness_ApplyBeginsAndCommits_waiter :
    ∀ refresh ∈ [true, false],
      let s := tagged .b 1 .openLease ((committing.setBank 2
        { BankRecord.reset with waiters := [waiter .b 1 5#14 .shared] }).setGate
          ⟨false, refresh, true, false⟩);
      BankListsSound (s.bank 2) ∧ s.gate.config = true ∧
        decide (s.gate.put .config false = ⟨false, false, false, false⟩) = !refresh ∧
        (rightOf s.agree.staged .b 2 5#14).enough .shared = false ∧
        (s.host .b).tags[1] = some .openLease := by
  unfold BankListsSound
  decide

/-- Host A parked, in a standby state. -/
def parked (st : StandbyState) : State :=
  let s := ready.setStandby ⟨⟨true, false, false, false⟩, st, false⟩;
  match st with
  | .running => s
  | .entering | .exiting => s.setGate ⟨false, false, false, true⟩
  | .selfRefresh => (s.setGate ⟨false, false, false, true⟩).setChan
      { ready.chan with state := .selfRefresh, cke := false }

theorem witness_ParkAndUnpark :
    (RequestArrives ready .a f0 3 ∧ ready.port .a = .attached ∧
      (∀ b, ready.holds .a b = false ∧ ready.waits .a b = false) ∧ ready.xfer.list = [] ∧
      ready.xfer.intake = [] ∧ ready.agree.state = .idle ∧ ready.standby.park.get .a = false) ∧
    (let s := opened .exclusive [holder .a 0] [];
      RequestArrives s .a f0 3 ∧ s.holds .a 2 = true) ∧
    (RequestArrives ballot .a f0 3 ∧ ballot.agree.state ≠ .idle ∧
      ballot.agree.proposal.map (fun p => p.proposer) = some .a) ∧
    (∀ st ∈ [StandbyState.running, .entering, .selfRefresh, .exiting],
      let s := parked st;
      RequestArrives s .a f0 3 ∧ s.port .a = .attached ∧ s.standby.park.get .a = true ∧
        s.standby.state = st ∧ s.inFlight .standbyEnter = false ∧
        s.offered .standbyExit = false ∧ noWaiters s) ∧
    (let s := landing .standbyEnter .standby (parked .entering);
      RequestArrives s .a f0 3 ∧ s.standby.state = .entering ∧ s.inFlight .standbyEnter = true ∧
        s.offered .standbyExit = false) := by
  unfold RequestArrives noWaiters
  decide

theorem witness_StandbyEntryAndExit :
    (let s := ready.setStandby ⟨PerHost.const true, .running, false⟩;
      s.standby.state = .running ∧ s.agree.state = .idle ∧ s.seq.device = .ready ∧
        s.chan.state ≠ .maintenance ∧
        ∀ h, s.standby.park.get h = true ∧ s.port h ≠ .joining) ∧
    (let s := parked .entering;
      s.standby.state = .entering ∧ (∀ b, (s.bank b).state = .closed) ∧
        ∀ o ∈ maintOps s, o.op ≠ .standbyEnter) ∧
    (∀ x ∈ [true, false],
      let s := landing .standbyEnter .standby
        ((parked .entering).setStandby ⟨⟨true, false, false, false⟩, .entering, x⟩);
      s.gate.standby = true ∧ s.standby.exitPending = x ∧ s.offered .standbyExit = false ∧
        ∀ o ∈ s.chan.offers, o.op = .standbyExit → o.by_ ≠ .account) ∧
    (let s := landing .standbyExit .standby (parked .exiting);
      noWaiters s ∧ s.seq.sweep = none ∧ s.account.owed < s.agree.live.threshold ∧
        s.account.owed < 5) := by
  refine ⟨⟨by decide, by decide, by decide, by decide, fun h => by cases h <;> decide⟩, ?_⟩
  unfold noWaiters maintOps
  decide

/-- Host A LINKED, the others ATTACHED. -/
def linked (s : State) : State := s.setPort .a .linked

theorem witness_JoinWaitsOrCompletes :
    (RequestArrives ready .a f0 3 ∧ ready.port .a ≠ .linked) ∧
    (let s := linked ready;
      RequestArrives s .a f0 3 ∧ s.port .a = .linked ∧ s.standby.state = .running ∧
        s.seq.device = .ready ∧ s.agree.state = .idle ∧
        ∀ i : Tag, (s.host .a).tags[i.val] ≠ some .join) ∧
    (∀ g, (linked ready).port g ≠ .joining) ∧
    (∀ d ∈ [DeviceState.failed, .starting .train],
      let s := { linked ready with seq := { ready.seq with device := d } };
      RequestArrives s .a f0 3 ∧ s.port .a = .linked ∧ s.seq.device = d) ∧
    (∀ st ∈ [StandbyState.exiting, .selfRefresh],
      let s := linked (parked st);
      RequestArrives s .a f0 3 ∧ s.port .a = .linked ∧ s.standby.state = st ∧
        s.seq.device ≠ .failed ∧ s.offered .standbyExit = false) ∧
    (let s := linked (parked .entering);
      RequestArrives s .a f0 3 ∧ s.port .a = .linked ∧ s.standby.state = .entering ∧
        s.inFlight .standbyEnter = false ∧ noWaiters s ∧ s.seq.device = .ready ∧
        s.agree.state = .idle ∧ ∀ i : Tag, (s.host .a).tags[i.val] ≠ some .join) ∧
    (∀ g, (linked (parked .entering)).port g ≠ .joining) ∧
    (let s := linked (landing .standbyEnter .standby (parked .entering));
      RequestArrives s .a f0 3 ∧ s.standby.state = .entering ∧
        s.inFlight .standbyEnter = true ∧ s.offered .standbyExit = false) := by
  unfold RequestArrives noWaiters
  refine ⟨by decide, by decide, fun g => by cases g <;> decide, by decide, by decide, by decide,
    fun g => by cases g <;> decide, by decide⟩

/-- Hosts A and C JOINING together with tags 3 and 15. -/
def joining : State :=
  tagged .a 3 .join (tagged .c 15 .join ((ready.setPort .a .joining).setPort .c .joining))

theorem witness_JoinCompleteAttachesEveryJoiningHost :
    joining.seq.device = .ready ∧ joining.agree.state = .idle ∧
      joining.standby.state = .running ∧ (∃ g, joining.port g = .joining) ∧
      ∀ g, joining.port g = .joining → OnlyTag joining g .join (if g = .a then 3 else 15) := by
  refine ⟨by decide, by decide, by decide, ⟨.a, by decide⟩, fun g => ?_⟩
  unfold OnlyTag
  cases g <;> decide

theorem witness_LeaveAndItsCompletion :
    (RequestArrives ready .a f0 3 ∧ ready.port .a = .attached ∧
      (∀ b, ready.holds .a b = false ∧ ready.waits .a b = false) ∧ ready.xfer.list = [] ∧
      ready.xfer.intake = [] ∧ ready.agree.state = .idle ∧
      ∀ i : Tag, (ready.host .a).tags[i.val] ≠ some .leave) ∧
    (let s := opened .exclusive [holder .a 0] [];
      RequestArrives s .a f0 3 ∧ s.port .a = .attached) ∧
    (let s := tagged .a 3 .leave (ready.setPort .a .leaving);
      s.port .a = .leaving ∧ (∀ b, s.holds .a b = false ∧ s.waits .a b = false) ∧
        s.xfer.list = [] ∧ s.xfer.intake = [] ∧ OnlyTag s .a .leave 3) := by
  unfold RequestArrives OnlyTag
  decide

/-- The silence deadline at 2 ms, for a LINKED, a JOINING, an ATTACHED and a LEAVING host. -/
theorem witness_LostHostIsTornDown :
    (∀ p ∈ [PortState.linked, .joining, .attached, .leaving],
      let s := atTime 2000000 (ready.setPort .a p);
      (s.link .a).state = .up ∧ due s.now (s.link .a).silence = true ∧ s.port .a = p ∧
        s.agree.state = .idle) ∧
    ∀ s ∈ [atTime 2000000 ballot, atTime 2000000 (draining [.retrain])],
      (s.link .b).state = .up ∧ due s.now (s.link .b).silence = true ∧ s.port .b = .attached ∧
        s.agree.state ≠ .idle := by decide

/-- A LEAVE with a waiter and a holder left: on an OPEN bank with and without a transfer, and during an
activation. -/
theorem witness_LeaveAndItsCompletion_left :
    (let s := tagged .a 5 .openLease (opened .shared [holder .b 0] [waiter .a 5 9#14 .shared]);
      RequestArrives s .a f0 3 ∧ s.port .a = .attached ∧ BankListsSound (s.bank 2) ∧
        (s.bank 2).waiter .a = some (waiter .a 5 9#14 .shared) ∧
        (s.host .a).tags[5] = some .openLease ∧ s.agree.state ≠ .ballot) ∧
    ∀ s ∈ [busy [], busy [entry .read 0], activating .shared [granted .a 0, granted .b 1] []],
      RequestArrives s .a f0 3 ∧ s.port .a = .attached ∧ BankListsSound (s.bank 2) ∧
        s.holds .a 2 = true := by
  unfold RequestArrives BankListsSound
  decide

/-- R56: the completion that takes an entry out of a full list lets the request in the intake in. -/
theorem test_completion_fills_the_list :
    let s := ((busy ((entry .read 1) :: List.replicate 63 (entry .read 0))).setIntake
      [readOf .a 3 2#8 1#8 1016#16]).setOp 2
        { BankOp.reset with openRow := some 5#14, inFlight := .readBurst, due := some 0 };
    ∃ t, exec (.burstCompletion 2) s = .next t ∧ t.xfer.list.length = 64 ∧ t.xfer.intake = [] :=
  ⟨_, rfl, by decide⟩

/-- Each clause on a detach: the proposer and an elector in BALLOT, an elector whose leaving wins a light
and a heavy ballot, and one in DRAINING and in APPLYING. -/
theorem witness_DetachedUnit :
    (∀ h : HostId, RequestArrives ballot h f0 3 ∧ ballot.port h = .attached) ∧
    ballot.agree.state = .ballot ∧
    (let p := proposal [.setHoldLimit .b 100#16] ⟨false, true, false, false⟩;
      ballot.agree.proposal = some p ∧ p.proposer = .a ∧ p.electorate.get .b = true ∧
        p.accepted.set .b false ≠ p.electorate.set .b false) ∧
    (∀ items ∈ [[ChangeItem.setHoldLimit .b 100#16], [.retrain]],
      let p := proposal items ⟨false, true, true, false⟩;
      p.electorate.get .d = true ∧ p.accepted.set .d false = p.electorate.set .d false) ∧
    (proposal [.setHoldLimit .b 100#16] ⟨false, true, true, false⟩).heavy = false ∧
    (proposal [.retrain] ⟨false, true, true, false⟩).heavy = true ∧
    (draining [.retrain]).agree.state = .draining ∧ (draining [.retrain]).port .b = .attached ∧
    committing.agree.state = .applying ∧ committing.port .b = .attached := by
  refine ⟨fun h => ?_, by decide⟩
  unfold RequestArrives
  cases h <;> decide

/-- R110, R155: a host that leaves in DRAINING, or is lost in APPLYING, is in no electorate. -/
theorem test_detached_host_is_in_no_electorate :
    (∃ t, exec (.leave .b f0 3) (draining [.retrain]) = .next t ∧
      t.agree.proposal.map (fun p => (p.electorate, p.accepted)) =
        some (⟨false, false, true, true⟩, ⟨false, false, true, true⟩)) ∧
    ∃ t, exec (.silenceDeadlineExpiry .b) (atTime 2000000 committing) = .next t ∧
      t.agree.proposal.map (fun p => (p.electorate, p.accepted)) =
        some (⟨false, false, true, true⟩, ⟨false, false, true, true⟩) :=
  ⟨⟨_, rfl, by decide⟩, ⟨_, rfl, by decide⟩⟩

/-- Host A's link not yet UP. -/
def linking (st : LinkState) (run : Nat) : State :=
  let s := atTime 2500000 (ready.setPort .a .down);
  s.setHost .a { s.host .a with link := { Link.down (some 2500000) with
    state := st, idleRun := run, sendTimer := some 2500000 } }

theorem witness_LinkComesUp :
    (let s := linking .quiet 0;
      (s.link .a).state = .quiet ∧ due s.now (s.link .a).quietEnd = true) ∧
    (∀ n ∈ [0, 1, 2],
      let s := linking .listening n;
      (s.link .a).state = .listening ∧ (s.link .a).idleRun = n ∧
        due s.now (s.link .a).sendTimer = true) := by decide

/-- Two messages kept for replay under numbers 255 and 0, a third waiting, and more of the link set. -/
def relaying (f : Link → Link) : State :=
  ready.setHost .a { ready.host .a with link := f { (ready.host .a).link with
    nextSend := 1#8
    replayBuffer := [(255#8, .note 7#8 .standbyEntered), (0#8, .note 8#8 .standbyLeft)]
    sendQueue := [.note 9#8 .overflow] } }

theorem witness_AcknowledgementActsOnReplayBuffer :
    (let s := relaying id;
      (s.link .a).state = .up ∧ (0#8 : Seq) = (s.link .a).expected ∧
        (∀ x ∈ (s.link .a).replayBuffer, x.1 ≠ 254#8) ∧
        (s.link .a).replayBuffer = [] ++ (255#8, .note 7#8 .standbyEntered) ::
          [(0#8, .note 8#8 .standbyLeft)] ∧
        (s.link .a).replayBuffer = [(255#8, .note 7#8 .standbyEntered)] ++
          (0#8, .note 8#8 .standbyLeft) :: [] ∧ (s.link .a).replayPos = none) ∧
    ∀ n ∈ [255#8, 0#8],
      ((relaying fun l => { l with replayPos := some n }).link .a).replayPos = some n := by decide

theorem witness_NaksAndDiscards :
    (∀ r ∈ [Receiver.normal, .nakSent], ∀ n ∈ [0, 3, 4],
      let s := relaying fun l => { l with receiver := r, replayCount := n };
      (s.link .a).state = .up ∧ (s.link .a).receiver = r ∧ (s.link .a).replayCount = n ∧
        (∀ x ∈ (s.link .a).replayBuffer, x.1 ≠ 254#8) ∧
        (s.host .a).delivers ⟨1#8, 254#8⟩ true = false ∧
        (s.host .a).delivers ⟨128#8, 254#8⟩ true = false ∧
        (1#8 - (s.link .a).expected).toNat ≤ 127 ∧ 128 ≤ (128#8 - (s.link .a).expected).toNat ∧
        (1#8 : Seq) = (s.link .a).nextSend ∧ (2#8 : Seq) ≠ (s.link .a).nextSend) := by decide

theorem witness_SendingFollowsItsOrder :
    (((relaying fun l => { l with nakDue := some 0#8 }).link .a).nakDue = some 0#8) ∧
    (let s := relaying fun l => { l with replayPos := some 0#8 };
      (s.link .a).nakDue = none ∧ (s.link .a).replayPos = some 0#8 ∧
        (s.link .a).replayBuffer = [(255#8, .note 7#8 .standbyEntered)] ++
          (0#8, .note 8#8 .standbyLeft) :: []) ∧
    (let s := relaying id;
      (s.link .a).state = .up ∧ (s.link .a).replayPos = none ∧
        (s.link .a).sendQueue = .note 9#8 .overflow :: [] ∧
        (s.link .a).replayBuffer.length < 8 ∧
        due (atTime 100000 s).now (s.link .a).sendTimer = true) ∧
    (let s := relaying fun l => { l with sendQueue := [] };
      (s.link .a).sendQueue = [] ∧ due s.now (s.link .a).sendTimer = false) := by decide

theorem witness_QueriesAnswerSnapshots :
    ∀ p ∈ [PortState.linked, .joining, .attached, .leaving],
      let s := ready.setPort .a p;
      RequestArrives s .a f0 15 ∧ s.port .a = p ∧ 7 < (8#8).toNat := by
  unfold RequestArrives
  decide

/-- Host A's notification queue: entries delivered under 255 and 0, and two not delivered. -/
def noted (overflow : Bool) : State :=
  ready.setHost .a { ready.host .a with notes :=
    ⟨[⟨.standbyEntered, some 255#8⟩, ⟨.standbyLeft, some 0#8⟩, ⟨.hostJoined .b, none⟩,
      ⟨.hostJoined .c, none⟩], 1#8, overflow⟩ }

theorem witness_NotificationsDeliveredAndAcknowledged :
    ∀ v ∈ [true, false],
      let d : List NoteEntry := [⟨.standbyEntered, some 255#8⟩, ⟨.standbyLeft, some 0#8⟩];
      let u : List NoteEntry := [⟨.hostJoined .b, none⟩, ⟨.hostJoined .c, none⟩];
      let s := noted v;
      (s.host .a).notes.entries = d ++ u ∧ (∀ e ∈ u, e.number = none) ∧
        (∀ e ∈ d, e.number ≠ none) ∧ (s.host .a).delivers f0 false = true ∧
        d = [] ++ ⟨.standbyEntered, some 255#8⟩ :: [⟨.standbyLeft, some 0#8⟩] ∧
        (∀ e ∈ d, e.number ≠ some 1#8) ∧ d.length < 4 ∧ (s.link .a).notesWaiting < 4 := by decide

end Sys2Proof.Tests
end

section
/-! PROOFS. What the shared operations leave unchanged. An answer or a notification to one host is an
update of that host's side; the operations of the units other than the lease table leave every bank
record and every bank operation record alone (`SameLeases`). -/

namespace Sys2Proof.Safety

open Sys2Proof.Machine

/-! ## The frame of a step -/

theorem ChangesOnly.refl (l : List Part) (s : State) : ChangesOnly l s s := by
  intro p _
  cases p <;> rfl

theorem ChangesOnly.trans {l : List Part} {s t u : State} (h : ChangesOnly l s t)
    (k : ChangesOnly l t u) : ChangesOnly l s u := by
  intro p hp
  have e := h p hp
  have e' := k p hp
  cases p <;> exact Eq.trans e' e

theorem ChangesOnly.mono {l m : List Part} {s t : State} (h : ChangesOnly l s t) (hlm : l ⊆ m) :
    ChangesOnly m s t := fun p hp => h p fun hl => hp (hlm hl)

/-! ### The frame of each update -/

theorem changesOnly_setHost (s : State) (h : HostId) (x : HostSide) :
    ChangesOnly [.hosts] s (s.setHost h x) := by
  intro p hp
  cases p <;> simp_all [Part.same]

theorem changesOnly_setBank (s : State) (b : Bank) (r : BankRecord) :
    ChangesOnly [.banks] s (s.setBank b r) := by
  intro p hp
  cases p <;> simp_all [Part.same]

theorem changesOnly_setChan (s : State) (c : Channel) : ChangesOnly [.chan] s (s.setChan c) := by
  intro p hp
  cases p <;> simp_all [Part.same]

theorem changesOnly_setOp (s : State) (b : Bank) (o : BankOp) :
    ChangesOnly [.chan] s (s.setOp b o) := changesOnly_setChan s _

theorem changesOnly_keepPlace (s : State) : ChangesOnly [.chan] s (keepPlace s) :=
  changesOnly_setChan s _

theorem changesOnly_setList (s : State) (l : List Transfer) :
    ChangesOnly [.xfer] s (s.setList l) := by
  intro p hp
  cases p <;> simp_all [Part.same]

theorem changesOnly_setIntake (s : State) (l : List TransferReq) :
    ChangesOnly [.xfer] s (s.setIntake l) := by
  intro p hp
  cases p <;> simp_all [Part.same]

theorem changesOnly_setGate (s : State) (g : Gate) : ChangesOnly [.gate] s (s.setGate g) := by
  intro p hp
  cases p <;> simp_all [Part.same]

theorem changesOnly_setAccount (s : State) (a : Account) :
    ChangesOnly [.account] s (s.setAccount a) := by
  intro p hp
  cases p <;> simp_all [Part.same]

theorem changesOnly_setSeq (s : State) (q : Sequencer) : ChangesOnly [.seq] s (s.setSeq q) := by
  intro p hp
  cases p <;> simp_all [Part.same]

theorem changesOnly_setAgree (s : State) (a : Agreement) :
    ChangesOnly [.agree] s (s.setAgree a) := by
  intro p hp
  cases p <;> simp_all [Part.same]

theorem changesOnly_setStandby (s : State) (x : Standby) :
    ChangesOnly [.standby] s (s.setStandby x) := by
  intro p hp
  cases p <;> simp_all [Part.same]

theorem changesOnly_notifyEach (f : HostId → Option Notification) (s : State) :
    ChangesOnly [.hosts] s (notifyEach f s) := by
  intro p hp
  rw [notifyEach_changes]
  cases p <;> simp_all [Part.same]

/-- The frame of two steps, each with its own list of parts. -/
theorem ChangesOnly.trans' {l l' m : List Part} {s t u : State} (h : ChangesOnly l s t)
    (k : ChangesOnly l' t u) (hl : l ⊆ m) (hl' : l' ⊆ m) : ChangesOnly m s u :=
  (h.mono hl).trans (k.mono hl')

theorem OtherHostsSame.trans {h : HostId} {s t u : State} (e : OtherHostsSame h s t)
    (e' : OtherHostsSame h t u) : OtherHostsSame h s u :=
  fun g hg => (e' g hg).trans (e g hg)

end Sys2Proof.Safety

namespace Sys2Proof.Leases

open Sys2Proof Sys2Proof.Machine Sys2Proof.Safety

/-! ## Answers and notifications as updates of one side -/

/-- R157: a host's side after an answer: that of an OUTSTANDING tag is sent, that of a FREE one is not. -/
def answeredSide (tag : Tag) (st : Status) (p : Payload) (x : HostSide) : HostSide :=
  match x.tags[tag.val] with
  | none => x
  | some kind => sideAnswers x tag ⟨tag, kind, st, p⟩

/-- A host's side after an answer that carries only its status, to a tag that may be absent. -/
def answeredOptSide (tag : Option Tag) (st : Status) (x : HostSide) : HostSide :=
  match tag with
  | none => x
  | some tag => answeredSide tag st .none x

theorem answer_eq (h : HostId) (tag : Tag) (st : Status) (p : Payload) (s : State) :
    answer h tag st p s = s.setHost h (answeredSide tag st p (s.host h)) := by
  rcases answer_cases h tag st p s with e | ⟨kind, ht, e⟩
  · cases ht : (s.host h).tags[tag.val] with
    | none => simp [answeredSide, ht, e]
    | some kind => simp [answeredSide, ht, answer_outstanding st p ht]
  · simp [answeredSide, ht, e]

theorem answerStatus_eq (h : HostId) (tag : Tag) (st : Status) (s : State) :
    answerStatus h tag st s = s.setHost h (answeredSide tag st .none (s.host h)) :=
  answer_eq h tag st .none s

theorem answerOpt_eq (h : HostId) (tag : Option Tag) (st : Status) (s : State) :
    answerOpt h tag st s = s.setHost h (answeredOptSide tag st (s.host h)) := by
  cases tag with
  | none => simp [answeredOptSide]
  | some tag => exact answerStatus_eq h tag st s

theorem answeredSide_outstanding {tag : Tag} {kind : ReqKind} {x : HostSide} (st : Status)
    (p : Payload) (ht : x.tags[tag.val] = some kind) :
    answeredSide tag st p x = sideAnswers x tag ⟨tag, kind, st, p⟩ := by
  simp [answeredSide, ht]

theorem answeredSide_plain {tag : Tag} {kind : ReqKind} {x : HostSide} (st : Status)
    (ht : x.tags[tag.val] = some kind) :
    answeredSide tag st .none x = sideAnswers x tag (plain tag kind st) :=
  answeredSide_outstanding st .none ht

@[simp] theorem answeredSide_port (tag : Tag) (st : Status) (p : Payload) (x : HostSide) :
    (answeredSide tag st p x).port = x.port := by
  unfold answeredSide; split <;> rfl

@[simp] theorem answeredSide_notes (tag : Tag) (st : Status) (p : Payload) (x : HostSide) :
    (answeredSide tag st p x).notes = x.notes := by
  unfold answeredSide; split <;> rfl

@[simp] theorem answeredOptSide_port (tag : Option Tag) (st : Status) (x : HostSide) :
    (answeredOptSide tag st x).port = x.port := by
  cases tag <;> simp [answeredOptSide]

@[simp] theorem answeredOptSide_notes (tag : Option Tag) (st : Status) (x : HostSide) :
    (answeredOptSide tag st x).notes = x.notes := by
  cases tag <;> simp [answeredOptSide]

/-- A recorded CLOSE that is OUTSTANDING is answered as the statements say. -/
theorem answeredOptSide_close {closeTag : Option Tag} {p : HostSide}
    (hc : ∀ tag, closeTag = some tag → p.tags[tag.val] = some .closeLease) :
    answeredOptSide closeTag .ok p = sideClosed closeTag p := by
  cases closeTag with
  | none => rfl
  | some tag => exact answeredSide_plain .ok (hc tag rfl)

/-- The answers of one host, one after another, are an update of its side. -/
theorem foldl_answerStatus (h : HostId) (st : Status) (l : List Transfer) (s : State) :
    l.foldl (fun s e => answerStatus h e.tag st s) s =
      s.setHost h (l.foldl (fun p e => answeredSide e.tag st .none p) (s.host h)) := by
  induction l generalizing s with
  | nil => simp
  | cons e l ih =>
    rw [List.foldl_cons, ih, answerStatus_eq]
    simp

/-! ## Commands that carry a request -/

/-- R156: a request that only an ATTACHED host may make, made by one that is. -/
theorem attachedOnly_attached {s : State} {h : HostId} (tag : Tag) (act : State → State)
    (hp : s.port h = .attached) : attachedOnly h tag act s = act s := by
  simp [attachedOnly, hp]

/-- A request that arrives from an ATTACHED host reaches the block that owns it. -/
theorem request_attached {s : State} {h : HostId} {f : FrameHdr} {tag : Tag} (kind : ReqKind)
    (act : State → State) (ha : RequestArrives s h f tag) (hp : s.port h = .attached) :
    request h f tag kind (attachedOnly h tag act) s =
      act (s.setHost h (sideTaken s h f tag kind)) := by
  rw [request_arrives kind _ ha, attachedOnly_attached tag act (by simpa using hp)]

/-! ## Operations that leave the lease table alone -/

/-- Every bank record and every bank operation record is the same. -/
def SameLeases (s t : State) : Prop := t.banks = s.banks ∧ t.chan.ops = s.chan.ops

namespace SameLeases

theorem refl (s : State) : SameLeases s s := ⟨rfl, rfl⟩

theorem trans {s t u : State} (h : SameLeases s t) (k : SameLeases t u) : SameLeases s u :=
  ⟨k.1.trans h.1, k.2.trans h.2⟩

theorem bank {s t : State} (h : SameLeases s t) (b : Bank) : t.bank b = s.bank b := by
  simp [State.bank, h.1]

theorem op {s t : State} (h : SameLeases s t) (b : Bank) : t.op b = s.op b := by
  simp [State.op, h.2]

theorem holds {s t : State} (h : SameLeases s t) (g : HostId) (b : Bank) :
    t.holds g b = s.holds g b := by simp [State.holds, h.bank]

end SameLeases

theorem sameLeases_setHost (s : State) (h : HostId) (x : HostSide) : SameLeases s (s.setHost h x) :=
  ⟨rfl, rfl⟩

theorem sameLeases_modLink (s : State) (h : HostId) (f : Link → Link) :
    SameLeases s (s.modLink h f) := ⟨rfl, rfl⟩

theorem sameLeases_keepPlace (s : State) : SameLeases s (keepPlace s) := ⟨rfl, rfl⟩

theorem sameLeases_answer (h : HostId) (tag : Tag) (st : Status) (p : Payload) (s : State) :
    SameLeases s (answer h tag st p s) := by
  rw [answer_eq]; exact ⟨rfl, rfl⟩

theorem sameLeases_answerStatus (h : HostId) (tag : Tag) (st : Status) (s : State) :
    SameLeases s (answerStatus h tag st s) := sameLeases_answer h tag st .none s

theorem sameLeases_answerOpt (h : HostId) (tag : Option Tag) (st : Status) (s : State) :
    SameLeases s (answerOpt h tag st s) := by
  rw [answerOpt_eq]; exact ⟨rfl, rfl⟩

theorem sameLeases_notify (h : HostId) (n : Notification) (s : State) :
    SameLeases s (notify h n s) := ⟨rfl, rfl⟩

theorem sameLeases_notifyEach (f : HostId → Option Notification) (s : State) :
    SameLeases s (notifyEach f s) := ⟨rfl, rfl⟩

theorem sameLeases_notifyAttached (n : Notification) (s : State) :
    SameLeases s (notifyAttached n s) := ⟨rfl, rfl⟩

/-- A fold of operations that leave the lease table alone leaves it alone. -/
theorem sameLeases_foldl {α : Type} {f : State → α → State} (hf : ∀ s a, SameLeases s (f s a))
    (l : List α) (s : State) : SameLeases s (l.foldl f s) := by
  induction l generalizing s with
  | nil => exact .refl s
  | cons a l ih => exact (hf s a).trans (ih _)

/-! ### The account, the sequencer and the channel -/

theorem sameLeases_offerStep (s : State) : SameLeases s (offerStep s) := by
  unfold offerStep
  split
  · exact .refl s
  · split <;> exact ⟨rfl, rfl⟩

theorem sameLeases_judgeYield (s : State) : SameLeases s (judgeYield s) := by
  unfold judgeYield
  split
  · exact .refl s
  · split
    · split <;> exact ⟨rfl, rfl⟩
    · split
      · exact sameLeases_offerStep s
      · exact .refl s

theorem sameLeases_judgeAccount (s : State) : SameLeases s (judgeAccount s) := by
  unfold judgeAccount
  split
  · exact SameLeases.trans (t := enterPressed s) ⟨rfl, rfl⟩ (sameLeases_judgeYield _)
  · exact sameLeases_judgeYield s

theorem sameLeases_makeAccountOffer (s : State) : SameLeases s (makeAccountOffer s) := by
  unfold makeAccountOffer
  split <;> exact ⟨rfl, rfl⟩

theorem sameLeases_beginAttempt (lane : Lane) (kind : SweepKind) (s : State) :
    SameLeases s (beginAttempt lane kind s) := by
  unfold beginAttempt
  split
  · exact SameLeases.trans ⟨rfl, rfl⟩ (sameLeases_offerStep _)
  · split
    · exact .refl s
    · exact SameLeases.trans ⟨rfl, rfl⟩ (sameLeases_offerStep _)

theorem sameLeases_applyBurstOrder (s : State) : SameLeases s (applyBurstOrder s) := by
  unfold applyBurstOrder
  split <;> exact ⟨rfl, rfl⟩

/-! ### The agreement unit -/

theorem sameLeases_resolveProposal (o : ProposalOutcome) (s : State) :
    SameLeases s (resolveProposal o s) := by
  unfold resolveProposal
  split <;> exact ⟨rfl, rfl⟩

theorem sameLeases_applyLight (s : State) : SameLeases s (applyLight s) :=
  SameLeases.trans (t := makeLive s) ⟨rfl, rfl⟩
    ((sameLeases_resolveProposal .applied _).trans (sameLeases_judgeAccount _))

theorem sameLeases_beginApply (s : State) : SameLeases s (beginApply s) := by
  unfold beginApply
  split
  · exact .refl s
  · split
    · exact SameLeases.trans ⟨rfl, rfl⟩ (sameLeases_beginAttempt 0 .retrain _)
    · exact SameLeases.trans ⟨rfl, rfl⟩ (sameLeases_applyBurstOrder _)

theorem sameLeases_startDrain (s : State) : SameLeases s (startDrain s) := by
  unfold startDrain
  split
  · exact .refl s
  · dsimp only
    split
    · exact SameLeases.trans ⟨rfl, rfl⟩ (sameLeases_beginApply _)
    · exact ⟨rfl, rfl⟩

theorem sameLeases_judgeBallot (s : State) : SameLeases s (judgeBallot s) := by
  unfold judgeBallot ballotWon
  split
  · exact .refl s
  · split
    · split
      · exact .refl s
      · split
        · exact sameLeases_startDrain s
        · exact sameLeases_applyLight s
    · exact .refl s

/-! ### Ports -/

theorem sameLeases_leavePark (h : HostId) (s : State) : SameLeases s (leavePark h s) := ⟨rfl, rfl⟩

theorem sameLeases_offerExit (s : State) : SameLeases s (offerExit s) := by
  unfold offerExit
  split <;> exact ⟨rfl, rfl⟩

theorem sameLeases_attachJoining (s : State) : SameLeases s (attachJoining s) := by
  unfold attachJoining
  refine SameLeases.trans ⟨rfl, rfl⟩ (sameLeases_foldl (fun t h => ?_) _ _)
  split
  · exact (sameLeases_answer _ _ _ _ _).trans ⟨rfl, rfl⟩
  · exact ⟨rfl, rfl⟩

theorem sameLeases_completeJoins (s : State) : SameLeases s (completeJoins s) := by
  unfold completeJoins
  split
  · exact sameLeases_attachJoining s
  · exact .refl s

theorem sameLeases_refuseJoining (s : State) : SameLeases s (refuseJoining s) := by
  unfold refuseJoining
  refine sameLeases_foldl (fun s h => ?_) _ _
  split
  · exact (sameLeases_answerOpt _ _ _ _).trans ⟨rfl, rfl⟩
  · exact .refl s

theorem sameLeases_completeLeave (h : HostId) (s : State) : SameLeases s (completeLeave h s) := by
  unfold completeLeave
  split
  · exact SameLeases.trans (sameLeases_setHost s h _)
      ((sameLeases_answerOpt _ _ _ _).trans (sameLeases_notifyAttached _ _))
  · exact .refl s

/-! ### The transfer engine -/

theorem sameLeases_checkTransfer (q : TransferReq) (s : State) :
    SameLeases s (checkTransfer q s) := by
  unfold checkTransfer
  split
  · exact sameLeases_answerStatus _ _ _ s
  · split
    · exact sameLeases_answerStatus _ _ _ s
    · exact ⟨rfl, rfl⟩

theorem sameLeases_takeIntake (s : State) : SameLeases s (takeIntake s) := by
  unfold takeIntake
  refine sameLeases_foldl (fun s _ => ?_) _ _
  unfold takeFromIntake
  split
  · split
    · exact .refl s
    · exact SameLeases.trans ⟨rfl, rfl⟩ (sameLeases_checkTransfer _ _)
  · exact .refl s

theorem sameLeases_cancelUnbegun (b : Bank) (h : HostId) (s : State) :
    SameLeases s (cancelUnbegun b h s) :=
  SameLeases.trans ⟨rfl, rfl⟩
    (sameLeases_foldl (fun s (e : Transfer) => sameLeases_answerStatus h e.tag _ s) _ _)

theorem sameLeases_cancelLost (b : Bank) (h : HostId) (s : State) :
    SameLeases s (cancelLost b h s) := ⟨rfl, rfl⟩

end Sys2Proof.Leases
end

section
/-! PROOFS. The laws of the bank records (R2, R5, R6, R7, R70), kept by every operation that touches a
bank record or its operation record. -/

namespace Sys2Proof.Leases

open Sys2Proof Sys2Proof.Machine Sys2Proof.Safety

/-! ## One bank at a time -/

theorem SameLeases.sound {s t : State} (h : SameLeases s t) (hs : LeaseSound s) : LeaseSound t := by
  intro b
  rw [h.bank, h.op]
  exact hs b

/-- A bank whose record and operation record change is the only one to look at. -/
theorem leaseSound_update {s t : State} (b : Bank) (hs : LeaseSound s)
    (hbank : OtherBanksSame b s t) (hop : ∀ c, c ≠ b → t.op c = s.op c)
    (hb : BankStateSound (t.bank b) (t.op b) ∧ BankListsSound (t.bank b)) : LeaseSound t := by
  intro c
  by_cases hc : c = b
  · exact hc ▸ hb
  · rw [hbank c hc, hop c hc]
    exact hs c

theorem leaseSound_setBank {s : State} {b : Bank} {r : BankRecord} (hs : LeaseSound s)
    (hr : BankStateSound r (s.op b)) (hl : BankListsSound r) : LeaseSound (s.setBank b r) :=
  leaseSound_update b hs (fun c hc => State.setBank_bank_other s r hc) (fun _ _ => rfl)
    (by simpa using ⟨hr, hl⟩)

theorem leaseSound_setOp {s : State} {b : Bank} {o : BankOp} (hs : LeaseSound s)
    (ho : BankStateSound (s.bank b) o) : LeaseSound (s.setOp b o) :=
  leaseSound_update b hs (fun _ _ => rfl) (fun c hc => State.setOp_op_other s o hc)
    (by simpa using ⟨ho, (hs b).2⟩)

/-- A bank's state asks of its operation record only what is pending and what is in flight. -/
theorem bankStateSound_op {r : BankRecord} {o o' : BankOp} (h : BankStateSound r o)
    (hp : o'.pending = o.pending) (hf : o'.inFlight = o.inFlight) : BankStateSound r o' := by
  simpa only [BankStateSound, noRowFlight, hp, hf] using h

/-- R2: a bank with a holder is ACTIVATING or OPEN. -/
theorem holder_state {r : BankRecord} {o : BankOp} (h : BankStateSound r o) (hr : r.holders ≠ []) :
    r.state = .activating ∨ r.state = .opened := by
  unfold BankStateSound at h
  cases hst : r.state <;> simp_all

/-- R5: fewer entries of the same hosts keep each host at most once. -/
theorem bankLists_sublist {r q : BankRecord} (h : BankListsSound r)
    (hh : (q.holders.map fun x => x.host).Sublist (r.holders.map fun x => x.host))
    (hw : (q.waiters.map fun w => w.host).Sublist (r.waiters.map fun w => w.host))
    (hm : q.mode = some .exclusive → q.holders.length = 1) : BankListsSound q :=
  ⟨h.1.sublist (hh.append hw), hm⟩

/-! ## Entries -/

theorem replaceHolder_hosts (l : List Holder) {h : HostId} {x : Holder} (hx : x.host = h) :
    (replaceHolder l h x).map (fun y => y.host) = l.map fun y => y.host := by
  simp only [replaceHolder, List.map_map]
  refine List.map_congr_left fun y _ => ?_
  by_cases hy : y.host = h <;> simp [hy, hx]

theorem setHolder_sound {b : Bank} {h : HostId} {x : Holder} {s : State} (hx : x.host = h)
    (hs : LeaseSound s) : LeaseSound (setHolder b h x s) := by
  have hlen : (replaceHolder (s.bank b).holders h x).length = (s.bank b).holders.length := by
    simp [replaceHolder]
  have hne : replaceHolder (s.bank b).holders h x = [] ↔ (s.bank b).holders = [] := by
    simp [replaceHolder]
  refine leaseSound_setBank hs ?_ ⟨?_, ?_⟩
  · simpa only [BankStateSound, ne_eq, hne] using (hs b).1
  · simpa only [bankHosts, replaceHolder_hosts _ hx] using (hs b).2.1
  · simpa only [hlen] using (hs b).2.2

/-- R24: a holder leaves an OPEN bank. -/
theorem holderGone_sound {b : Bank} {h : HostId} {s : State} (ho : (s.bank b).state = .opened)
    (hs : LeaseSound s) : LeaseSound (holderGone b h s) := by
  obtain ⟨hst, hl⟩ := hs b
  obtain ⟨-, hrow, hmode, hp, hf⟩ : (s.bank b).holders ≠ [] ∧ (s.bank b).row ≠ none ∧
      (s.bank b).mode ≠ none ∧ (s.op b).pending = .none ∧ noRowFlight (s.op b) := by
    simpa only [BankStateSound, ho] using hst
  have hsub : ((s.bank b).holders.filter fun x => decide (x.host ≠ h)).Sublist
      (s.bank b).holders := List.filter_sublist
  simp only [holderGone]
  split
  · refine leaseSound_update b hs (fun c hc => by simp [hc]) (fun c hc => by simp [hc]) ⟨?_, ?_⟩
    · simpa [BankStateSound, hrow, noRowFlight] using hf
    · exact bankLists_sublist hl (by simp) (by simp) (by simp)
  · rename_i hne
    refine leaseSound_setBank hs ?_ (bankLists_sublist hl (hsub.map _) (by simp) fun hm => ?_)
    · simpa only [BankStateSound, ho] using ⟨hne, hrow, hmode, hp, hf⟩
    · have h1 : (s.bank b).holders.length = 1 := hl.2 hm
      have hle := hsub.length_le
      have hpos := List.length_pos_iff.mpr hne
      dsimp only
      omega

theorem removeHolder_sound {b : Bank} {h : HostId} {s : State} (ho : (s.bank b).state = .opened)
    (hs : LeaseSound s) : LeaseSound (removeHolder b h s) := by
  rw [removeHolder_eq]
  exact holderGone_sound ho hs

theorem removeWaiter_sound (b : Bank) (h : HostId) {s : State} (hs : LeaseSound s) :
    LeaseSound (removeWaiter b h s) :=
  leaseSound_setBank ((sameLeases_keepPlace s).sound hs) (hs b).1
    (bankLists_sublist (hs b).2 (by simp) (List.filter_sublist.map _) (hs b).2.2)

theorem withdrawWaiter_sound (b : Bank) (h : HostId) (st : Status) {s : State}
    (hs : LeaseSound s) : LeaseSound (withdrawWaiter b h st s) := by
  unfold withdrawWaiter
  split
  · exact hs
  · exact (sameLeases_answerStatus _ _ _ _).sound (removeWaiter_sound b h hs)

theorem dropWaiter_sound (b : Bank) (h : HostId) {s : State} (hs : LeaseSound s) :
    LeaseSound (dropWaiter b h s) := by
  unfold dropWaiter
  split
  · exact removeWaiter_sound b h hs
  · exact hs

/-! ## Granting (R14, R17) -/

/-- R2, R7: a grant takes a sound CLOSED bank to a sound ACTIVATING one. -/
theorem grant_sound {b : Bank} {row : Row} {mode : LeaseMode} {hs : List Holder}
    {ws : List Waiter} {s : State} (hc : (s.bank b).state = .closed) (hne : hs ≠ [])
    (hl : BankListsSound ⟨.activating, some row, some mode, hs, ws⟩) (h : LeaseSound s) :
    LeaseSound (grant b row mode hs ws s) := by
  have hst : noRowFlight (s.op b) := by
    have := (h b).1
    simp only [BankStateSound, hc] at this
    exact this.2.2.2.2
  refine leaseSound_update b h (fun c hc => ?_) (fun c hc => ?_) ⟨?_, ?_⟩
  · simp [grant, requestActivate, hc]
  · simp [grant, requestActivate, hc]
  · simpa [grant, requestActivate, BankStateSound, hne, noRowFlight] using hst
  · simpa [grant, requestActivate] using hl

/-- R17: the waiters granted together stand at the front of the queue. -/
theorem grantBatch_prefix (head : Waiter) (rest : List Waiter) :
    grantBatch head rest ++ (head :: rest).drop (grantBatch head rest).length = head :: rest := by
  have hp : grantBatch head rest <+: head :: rest := by
    unfold grantBatch
    split
    · simp
    · exact List.cons_prefix_cons.mpr ⟨rfl, List.takeWhile_prefix _⟩
  conv_rhs => rw [← List.take_append_drop (grantBatch head rest).length (head :: rest)]
  rw [← List.prefix_iff_eq_take.mp hp]

theorem serveBank_sound (b : Bank) {s : State} (hs : LeaseSound s) : LeaseSound (serveBank b s) := by
  unfold serveBank
  split
  next hr =>
    obtain ⟨hc, -, -⟩ := (serveReady_iff s b).mp hr
    obtain ⟨hst, hl⟩ := hs b
    split
    · exact hs
    next head rest hw =>
      have hh : (s.bank b).holders = [] := by
        simp only [BankStateSound, hc] at hst
        exact hst.1
      refine grant_sound hc (by unfold grantBatch; split <;> simp) ⟨?_, fun hm => ?_⟩ hs
      · have hn : ((head :: rest).map fun w => w.host).Nodup := by
          simpa [bankHosts, hh, hw] using hl.1
        rw [← grantBatch_prefix head rest, List.map_append] at hn
        simpa [bankHosts, Function.comp_def, Holder.granted] using hn
      · have hm' : head.mode = .exclusive := by simpa using hm
        simp [grantBatch, hm']
  · exact hs

theorem removeReason_sound (r : GateReason) {s : State} (hs : LeaseSound s) :
    LeaseSound (removeReason r s) := by
  have hg : LeaseSound (s.setGate (s.gate.put r false)) := hs
  simp only [removeReason]
  split
  · unfold serveAll
    exact List.foldlRecOn (motive := LeaseSound) allBanks _ hg
      fun _ h b _ => serveBank_sound b h
  · exact hg

/-! ## Leaving: CLOSE and revocation -/

theorem finishHolder_sound (b : Bank) (h : HostId) {s : State} (hs : LeaseSound s) :
    LeaseSound (finishHolder b h s) := by
  unfold finishHolder
  split
  · exact hs
  · split
    next ho =>
      have hr := removeHolder_sound (h := h) ho.1 hs
      split
      · exact hs
      · exact (sameLeases_answerOpt _ _ _ _).sound hr
      · exact hr
      · exact ((sameLeases_notify _ _ _).trans (sameLeases_answerOpt _ _ _ _)).sound hr
    · exact hs

theorem revoke_sound (b : Bank) (h : HostId) (r : RevokeReason) {s : State} (hs : LeaseSound s) :
    LeaseSound (revoke b h r s) := by
  unfold revoke
  split
  · exact hs
  next x hx =>
    have hset : ∀ q, LeaseSound (setHolder b h { x with status := q, deadline := none } s) :=
      fun q => setHolder_sound (holder_host hx).1 hs
    split
    · exact finishHolder_sound b h ((sameLeases_cancelLost b h _).sound (hset _))
    · exact hs
    · exact finishHolder_sound b h ((sameLeases_cancelUnbegun b h _).sound (hset _))

theorem closeHolder_sound (b : Bank) (h : HostId) (tag : Option Tag) {s : State}
    (hs : LeaseSound s) : LeaseSound (closeHolder b h tag s) := by
  unfold closeHolder
  split
  · exact hs
  next hx => exact finishHolder_sound b h (setHolder_sound (holder_host hx).1 hs)

theorem revokeOverstayed_sound (b : Bank) {s : State} (hs : LeaseSound s) :
    LeaseSound (revokeOverstayed b s) := by
  unfold revokeOverstayed
  dsimp only
  split
  · exact hs
  · exact (sameLeases_takeIntake _).sound (List.foldlRecOn (motive := LeaseSound) _ _ hs
      fun _ h _ _ => revoke_sound b _ _ h)

theorem massRevoke_sound (r : RevokeReason) {s : State} (hs : LeaseSound s) :
    LeaseSound (massRevoke r s) :=
  (sameLeases_takeIntake _).sound (List.foldlRecOn (motive := LeaseSound) _ _ hs
    fun _ h b _ => List.foldlRecOn (motive := LeaseSound) _ _ h
      fun _ h' _ _ => revoke_sound b _ r h')

theorem withdrawAndClose_sound (h : HostId) {s : State} (hs : LeaseSound s) :
    LeaseSound (withdrawAndClose h s) := by
  refine List.foldlRecOn (motive := LeaseSound) _ _ hs fun u hu b _ => ?_
  have hw := withdrawWaiter_sound b h .withdrawn hu
  dsimp only
  split
  · exact hw
  · split
    · exact closeHolder_sound b h none hw
    · exact hw

theorem tearDown_sound (h : HostId) {s : State} (hs : LeaseSound s) : LeaseSound (tearDown h s) :=
  List.foldlRecOn (motive := LeaseSound) (b := s.setIntake _) allBanks _ hs
    fun _ hu b _ => revoke_sound b h .hostLost (dropWaiter_sound b h hu)

theorem recheckWaiters_sound {s : State} (hs : LeaseSound s) : LeaseSound (recheckWaiters s) := by
  refine List.foldlRecOn (motive := LeaseSound) _ _ hs fun u hu b _ =>
    List.foldlRecOn (motive := LeaseSound) _ _ hu fun v hv w _ => ?_
  split
  · exact withdrawWaiter_sound b w.host .noRight hv
  · exact hv

/-! ## Activation and precharge (R19, R24) -/

theorem settleHolder_sound (b : Bank) (h : HostId) {s : State}
    (ho : (s.bank b).holders ≠ [] → (s.bank b).state = .opened) (hs : LeaseSound s) :
    LeaseSound (settleHolder b h s) := by
  unfold settleHolder
  split
  · exact hs
  next x hx =>
    obtain ⟨hxh, hxm⟩ := holder_host hx
    have hr := removeHolder_sound (h := h) (ho (List.ne_nil_of_mem hxm)) hs
    split
    · exact (sameLeases_answerStatus _ _ _ _).sound (setHolder_sound hxh hs)
    · exact finishHolder_sound b h
        ((sameLeases_answerStatus _ _ _ _).sound (setHolder_sound hxh hs))
    · exact hr
    · exact ((sameLeases_answerStatus _ _ _ _).trans (sameLeases_answerOpt _ _ _ _)).sound hr

/-- A holder's leaving does not take its bank back to ACTIVATING. -/
theorem holderGone_notActivating (b : Bank) (h : HostId) {s : State}
    (ha : (s.bank b).state ≠ .activating) : ((holderGone b h s).bank b).state ≠ .activating := by
  simp only [holderGone]
  split <;> simp [ha]

theorem finishHolder_notActivating (b : Bank) (h : HostId) {s : State}
    (ha : (s.bank b).state ≠ .activating) : ((finishHolder b h s).bank b).state ≠ .activating := by
  have hg := holderGone_notActivating b h ha
  unfold finishHolder
  simp only [removeHolder_eq, answerOpt_eq, notify_eq]
  split
  · exact ha
  · split
    · split <;> assumption
    · exact ha

theorem settleHolder_notActivating (b : Bank) (h : HostId) {s : State}
    (ha : (s.bank b).state ≠ .activating) : ((settleHolder b h s).bank b).state ≠ .activating := by
  have hg := holderGone_notActivating b h ha
  have hset : ∀ x, ((setHolder b h x s).bank b).state ≠ .activating := fun x => by
    simpa [setHolder] using ha
  unfold settleHolder
  simp only [removeHolder_eq, answerOpt_eq, answerStatus_eq]
  split
  · exact ha
  · split
    · exact hset _
    · exact finishHolder_notActivating b h (hset _)
    · exact hg
    · exact hg

/-- R19: from a sound bank whose ACTIVATE has landed, the holders are dealt with one by one. -/
theorem completeActivation_sound (b : Bank) {s : State}
    (ho : LeaseSound (s.setBank b { s.bank b with state := .opened })) :
    LeaseSound (completeActivation b s) := by
  refine (List.foldlRecOn (motive := fun u => LeaseSound u ∧ (u.bank b).state ≠ .activating)
    _ _ ⟨ho, by simp⟩ fun u hu x _ => ?_).1
  refine ⟨settleHolder_sound b x.host (fun hne => ?_) hu.1, settleHolder_notActivating b x.host hu.2⟩
  exact (holder_state (hu.1 b).1 hne).resolve_left hu.2

/-- R7, R70: while an ACTIVATE is in flight on a sound bank, the bank is ACTIVATING on its row. -/
theorem activating_of_flight {s : State} {b : Bank} {row : Row} (hs : LeaseSound s)
    (hf : (s.op b).inFlight = .activate row) :
    (s.bank b).holders ≠ [] ∧ (s.bank b).mode ≠ none ∧ (s.bank b).row = some row ∧
      (s.op b).pending = .none := by
  have hst := (hs b).1
  unfold BankStateSound at hst
  cases hb : (s.bank b).state <;> simp_all [noRowFlight]

theorem landActivate_sound {b : Bank} {row : Row} {s : State} (hs : LeaseSound s)
    (hf : (s.op b).inFlight = .activate row) : LeaseSound (landActivate b row s) := by
  obtain ⟨hh, hm, hr, hp⟩ := activating_of_flight hs hf
  refine completeActivation_sound b (leaseSound_update b hs (fun c hc => by simp [hc])
    (fun c hc => by simp [hc]) ⟨?_, by simpa [BankListsSound, bankHosts] using (hs b).2⟩)
  simp [BankStateSound, hh, hm, hr, hp, noRowFlight]

/-- R7, R70: while a PRECHARGE is pending or in flight on a sound bank, the bank is PRECHARGING. -/
theorem precharging_of_command {s : State} {b : Bank} (hs : LeaseSound s)
    (hf : (s.op b).inFlight = .precharge ∨ (s.op b).pending = .precharge) :
    (s.bank b).state = .precharging ∧ (s.bank b).holders = [] ∧ (s.bank b).mode = none ∧
      (s.bank b).row ≠ none ∧ ((s.op b).inFlight = .precharge → (s.op b).pending = .none) := by
  have hst := (hs b).1
  unfold BankStateSound at hst
  rcases hf with hf | hf <;> cases hb : (s.bank b).state <;> simp_all [noRowFlight]

theorem landPrecharge_sound {b : Bank} {s : State} (hs : LeaseSound s)
    (hf : (s.op b).inFlight = .precharge) : LeaseSound (landPrecharge b s) := by
  obtain ⟨-, hh, hm, -, hp⟩ := precharging_of_command hs (.inl hf)
  refine serveBank_sound b (leaseSound_update b hs (fun c hc => by simp [hc])
    (fun c hc => by simp [hc]) ⟨?_, by simpa [BankListsSound, bankHosts] using (hs b).2⟩)
  simp [BankStateSound, hh, hm, hp hf, noRowFlight]

/-! ## The channel's commands (R71 to R73) -/

theorem issueActivate_sound (b : Bank) {s : State} (hs : LeaseSound s) :
    LeaseSound (issueActivate b s) := by
  unfold issueActivate
  split
  next row hp =>
    have hst := (hs b).1
    refine SameLeases.sound (s := s.setOp b _) ⟨rfl, rfl⟩ (leaseSound_setOp hs ?_)
    unfold BankStateSound at hst ⊢
    cases hb : (s.bank b).state <;> simp_all
  · exact hs
  · exact hs

theorem issuePrecharge_sound {b : Bank} {s : State} (hs : LeaseSound s)
    (hp : (s.op b).pending = .precharge) : LeaseSound (issuePrecharge b s) := by
  obtain ⟨hst, hh, hm, hr, -⟩ := precharging_of_command hs (.inr hp)
  refine SameLeases.sound (s := s.setOp b _) ⟨rfl, rfl⟩ (leaseSound_setOp hs ?_)
  simp [BankStateSound, hst, hh, hm, hr]

/-- A burst on a bank with no row command in flight, issued or come to its end, leaves the bank sound. -/
theorem leaseSound_burst {b : Bank} {o : BankOp} {s : State} (hs : LeaseSound s)
    (hn : noRowFlight (s.op b)) (hp : o.pending = (s.op b).pending) (hf : noRowFlight o) :
    LeaseSound (s.setOp b o) := by
  have hst := (hs b).1
  refine leaseSound_setOp hs ?_
  unfold BankStateSound at hst ⊢
  cases hb : (s.bank b).state <;> simp_all [noRowFlight]

end Sys2Proof.Leases
end

section
/-! PROOFS. Every command keeps the laws of the bank records (O6): the operations of the units, the path
of a received frame, what the arbiter takes, and the commands one by one. -/

namespace Sys2Proof.Leases

open Sys2Proof Sys2Proof.Machine Sys2Proof.Safety

/-! ## What the arbiter takes (R77, R79) -/

/-- R72, R73: what makes a PRECHARGE or a burst one that the arbiter may take. -/
def ChoiceReady (s : State) : BusChoice → Prop
  | .precharge b => (s.op b).prechargeEligible = true
  | .burst i => s.burstReadyAt i = true
  | .maint _ | .activate _ => True

theorem bankChoice_ready {s : State} {c : BusChoice} (h : s.bankChoice = some c) :
    ChoiceReady s c := by
  unfold State.bankChoice at h
  split at h
  · split at h
    next b hb =>
      cases h
      exact List.find?_some (p := fun b => (s.op b).prechargeEligible) hb
    · split at h
      · cases h
        trivial
      · obtain ⟨i, hi, rfl⟩ := Option.map_eq_some_iff.mp h
        exact List.find?_some (p := fun i => s.burstReadyAt i) hi
  · cases h

theorem claimed_ready {s : State} {k : Claim} {c : BusChoice} (h : s.claimed k = some c) :
    ChoiceReady s c := by
  cases k with
  | maint o =>
    obtain ⟨-, rfl⟩ : _ ∧ BusChoice.maint o = c := by simpa [State.claimed] using h
    trivial
  | precharge b =>
    obtain ⟨⟨-, hb⟩, rfl⟩ : (_ ∧ (s.op b).prechargeEligible = true) ∧ BusChoice.precharge b = c := by
      simpa [State.claimed] using h
    exact hb
  | activate b =>
    obtain ⟨-, rfl⟩ : _ ∧ BusChoice.activate b = c := by simpa [State.claimed] using h
    trivial
  | burst h' b =>
    obtain ⟨-, i, hi, rfl⟩ : _ ∧ ∃ i, s.burstOf h' b = some i ∧ BusChoice.burst i = c := by
      simpa [State.claimed] using h
    exact (Bool.and_eq_true_iff.mp (List.find?_some (p := fun i => s.burstReadyAt i && _) hi)).1

/-- R79: a PRECHARGE or a burst that the arbiter takes is eligible. -/
theorem arbiter_ready {s : State} {c : BusChoice} (h : s.arbiter = some c) : ChoiceReady s c := by
  unfold State.arbiter State.rankChoice at h
  split at h
  · split at h
    next c' hf =>
      cases h
      unfold State.firstChoice at hf
      split at hf
      · cases hf
      · split at hf
        · exact claimed_ready hf
        · cases hf
    · split at h
      · cases h
        trivial
      · exact bankChoice_ready h
  · cases h

theorem issueBurst_sound {i : Nat} {s : State} (hs : LeaseSound s) (hi : s.burstReadyAt i = true) :
    LeaseSound (issueBurst i s) := by
  unfold State.burstReadyAt at hi
  unfold issueBurst
  split
  · exact hs
  next e he =>
    simp only [he, BankOp.burstEligible, Bool.and_eq_true, decide_eq_true_eq] at hi
    obtain ⟨-, ⟨-, -⟩, hf⟩ := hi
    have hop : ∀ f, f = Flight.readBurst ∨ f = .writeBurst → LeaseSound
        ((s.setList (s.xfer.list.set i { e with issued := e.issued + 1 })).setOp e.bank
          { s.op e.bank with inFlight := f, due := some (s.now + Config.burstTime) }) := by
      rintro f (rfl | rfl) <;>
        exact leaseSound_burst (SameLeases.sound ⟨rfl, rfl⟩ hs) (by simp [noRowFlight, hf]) rfl
          (by simp [noRowFlight])
    have hread := hop .readBurst (.inl rfl)
    have hwrite := hop .writeBurst (.inr rfl)
    cases hk : e.kind
    · exact SameLeases.sound ⟨rfl, rfl⟩ hread
    · dsimp only
      split
      · exact (sameLeases_answerStatus _ _ _ _).sound (SameLeases.sound ⟨rfl, rfl⟩ hwrite)
      · exact SameLeases.sound ⟨rfl, rfl⟩ hwrite

theorem retireEntry_sound (i : Nat) (e : Transfer) {s : State} (hs : LeaseSound s) :
    LeaseSound (retireEntry i e s) := by
  unfold retireEntry
  refine (sameLeases_takeIntake _).sound (finishHolder_sound _ _ ?_)
  split
  · split
    · exact hs
    · exact (sameLeases_answer _ _ _ _ _).sound (SameLeases.sound ⟨rfl, rfl⟩ hs)
  · exact hs

theorem countBurst_sound (i : Nat) {s : State} (hs : LeaseSound s) : LeaseSound (countBurst i s) := by
  unfold countBurst
  split
  · exact hs
  · dsimp only
    split
    · exact retireEntry_sound _ _ hs
    · exact hs

theorem completeBurst_sound {b : Bank} {s : State} (hs : LeaseSound s)
    (hf : (s.op b).inFlight = .readBurst ∨ (s.op b).inFlight = .writeBurst) :
    LeaseSound (completeBurst b s) := by
  have hop : LeaseSound (s.setOp b ((s.op b).landBurst s.now)) := by
    rcases hf with hf | hf <;>
      exact leaseSound_burst hs (by simp [noRowFlight, hf]) (by simp [BankOp.landBurst, hf])
        (by simp [BankOp.landBurst, hf, noRowFlight])
  unfold completeBurst
  dsimp only
  split
  · exact hop
  · exact countBurst_sound _ hop

/-! ## The units -/

theorem afterAccountOp_sound {s : State} (hs : LeaseSound s) : LeaseSound (afterAccountOp s) := by
  have hoff := (sameLeases_makeAccountOffer s).sound hs
  unfold afterAccountOp
  split
  · exact hoff
  · split
    · split
      · exact hoff
      · exact removeReason_sound .refresh (s := s.setAccount _) hs
    · exact removeReason_sound .refresh hs

theorem abandon_sound (r : AbandonReason) {s : State} (hs : LeaseSound s) :
    LeaseSound (abandon r s) :=
  (sameLeases_resolveProposal _ _).sound (removeReason_sound .config (s := s.setAgree _) hs)

theorem detachAgreement_sound (h : HostId) {s : State} (hs : LeaseSound s) :
    LeaseSound (detachAgreement h s) := by
  unfold detachAgreement
  split
  · split
    · exact abandon_sound _ hs
    · split
      · exact (sameLeases_judgeBallot _).sound (s := s.setAgree _) hs
      · exact hs
  all_goals exact hs

theorem exitCause_sound {s : State} (hs : LeaseSound s) : LeaseSound (exitCause s) := by
  unfold exitCause
  split
  · exact hs
  · exact hs
  · split
    · exact (sameLeases_offerExit _).sound (s := s.setStandby _) hs
    · exact removeReason_sound .standby (s := withdraw .standby (s.setStandby _)) hs
  · exact (sameLeases_offerExit s).sound hs

theorem linkDown_sound (h : HostId) {s : State} (hs : LeaseSound s) : LeaseSound (linkDown h s) := by
  have hdown : ∀ x, LeaseSound (s.setHost h x) := fun x => (sameLeases_setHost s h x).sound hs
  unfold linkDown
  dsimp only
  split
  · exact (sameLeases_takeIntake _).sound ((sameLeases_notifyAttached _ _).sound
      ((sameLeases_leavePark h _).sound (detachAgreement_sound h (tearDown_sound h (hdown _)))))
  · exact (sameLeases_takeIntake _).sound ((sameLeases_notifyAttached _ _).sound
      (tearDown_sound h (hdown _)))
  all_goals exact hdown _

theorem becomeReady_sound {s : State} (hs : LeaseSound s) : LeaseSound (becomeReady s) :=
  (sameLeases_completeJoins _).sound (removeReason_sound .startup (s := s.setSeq _) hs)

theorem laneTrained_sound (w : Sweep) {s : State} (hs : LeaseSound s) :
    LeaseSound (laneTrained w s) := by
  have hatt : ∀ lane kind q, LeaseSound (beginAttempt lane kind (s.setSeq q)) := fun lane kind q =>
    (sameLeases_beginAttempt lane kind _).sound (s := s.setSeq q) hs
  unfold laneTrained
  split
  · dsimp only
    split
    · exact becomeReady_sound (s := s.setSeq _) hs
    · exact hatt _ _ _
  · split
    · exact hs
    · dsimp only
      split
      · exact (sameLeases_applyBurstOrder _).sound (SameLeases.sound ⟨rfl, rfl⟩ hs)
      · exact hatt _ _ _

theorem attemptEnds_sound (w : Sweep) {s : State} (hs : LeaseSound s) :
    LeaseSound (attemptEnds w s) := by
  have hatt := fun kind => (sameLeases_beginAttempt w.lane kind s).sound hs
  unfold attemptEnds
  split
  · split
    · exact hatt _
    · exact (sameLeases_refuseJoining _).sound (s := s.setSeq _) hs
  · split
    · exact hs
    · split
      · exact hatt _
      · exact abandon_sound _ (s := s.setSeq _) hs

theorem actOnSample_sound (sample : Bool) (w : Sweep) {s : State} (hs : LeaseSound s) :
    LeaseSound (actOnSample sample w s) := by
  unfold actOnSample
  split
  · exact laneTrained_sound w hs
  · split
    · exact attemptEnds_sound w hs
    · exact (sameLeases_offerStep _).sound (s := s.setSeq _) hs

theorem landTrainStep_sound (lane : Lane) (sample : Bool) {s : State} (hs : LeaseSound s) :
    LeaseSound (landTrainStep lane sample s) := by
  have hl : ∀ q, LeaseSound ((landMaint .active s).setSeq q) := fun q =>
    SameLeases.sound ⟨rfl, rfl⟩ hs
  have hr : ∀ u, LeaseSound u → LeaseSound (restoreCapture lane u) := fun u hu =>
    SameLeases.sound ⟨rfl, rfl⟩ hu
  refine hr _ ?_
  split
  · exact hl _
  · exact actOnSample_sound sample _ (hl _)

theorem sameLeases_landModeLoad (m : ModeSetting) (by_ : Requester) (s : State) :
    SameLeases s (landModeLoad m by_ s) := by
  have hl : SameLeases s (loadSetting m (landMaint .active s)) := by cases m <;> exact ⟨rfl, rfl⟩
  unfold landModeLoad countModeLoad
  dsimp only
  split
  · split <;> exact hl.trans ⟨rfl, rfl⟩
  · exact hl.trans ⟨rfl, rfl⟩

theorem commitProposal_sound {s : State} (hs : LeaseSound s) : LeaseSound (commitProposal s) := by
  have hset : ∀ u a, LeaseSound u → LeaseSound (State.setAgree u a) := fun u a hu =>
    SameLeases.sound ⟨rfl, rfl⟩ hu
  exact (sameLeases_judgeAccount _).sound ((sameLeases_resolveProposal _ _).sound
    (removeReason_sound .config (hset _ _ (recheckWaiters_sound (hset _ _ hs)))))

theorem landEnter_sound {s : State} (hs : LeaseSound s) : LeaseSound (landEnter s) := by
  have hstop : ∀ u, LeaseSound u → LeaseSound (stopAccount u) := fun u hu =>
    removeReason_sound .refresh (s := withdraw .account (u.setAccount _)) hu
  unfold landEnter
  dsimp only
  split
  · exact (sameLeases_offerExit _).sound ((sameLeases_notifyAttached _ _).sound (hstop _ hs))
  · exact (sameLeases_notifyAttached _ _).sound (hstop _ hs)

theorem landExit_sound {s : State} (hs : LeaseSound s) : LeaseSound (landExit s) :=
  (sameLeases_notifyAttached _ _).sound ((sameLeases_judgeAccount _).sound
    (SameLeases.sound ⟨rfl, rfl⟩
      (removeReason_sound .standby (s := (landMaint .active s).setStandby _) hs)))

theorem expireInterval_sound {s : State} (hs : LeaseSound s) : LeaseSound (expireInterval s) := by
  unfold expireInterval raiseOwed
  dsimp only
  have hj : LeaseSound (judgeAccount ((restartInterval s).setAccount
      { (restartInterval s).account with owed := (restartInterval s).account.owed + 1 })) :=
    (sameLeases_judgeAccount _).sound (SameLeases.sound ⟨rfl, rfl⟩ hs)
  split
  · split
    · exact massRevoke_sound .refresh hj
    · exact hj
  · exact SameLeases.sound ⟨rfl, rfl⟩ hs

theorem sameLeases_endLock (s : State) : SameLeases s (endLock s) := by
  have hj : ∀ q a, SameLeases s
      (judgeAccount ((offer .longCal .sequencer (s.setSeq q)).setAccount a)) := fun q a =>
    SameLeases.trans ⟨rfl, rfl⟩ (sameLeases_judgeAccount _)
  unfold endLock
  dsimp only
  split
  · exact (hj _ _).trans (sameLeases_makeAccountOffer _)
  · exact hj _ _

/-! ## Requests -/

theorem sameLeases_discardFrame (h : HostId) (f : FrameHdr) (s : State) :
    SameLeases s (discardFrame h f s) := by
  unfold discardFrame
  split
  · exact .refl s
  · exact ⟨rfl, rfl⟩
  · exact ⟨rfl, rfl⟩

theorem deliver_sound (h : HostId) (f : FrameHdr) (tagged : Bool) {act : State → State} {s : State}
    (ha : ∀ u, LeaseSound u → LeaseSound (act u)) (hs : LeaseSound s) :
    LeaseSound (deliver h f tagged act s) := by
  unfold deliver
  split
  · exact ha _ (SameLeases.sound ⟨rfl, rfl⟩ hs)
  · exact (sameLeases_discardFrame h f s).sound hs

theorem request_sound (h : HostId) (f : FrameHdr) (tag : Tag) (kind : ReqKind)
    {act : State → State} {s : State} (ha : ∀ u, LeaseSound u → LeaseSound (act u))
    (hs : LeaseSound s) : LeaseSound (request h f tag kind act s) := by
  refine deliver_sound h f true (fun u hu => ?_) hs
  unfold takeRequest
  split
  · exact hu
  · split
    · exact hu
    · exact ha _ (SameLeases.sound ⟨rfl, rfl⟩ hu)

theorem requestAttached_sound (h : HostId) (f : FrameHdr) (tag : Tag) (kind : ReqKind)
    {act : State → State} {s : State} (ha : ∀ u, LeaseSound u → LeaseSound (act u))
    (hs : LeaseSound s) : LeaseSound (request h f tag kind (attachedOnly h tag act) s) := by
  refine request_sound h f tag kind (fun u hu => ?_) hs
  unfold attachedOnly
  split
  · exact ha u hu
  · exact (sameLeases_answerStatus _ _ _ _).sound hu

/-- A host that neither holds nor waits on a bank stands nowhere in its lists. -/
theorem not_mem_bankHosts {s : State} {h : HostId} {b : Bank} (hh : s.holds h b = false)
    (hw : s.waits h b = false) : h ∉ bankHosts (s.bank b) := by
  simp only [holds_false_iff, waits_false_iff, BankRecord.holder, BankRecord.waiter,
    List.find?_eq_none, decide_eq_true_eq] at hh hw
  simp only [bankHosts, List.mem_append, List.mem_map, not_or, not_exists, not_and]
  exact ⟨hh, hw⟩

/-- A joining holder at the tail of a SHARED bank with an empty queue. -/
theorem appendHolder_sound {b : Bank} {x : Holder} {s : State} (hs : LeaseSound s)
    (hst : (s.bank b).state = .opened ∨ (s.bank b).state = .activating)
    (hm : (s.bank b).mode = some .shared) (hn : x.host ∉ bankHosts (s.bank b)) :
    LeaseSound (appendHolder b x s) := by
  obtain ⟨hb, hl⟩ := hs b
  refine leaseSound_setBank hs ?_ ⟨?_, by simp [hm]⟩
  · unfold BankStateSound at hb ⊢
    rcases hst with h | h <;> simp_all
  · have hp : (bankHosts { s.bank b with holders := (s.bank b).holders ++ [x] }).Perm
        (x.host :: bankHosts (s.bank b)) := by
      simp only [bankHosts, List.map_append, List.map_cons, List.map_nil, List.append_assoc,
        List.singleton_append]
      exact List.perm_middle
    exact hp.nodup_iff.mpr (List.nodup_cons.mpr ⟨hn, hl.1⟩)

theorem admitOpen_sound {h : HostId} {tag : Tag} {b : Bank} {row : Row} {mode : LeaseMode}
    {wait : BitVec 16} {s : State} (hs : LeaseSound s) (hn : h ∉ bankHosts (s.bank b)) :
    LeaseSound (admitOpen h tag b row mode wait s) := by
  unfold admitOpen
  split
  next hj =>
    simp only [State.joinsAtOnce, Bool.and_eq_true, Bool.or_eq_true, decide_eq_true_eq] at hj
    obtain ⟨⟨⟨⟨⟨-, hst⟩, hm⟩, -⟩, -⟩, -⟩ := hj
    unfold joinBank
    split
    · exact (sameLeases_answerStatus _ _ _ _).sound (appendHolder_sound hs hst hm hn)
    · exact appendHolder_sound hs hst hm hn
  · split
    next hg =>
      simp only [State.grantsFromClosed, Bool.and_eq_true, decide_eq_true_eq] at hg
      exact grant_sound hg.1.2 (by simp) ⟨by simp [bankHosts], by simp⟩ hs
    · refine revokeOverstayed_sound b (leaseSound_setBank hs (hs b).1 ⟨?_, (hs b).2.2⟩)
      simp only [bankHosts, List.map_append, List.map_cons, List.map_nil, ← List.append_assoc]
      exact (hs b).2.1.append (by simp) (by simpa [bankHosts, not_or] using hn)

theorem takeOpen_sound (h : HostId) (tag : Tag) (bank : Byte) (row : BitVec 16) (mode : LeaseMode)
    (wait : BitVec 16) {s : State} (hs : LeaseSound s) :
    LeaseSound (takeOpen h tag bank row mode wait s) := by
  have hans := fun st => (sameLeases_answerStatus h tag st s).sound hs
  unfold takeOpen
  split
  · split
    · exact hans _
    next hr =>
      refine admitOpen_sound hs ?_
      unfold openRefusal at hr
      split at hr
      · cases hr
      · split at hr
        · cases hr
        next hno =>
          simp only [Bool.or_eq_true, not_or, Bool.not_eq_true] at hno
          exact not_mem_bankHosts hno.1 hno.2
  · exact hans _

theorem takeClose_sound (h : HostId) (tag : Tag) (bank : Byte) {s : State} (hs : LeaseSound s) :
    LeaseSound (takeClose h tag bank s) := by
  have hans := fun st => (sameLeases_answerStatus h tag st s).sound hs
  unfold takeClose closeAsHolder closeAsWaiter
  split
  · exact hans _
  · split
    next hx =>
      split
      · exact closeHolder_sound _ h (some tag) hs
      · exact setHolder_sound (holder_host hx).1 hs
      · exact hans _
      · exact hans _
    · split
      · exact (sameLeases_answerStatus _ _ _ _).sound (withdrawWaiter_sound _ h .withdrawn hs)
      · exact hans _

theorem takeJoin_sound (h : HostId) (tag : Tag) {s : State} (hs : LeaseSound s) :
    LeaseSound (takeJoin h tag s) := by
  have hans := fun st => (sameLeases_answerStatus h tag st s).sound hs
  unfold takeJoin
  split
  · split
    · exact hans _
    · exact (sameLeases_completeJoins _).sound (exitCause_sound (s := s.setPort h _) hs)
  all_goals exact hans _

theorem takeLeave_sound (h : HostId) {s : State} (hs : LeaseSound s) : LeaseSound (takeLeave h s) := by
  have hport : LeaseSound (s.setPort h .leaving) := (sameLeases_setHost s h _).sound hs
  exact (sameLeases_completeLeave h _).sound ((sameLeases_leavePark h _).sound
    (detachAgreement_sound h (withdrawAndClose_sound h hport)))

theorem sameLeases_handTransfer (q : TransferReq) (s : State) : SameLeases s (handTransfer q s) := by
  unfold handTransfer
  split
  · exact sameLeases_checkTransfer q s
  · exact ⟨rfl, rfl⟩

theorem sameLeases_transferRequest (q : TransferReq) (s : State) :
    SameLeases s (transferRequest q s) := by
  unfold transferRequest
  split
  · exact sameLeases_handTransfer q s
  · exact sameLeases_handTransfer q s
  all_goals exact sameLeases_answerStatus _ _ _ s

theorem sameLeases_postProposal (h : HostId) (tag : Tag) (items : List ChangeItem) (s : State) :
    SameLeases s (postProposal h tag items s) := by
  have ha : ∀ a p, SameLeases s (answer h tag .ok p (s.setAgree a)) := fun a p =>
    SameLeases.trans ⟨rfl, rfl⟩ (sameLeases_answer _ _ _ _ _)
  exact (ha _ _).trans ((sameLeases_notifyEach _ _).trans (sameLeases_judgeBallot _))

theorem sameLeases_takePropose (h : HostId) (tag : Tag) (base : BitVec 16) (items : List RawItem)
    (s : State) : SameLeases s (takePropose h tag base items s) := by
  have hans := fun st => sameLeases_answerStatus h tag st s
  unfold takePropose
  split
  · exact hans _
  · split
    · exact hans _
    · split
      · exact hans _
      · split
        · exact sameLeases_answer _ _ _ _ _
        · exact sameLeases_postProposal _ _ _ s

theorem takeVote_sound (h : HostId) (tag : Tag) (number : Seq) (accept : Bool) {s : State}
    (hs : LeaseSound s) : LeaseSound (takeVote h tag number accept s) := by
  have hans := fun st => (sameLeases_answerStatus h tag st s).sound hs
  unfold takeVote castVote
  split
  · split
    · exact hans _
    · dsimp only
      split
      · exact (sameLeases_judgeBallot _).sound (s := (answerStatus h tag .ok s).setAgree _) (hans _)
      · exact abandon_sound _ (hans _)
  · exact hans _

theorem sameLeases_takePark (h : HostId) (tag : Tag) (s : State) : SameLeases s (takePark h tag s) := by
  unfold takePark
  split
  · exact sameLeases_answerStatus _ _ _ s
  · exact SameLeases.trans (t := s.setStandby _) ⟨rfl, rfl⟩ (sameLeases_answerStatus _ _ _ _)

theorem takeUnpark_sound (h : HostId) (tag : Tag) {s : State} (hs : LeaseSound s) :
    LeaseSound (takeUnpark h tag s) := by
  have hans := (sameLeases_answerStatus h tag .ok s).sound hs
  unfold takeUnpark
  dsimp only
  split
  · exact exitCause_sound (s := leavePark h _) hans
  · exact hans

theorem sameLeases_takeQueryBank (h : HostId) (tag : Tag) (bank : Byte) (s : State) :
    SameLeases s (takeQueryBank h tag bank s) := by
  unfold takeQueryBank
  split <;> exact sameLeases_answer _ _ _ _ s

theorem takeNak_sound (h : HostId) (n : Seq) {s : State} (hs : LeaseSound s) :
    LeaseSound (takeNak h n s) := by
  unfold takeNak
  dsimp only
  split
  · split
    · exact linkDown_sound h hs
    · exact hs
  · split <;> exact hs

theorem sameLeases_takeNoteAck (h : HostId) (n : Seq) (s : State) :
    SameLeases s (takeNoteAck h n s) := by
  unfold takeNoteAck
  dsimp only
  split <;> exact ⟨rfl, rfl⟩

theorem sameLeases_countIdle (h : HostId) (s : State) : SameLeases s (countIdle h s) := by
  unfold countIdle
  dsimp only
  split <;> exact ⟨rfl, rfl⟩

end Sys2Proof.Leases
end

section
/-! PROOFS. The commands one by one: each keeps the laws of the bank records, and so does every step. -/

namespace Sys2Proof.Leases

open Sys2Proof Sys2Proof.Machine Sys2Proof.Safety

/-- Every next state of an outcome meets the laws of the bank records. -/
def OutcomeSound (o : Host.Outcome State Fault Refusal) : Prop := ∀ t, o = .next t → LeaseSound t

theorem outcomeSound_next {s : State} (hs : LeaseSound s) : OutcomeSound (.next s) := by
  rintro t ⟨⟩
  exact hs

/-- Log 3: an event acts where its condition holds, and leaves the state as it is otherwise. -/
theorem outcomeSound_ite {p : Prop} [Decidable p] {s t : State} (hs : LeaseSound s)
    (ht : p → LeaseSound t) : OutcomeSound (if p then .next t else .next s) := by
  split
  next hp => exact outcomeSound_next (ht hp)
  · exact outcomeSound_next hs

/-! ## Commands that leave the lease table alone -/

section Commands

variable {s : State} (hs : LeaseSound s)

include hs

theorem issueMaint_sound (o : Offer) : LeaseSound (issueMaint o s) := SameLeases.sound ⟨rfl, rfl⟩ hs

theorem landMaint_sound (c : ChannelState) : LeaseSound (landMaint c s) :=
  SameLeases.sound ⟨rfl, rfl⟩ hs

theorem modLink_sound (h : HostId) (f : Link → Link) : LeaseSound (s.modLink h f) :=
  (sameLeases_modLink s h f).sound hs

theorem execResetNRelease_sound : OutcomeSound (execResetNRelease s) := by
  unfold execResetNRelease
  split <;> exact outcomeSound_next (SameLeases.sound ⟨rfl, rfl⟩ hs)

theorem execLongCalIssue_sound : OutcomeSound (execLongCalIssue s) := by
  unfold execLongCalIssue
  split
  · exact outcomeSound_next hs
  · exact outcomeSound_ite hs fun _ => SameLeases.sound ⟨rfl, rfl⟩ hs

theorem execModeLoadIssue_sound : OutcomeSound (execModeLoadIssue s) := by
  unfold execModeLoadIssue
  split
  · exact outcomeSound_next hs
  · split
    · split <;> exact outcomeSound_next (SameLeases.sound ⟨rfl, rfl⟩ hs)
    all_goals exact outcomeSound_next hs

theorem execTrainStepIssue_sound : OutcomeSound (execTrainStepIssue s) := by
  unfold execTrainStepIssue
  split
  · exact outcomeSound_next hs
  · split
    · exact outcomeSound_next (SameLeases.sound ⟨rfl, rfl⟩ hs)
    all_goals exact outcomeSound_next hs

theorem execModeLoadCompletion_sound : OutcomeSound (execModeLoadCompletion s) := by
  unfold execModeLoadCompletion
  split
  · exact outcomeSound_next hs
  · split
    · exact outcomeSound_next ((sameLeases_landModeLoad _ _ s).sound hs)
    all_goals exact outcomeSound_next hs

theorem execTrainStepCompletion_sound (sample : Bool) :
    OutcomeSound (execTrainStepCompletion sample s) := by
  unfold execTrainStepCompletion
  split
  · exact outcomeSound_next hs
  · split
    · exact outcomeSound_next (landTrainStep_sound _ sample hs)
    all_goals exact outcomeSound_next hs

/-- REFRESH_ISSUE, SHORT_CAL_ISSUE and STANDBY_ENTER_ISSUE: an offer of one kind is issued. -/
theorem issueTaken_sound (f : Offer → State) (hf : ∀ o, LeaseSound (f o)) (op : MaintOp) :
    OutcomeSound (match s.maintTaken with
      | none => .next s
      | some o => if o.op = op then .next (f o) else .next s) := by
  split
  · exact outcomeSound_next hs
  · exact outcomeSound_ite hs fun _ => hf _

/-! ## Row commands, bursts and completions -/

theorem execActivateIssue_sound : OutcomeSound (execActivateIssue s) := by
  unfold execActivateIssue
  split
  · exact outcomeSound_next (issueActivate_sound _ hs)
  all_goals exact outcomeSound_next hs

theorem execPrechargeIssue_sound : OutcomeSound (execPrechargeIssue s) := by
  unfold execPrechargeIssue
  split
  next b hb =>
    exact outcomeSound_next
      (issuePrecharge_sound hs ((prechargeEligible_iff s b).mp (arbiter_ready hb)).1)
  all_goals exact outcomeSound_next hs

theorem execBurstIssue_sound : OutcomeSound (execBurstIssue s) := by
  unfold execBurstIssue
  split
  next i hi => exact outcomeSound_next (issueBurst_sound hs (arbiter_ready hi))
  all_goals exact outcomeSound_next hs

theorem execActivateCompletion_sound (b : Bank) : OutcomeSound (execActivateCompletion b s) := by
  unfold execActivateCompletion
  split
  next hf =>
    exact outcomeSound_ite hs fun _ =>
      landActivate_sound ((sameLeases_keepPlace s).sound hs) (by simpa using hf)
  all_goals exact outcomeSound_next hs

theorem execPrechargeCompletion_sound (b : Bank) : OutcomeSound (execPrechargeCompletion b s) := by
  unfold execPrechargeCompletion
  split
  next hf => exact outcomeSound_ite hs fun _ => landPrecharge_sound hs hf
  all_goals exact outcomeSound_next hs

theorem execBurstCompletion_sound (b : Bank) : OutcomeSound (execBurstCompletion b s) := by
  refine outcomeSound_ite hs fun hd => completeBurst_sound ((sameLeases_keepPlace s).sound hs) ?_
  simp only [State.burstDue, Bool.and_eq_true, Bool.or_eq_true, decide_eq_true_eq] at hd
  exact hd.1

/-! ## Deadlines -/

theorem execHoldDeadlineExpiry_sound (b : Bank) (h : HostId) :
    OutcomeSound (execHoldDeadlineExpiry b h s) := by
  unfold execHoldDeadlineExpiry
  split
  · exact outcomeSound_next hs
  next hx =>
    refine outcomeSound_ite hs fun _ => ?_
    unfold expireHold
    split
    · exact (sameLeases_notify _ _ _).sound (setHolder_sound (holder_host hx).1 hs)
    · exact (sameLeases_takeIntake _).sound (revoke_sound b h .holdExpired hs)

theorem execWaitDeadlineExpiry_sound (b : Bank) (h : HostId) :
    OutcomeSound (execWaitDeadlineExpiry b h s) := by
  unfold execWaitDeadlineExpiry
  split
  · exact outcomeSound_next hs
  · exact outcomeSound_ite hs fun _ => withdrawWaiter_sound b h .timedOut hs

theorem execDrainDeadlineExpiry_sound : OutcomeSound (execDrainDeadlineExpiry s) := by
  refine outcomeSound_ite hs fun _ => massRevoke_sound .config ?_
  unfold clearDrainDeadline
  split <;> exact hs

/-! ## Links and requests -/

theorem execReceiveIdleFrame_sound (h : HostId) (f : FrameHdr) :
    OutcomeSound (execReceiveIdleFrame h f s) := by
  unfold execReceiveIdleFrame
  split
  · exact outcomeSound_next hs
  · exact outcomeSound_next ((sameLeases_countIdle h s).sound hs)
  · exact outcomeSound_next (modLink_sound hs h _)

theorem execReceiveNakFrame_sound (h : HostId) (f : FrameHdr) (n : Seq) :
    OutcomeSound (execReceiveNakFrame h f n s) := by
  unfold execReceiveNakFrame
  split
  · exact outcomeSound_next hs
  · exact outcomeSound_next (modLink_sound hs h _)
  · exact outcomeSound_next (takeNak_sound h n (modLink_sound hs h _))

theorem execReceiveCorruptedFrame_sound (h : HostId) :
    OutcomeSound (execReceiveCorruptedFrame h s) := by
  unfold execReceiveCorruptedFrame
  split
  · exact outcomeSound_next hs
  · exact outcomeSound_next (modLink_sound hs h _)
  · exact outcomeSound_next (modLink_sound hs h _)

theorem deliverMalformed_sound (h : HostId) (f : FrameHdr) (tagged : Bool) :
    OutcomeSound (.next (deliver h f tagged (malformed h) s)) :=
  outcomeSound_next (deliver_sound h f tagged (fun u hu => (sameLeases_notify h _ u).sound hu) hs)

theorem transferRequest_sound (h : HostId) (f : FrameHdr) (tag : Tag) (kind : ReqKind)
    (q : TransferReq) : OutcomeSound (.next (request h f tag kind (transferRequest q) s)) :=
  outcomeSound_next
    (request_sound h f tag kind (fun u hu => (sameLeases_transferRequest q u).sound hu) hs)

theorem execWrite_sound (h : HostId) (f : FrameHdr) (tag : Tag) (bank bursts : Byte)
    (col : BitVec 16) (payload : List WriteBurst) :
    OutcomeSound (execWrite h f tag bank bursts col payload s) := by
  unfold execWrite
  split
  · exact transferRequest_sound hs _ _ _ _ _
  · exact deliverMalformed_sound hs _ _ _

theorem execPropose_sound (h : HostId) (f : FrameHdr) (tag : Tag) (base : BitVec 16)
    (items : List RawItem) : OutcomeSound (execPropose h f tag base items s) := by
  unfold execPropose
  split
  · exact outcomeSound_next (requestAttached_sound h f tag .propose
      (fun u hu => (sameLeases_takePropose h tag base items u).sound hu) hs)
  · exact deliverMalformed_sound hs _ _ _

theorem execMessageFrameDiscarded_sound (h : HostId) (f : FrameHdr) (tagged : Bool) :
    OutcomeSound (execMessageFrameDiscarded h f tagged s) := by
  unfold execMessageFrameDiscarded
  split
  · exact outcomeSound_next hs
  · exact outcomeSound_next ((sameLeases_discardFrame h f s).sound hs)

end Commands

theorem resetState_leaseSound : LeaseSound State.reset := by
  unfold LeaseSound BankStateSound BankListsSound noRowFlight
  intro b
  have hb : State.reset.bank b = BankRecord.reset := by simp [State.reset, State.bank]
  have ho : State.reset.op b = BankOp.reset := by simp [State.reset, Channel.reset, State.op]
  simp [hb, ho, BankRecord.reset, BankOp.reset, bankHosts]

/-- Every command keeps the laws of the bank records. -/
theorem exec_leaseSound (c : Instr) {s : State} (hs : LeaseSound s) : OutcomeSound (exec c s) := by
  cases c with
  | resetNAssert => exact outcomeSound_next (SameLeases.sound ⟨rfl, rfl⟩ resetState_leaseSound)
  | resetNRelease => exact execResetNRelease_sound hs
  | holdPhaseEnd => exact outcomeSound_ite hs fun _ => SameLeases.sound ⟨rfl, rfl⟩ hs
  | settlePhaseEnd => exact outcomeSound_ite hs fun _ => SameLeases.sound ⟨rfl, rfl⟩ hs
  | lockPhaseEnd => exact outcomeSound_ite hs fun _ => (sameLeases_endLock s).sound hs
  | intervalExpiry =>
    exact outcomeSound_ite hs fun _ => expireInterval_sound ((sameLeases_keepPlace s).sound hs)
  | holdDeadlineExpiry b h => exact execHoldDeadlineExpiry_sound hs b h
  | waitDeadlineExpiry b h => exact execWaitDeadlineExpiry_sound hs b h
  | ballotDeadlineExpiry => exact outcomeSound_ite hs fun _ => abandon_sound .timeout hs
  | drainDeadlineExpiry => exact execDrainDeadlineExpiry_sound hs
  | silenceDeadlineExpiry h => exact outcomeSound_ite hs fun _ => linkDown_sound h hs
  | quietEnd h => exact outcomeSound_ite hs fun _ => modLink_sound hs h _
  | sendTimerExpiry h => exact outcomeSound_ite hs fun _ => modLink_sound hs h _
  | sendFrame h => exact outcomeSound_ite hs fun _ => modLink_sound hs h _
  | receiveIdleFrame h f => exact execReceiveIdleFrame_sound hs h f
  | receiveNakFrame h f n => exact execReceiveNakFrame_sound hs h f n
  | receiveCorruptedFrame h => exact execReceiveCorruptedFrame_sound hs h
  | messageFrameDiscarded h f tagged => exact execMessageFrameDiscarded_sound hs h f tagged
  | malformedMessage h f tagged => exact deliverMalformed_sound hs h f tagged
  | join h f tag =>
    exact outcomeSound_next (request_sound h f tag .join (fun _ => takeJoin_sound h tag) hs)
  | joinComplete => exact outcomeSound_next ((sameLeases_completeJoins s).sound hs)
  | leave h f tag =>
    exact outcomeSound_next (requestAttached_sound h f tag .leave (fun _ => takeLeave_sound h) hs)
  | leaveComplete h => exact outcomeSound_next ((sameLeases_completeLeave h s).sound hs)
  | openLease h f tag bank row mode wait =>
    exact outcomeSound_next (requestAttached_sound h f tag .openLease
      (fun _ => takeOpen_sound h tag bank row mode wait) hs)
  | closeLease h f tag bank =>
    exact outcomeSound_next
      (requestAttached_sound h f tag .closeLease (fun _ => takeClose_sound h tag bank) hs)
  | closeComplete b h => exact outcomeSound_ite hs fun _ => finishHolder_sound b h hs
  | revocationFinish b h => exact outcomeSound_ite hs fun _ => finishHolder_sound b h hs
  | grantFromQueue b => exact outcomeSound_next (serveBank_sound b hs)
  | read h f tag bank bursts col => exact transferRequest_sound hs h f tag .read _
  | write h f tag bank bursts col payload => exact execWrite_sound hs h f tag bank bursts col payload
  | intakeTake => exact outcomeSound_next ((sameLeases_takeIntake s).sound hs)
  | propose h f tag base items => exact execPropose_sound hs h f tag base items
  | vote h f tag number accept =>
    exact outcomeSound_next
      (requestAttached_sound h f tag .vote (fun _ => takeVote_sound h tag number accept) hs)
  | drainComplete => exact outcomeSound_ite hs fun _ => (sameLeases_beginApply s).sound hs
  | commit => exact outcomeSound_ite hs fun _ => commitProposal_sound hs
  | park h f tag =>
    exact outcomeSound_next (requestAttached_sound h f tag .park
      (fun u hu => (sameLeases_takePark h tag u).sound hu) hs)
  | unpark h f tag =>
    exact outcomeSound_next
      (requestAttached_sound h f tag .unpark (fun _ => takeUnpark_sound h tag) hs)
  | standbyEntering => exact outcomeSound_ite hs fun _ => SameLeases.sound ⟨rfl, rfl⟩ hs
  | standbyEnterOffer => exact outcomeSound_ite hs fun _ => SameLeases.sound ⟨rfl, rfl⟩ hs
  | query h f tag =>
    exact outcomeSound_next (request_sound h f tag .query
      (fun u hu => (sameLeases_answer h tag .ok _ u).sound hu) hs)
  | queryBank h f tag bank =>
    exact outcomeSound_next (requestAttached_sound h f tag .queryBank
      (fun u hu => (sameLeases_takeQueryBank h tag bank u).sound hu) hs)
  | noteAck h f n =>
    exact outcomeSound_next
      (deliver_sound h f false (fun u hu => (sameLeases_takeNoteAck h n u).sound hu) hs)
  | notificationDelivery h => exact outcomeSound_next ((sameLeases_setHost s h _).sound hs)
  | refreshRequest => exact outcomeSound_ite hs fun _ => (sameLeases_makeAccountOffer s).sound hs
  | setupEnd b =>
    exact outcomeSound_ite hs fun _ => leaseSound_setOp ((sameLeases_keepPlace s).sound hs)
      (bankStateSound_op (hs b).1 rfl rfl)
  | commandSlotEnd => exact outcomeSound_ite hs fun _ => SameLeases.sound ⟨rfl, rfl⟩ hs
  | writeRecoveryEnd b =>
    exact outcomeSound_ite hs fun _ => leaseSound_setOp ((sameLeases_keepPlace s).sound hs)
      (bankStateSound_op (hs b).1 rfl rfl)
  | activateIssue => exact execActivateIssue_sound hs
  | prechargeIssue => exact execPrechargeIssue_sound hs
  | burstIssue => exact execBurstIssue_sound hs
  | refreshIssue => exact issueTaken_sound hs _ (issueMaint_sound hs) .refresh
  | shortCalIssue => exact issueTaken_sound hs _ (issueMaint_sound hs) .shortCal
  | longCalIssue => exact execLongCalIssue_sound hs
  | modeLoadIssue => exact execModeLoadIssue_sound hs
  | trainStepIssue => exact execTrainStepIssue_sound hs
  | standbyEnterIssue => exact issueTaken_sound hs _ (issueMaint_sound hs) .standbyEnter
  | standbyExitIssue =>
    exact issueTaken_sound hs (fun o => issueExit o s) (fun _ => SameLeases.sound ⟨rfl, rfl⟩ hs)
      .standbyExit
  | activateCompletion b => exact execActivateCompletion_sound hs b
  | prechargeCompletion b => exact execPrechargeCompletion_sound hs b
  | burstCompletion b => exact execBurstCompletion_sound hs b
  | refreshCompletion =>
    exact outcomeSound_ite hs fun _ => afterAccountOp_sound
      ((sameLeases_judgeAccount _).sound (landMaint_sound hs .active))
  | shortCalCompletion =>
    exact outcomeSound_ite hs fun _ => afterAccountOp_sound
      ((sameLeases_judgeAccount _).sound (landMaint_sound hs .active))
  | longCalCompletion =>
    exact outcomeSound_ite hs fun _ =>
      (sameLeases_beginAttempt 0 .startUp _).sound (landMaint_sound hs .active)
  | modeLoadCompletion => exact execModeLoadCompletion_sound hs
  | trainStepCompletion sample => exact execTrainStepCompletion_sound hs sample
  | standbyEnterCompletion => exact outcomeSound_ite hs fun _ => landEnter_sound hs
  | standbyExitCompletion => exact outcomeSound_ite hs fun _ => landExit_sound hs

/-- Settles O6: the command at the front of the queue keeps the laws, and a tick touches no bank. -/
theorem stepKeepsLeaseLaws : Obligations.StepKeepsLeaseLaws := by
  intro s t hs ht
  unfold step at ht
  split at ht
  · cases ht
    unfold State.idle
    split <;> exact hs
  next rest _ =>
    have hrest : LeaseSound { s with pending := rest } := SameLeases.sound ⟨rfl, rfl⟩ hs
    exact exec_leaseSound _ hrest t ht

end Sys2Proof.Leases
end

section
/-! PROOFS. The rules of one entry: what a CLOSE, a revocation and the end of an activation make of the
state, each written out once with the terms of the statements, by the case it acts in. -/

namespace Sys2Proof.Leases

open Sys2Proof Sys2Proof.Machine Sys2Proof.Safety

/-! ## Conditions after updates that do not touch them -/

@[simp] theorem setHost_holds (s : State) (h g : HostId) (x : HostSide) (b : Bank) :
    (s.setHost h x).holds g b = s.holds g b := rfl

@[simp] theorem setHost_waits (s : State) (h g : HostId) (x : HostSide) (b : Bank) :
    (s.setHost h x).waits g b = s.waits g b := rfl

/-- A bank record and a host's side do not meet. -/
theorem setBank_setHost (s : State) (b : Bank) (r : BankRecord) (h : HostId) (x : HostSide) :
    (s.setBank b r).setHost h x = (s.setHost h x).setBank b r := rfl

@[simp] theorem noneLeft_setHost (s : State) (h g : HostId) (x : HostSide) (b : Bank) :
    noneLeft (s.setHost h x) g b ↔ noneLeft s g b := Iff.rfl

theorem holder_none_iff {r : BankRecord} {h : HostId} :
    r.holder h = none ↔ ∀ x ∈ r.holders, x.host ≠ h := by
  simp [BankRecord.holder]

theorem waiter_none_iff {r : BankRecord} {h : HostId} :
    r.waiter h = none ↔ ∀ w ∈ r.waiters, w.host ≠ h := by
  simp [BankRecord.waiter]

/-! ## The entry of one host -/

/-- R5: each host has at most one holder entry on the bank. -/
def UniqueHolders (r : BankRecord) : Prop := (r.holders.map fun x => x.host).Nodup

theorem uniqueHolders_of_sound {r : BankRecord} (h : BankListsSound r) : UniqueHolders r :=
  (List.nodup_append.mp h.1).1

theorem UniqueHolders.eq {r : BankRecord} (hu : UniqueHolders r) {x y : Holder}
    (hx : x ∈ r.holders) (hy : y ∈ r.holders) (e : x.host = y.host) : x = y :=
  List.inj_on_of_nodup_map hu hx hy e

theorem UniqueHolders.holder_eq {r : BankRecord} (hu : UniqueHolders r) {x : Holder}
    (hx : x ∈ r.holders) : r.holder x.host = some x := by
  cases hf : r.holder x.host with
  | none => exact absurd rfl (holder_none_iff.mp hf x hx)
  | some y =>
    obtain ⟨hh, hm⟩ := holder_host hf
    rw [hu.eq hm hx hh]

/-- Replacing the one entry of a host changes that entry and no other. -/
theorem replaceHolder_eq_map {r : BankRecord} (hu : UniqueHolders r) {h : HostId} {x : Holder}
    (hx : r.holder h = some x) (f : Holder → Holder) :
    replaceHolder r.holders h (f x) = r.holders.map fun y => if y.host = h then f y else y := by
  obtain ⟨hh, hm⟩ := holder_host hx
  refine List.map_congr_left fun y hy => ?_
  by_cases e : y.host = h
  · simp [hu.eq hy hm (e.trans hh.symm)]
  · simp [e]

theorem filter_replaceHolder (l : List Holder) {h : HostId} {x : Holder} (hx : x.host = h) :
    ((replaceHolder l h x).filter fun y => decide (y.host ≠ h)) =
      l.filter fun y => decide (y.host ≠ h) := by
  induction l with
  | nil => rfl
  | cons y l ih =>
    simp only [replaceHolder, List.map_cons] at ih ⊢
    by_cases e : y.host = h <;> simp [e, hx] <;> simpa using ih

theorem setHolder_bank (b : Bank) (h : HostId) (x : Holder) (s : State) :
    (setHolder b h x s).bank b =
      { s.bank b with holders := replaceHolder (s.bank b).holders h x } := by
  simp [setHolder]

@[simp] theorem setHolder_host (b : Bank) (h g : HostId) (x : Holder) (s : State) :
    (setHolder b h x s).host g = s.host g := rfl

@[simp] theorem setHolder_xfer (b : Bank) (h : HostId) (x : Holder) (s : State) :
    (setHolder b h x s).xfer = s.xfer := rfl

@[simp] theorem noneLeft_setHolder (b c : Bank) (h g : HostId) (x : Holder) (s : State) :
    noneLeft (setHolder b h x s) g c ↔ noneLeft s g c := Iff.rfl

/-- The entry written is the one found. -/
theorem setHolder_holder {b : Bank} {h : HostId} {x y : Holder} {s : State}
    (hx : (s.bank b).holder h = some x) (hy : y.host = h) :
    ((setHolder b h y s).bank b).holder h = some y := by
  rw [setHolder_bank, BankRecord.holder, replaceHolder]
  unfold BankRecord.holder at hx
  revert hx
  induction (s.bank b).holders with
  | nil => simp
  | cons z l ih =>
    intro hx
    by_cases e : z.host = h
    · simp [e, hy]
    · simp only [List.find?_cons, e, decide_false] at hx
      simpa [e] using ih hx

/-- An entry that leaves may have been written before. -/
theorem holderGone_setHolder {b : Bank} {h : HostId} {x : Holder} {s : State} (hx : x.host = h) :
    holderGone b h (setHolder b h x s) = holderGone b h s := by
  have hop : (setHolder b h x s).op b = s.op b := rfl
  have hnow : (setHolder b h x s).now = s.now := rfl
  have hf := filter_replaceHolder (s.bank b).holders hx
  simp only [holderGone, setHolder_bank, hf, hop, hnow]
  split <;> simp [setHolder]

/-- A holder's leaving and the transfer list do not meet. -/
theorem holderGone_setList (b : Bank) (h : HostId) (l : List Transfer) (s : State) :
    holderGone b h (s.setList l) = (holderGone b h s).setList l := by
  by_cases hl : ((s.bank b).holders.filter fun x => decide (x.host ≠ h)) = [] <;>
    simp only [holderGone, State.setList_bank, hl, if_true, if_false] <;> rfl

/-! ## Waiters (R20) -/

theorem removeWaiter_eq (b : Bank) (h : HostId) (s : State) :
    removeWaiter b h s = (keepPlace s).setBank b
      { s.bank b with waiters := (s.bank b).waiters.filter fun y => decide (y.host ≠ h) } := by
  simp only [removeWaiter, ne_eq, decide_not]

/-- R20: a waiter is withdrawn and its OPEN answered. -/
theorem withdrawWaiter_eq {b : Bank} {h : HostId} {w : Waiter} {s : State} (st : Status)
    (hw : (s.bank b).waiter h = some w) :
    withdrawWaiter b h st s = ((keepPlace s).setBank b
      { s.bank b with
        waiters := (s.bank b).waiters.filter fun y => decide (y.host ≠ h) }).setHost h
      (answeredSide w.tag st .none (s.host h)) := by
  simp only [withdrawWaiter, hw, answerStatus_eq, removeWaiter_eq]
  rfl

/-! ## CLOSE (R21, R22) -/

/-- R21: a CLOSE of a holder of an OPEN bank that has no transfer left. -/
theorem closeHolder_leaves {b : Bank} {h : HostId} {x : Holder} {s : State} (tag : Option Tag)
    (hx : (s.bank b).holder h = some x) (ho : (s.bank b).state = .opened)
    (hn : noneLeft s h b) :
    closeHolder b h tag s = answerOpt h tag .ok (holderGone b h s) := by
  obtain ⟨hh, -⟩ := holder_host hx
  simp only [closeHolder, hx]
  rw [finishHolder_closing (setHolder_holder hx (by simpa using hh)) rfl
    (by simpa [setHolder_bank] using ho) hn, holderGone_setHolder (by simpa using hh)]

/-- R22: any other CLOSE of a holder waits for its transfers or for the activation. -/
theorem closeHolder_stays {b : Bank} {h : HostId} {x : Holder} {s : State} (tag : Option Tag)
    (hx : (s.bank b).holder h = some x)
    (hn : ¬((s.bank b).state = .opened ∧ noneLeft s h b)) :
    closeHolder b h tag s =
      setHolder b h { x with status := .closing, deadline := none, closeTag := tag } s := by
  simp only [closeHolder, hx]
  exact finishHolder_stays (by simpa [setHolder_bank] using hn)

/-! ## Revocation (R29, R30, R62) -/

/-- R62: the transfer list less the unbegun entries of a host on a bank. -/
def keptTransfers (s : State) (h : HostId) (b : Bank) : List Transfer :=
  s.xfer.list.filter fun e => !e.unbegunOf h b

/-- R62: a host's side once each of its unbegun transfers on the bank has been answered REVOKED. -/
def cancelledSide (s : State) (h : HostId) (b : Bank) : HostSide :=
  (s.xfer.list.filter fun e => e.unbegunOf h b).foldl
    (fun p e => answeredSide e.tag .revoked .none p) (s.host h)

theorem cancelUnbegun_eq (b : Bank) (h : HostId) (s : State) :
    cancelUnbegun b h s = (s.setList (keptTransfers s h b)).setHost h (cancelledSide s h b) :=
  foldl_answerStatus h .revoked _ _

theorem foldl_answeredSide_notes (l : List Transfer) (st : Status) (p : HostSide) :
    (l.foldl (fun p e => answeredSide e.tag st .none p) p).notes = p.notes := by
  induction l generalizing p with
  | nil => rfl
  | cons e l ih => rw [List.foldl_cons, ih, answeredSide_notes]

theorem foldl_answeredSide_port (l : List Transfer) (st : Status) (p : HostSide) :
    (l.foldl (fun p e => answeredSide e.tag st .none p) p).port = p.port := by
  induction l generalizing p with
  | nil => rfl
  | cons e l ih => rw [List.foldl_cons, ih, answeredSide_port]

@[simp] theorem cancelledSide_notes (s : State) (h : HostId) (b : Bank) :
    (cancelledSide s h b).notes = (s.host h).notes := foldl_answeredSide_notes _ _ _

@[simp] theorem cancelledSide_port (s : State) (h : HostId) (b : Bank) :
    (cancelledSide s h b).port = (s.host h).port := foldl_answeredSide_port _ _ _

/-- R61, R62: with its unbegun transfers gone, a host has one left where one has begun. -/
theorem noneLeft_kept (s : State) (h : HostId) (b : Bank) :
    noneLeft (s.setList (keptTransfers s h b)) h b ↔ hasBegun s h b = false := by
  simp only [noneLeft, hasBegun, keptTransfers, Transfer.unbegunOf, State.setList_xfer,
    List.any_eq_false, List.mem_filter, Bool.and_eq_true, Bool.not_eq_true', decide_eq_true_eq,
    Bool.and_eq_false_iff, decide_eq_false_iff_not]
  refine forall_congr' fun e => ?_
  by_cases hh : e.host = h <;> by_cases hb : e.bank = b <;> simp [hh, hb]

theorem noneLeft_hasBegun {s : State} {h : HostId} {b : Bank} (hn : noneLeft s h b) :
    hasBegun s h b = false :=
  (noneLeft_kept s h b).mp fun e he => hn e (List.mem_of_mem_filter he)

/-- R61: with no transfer left on the bank there is none to cancel. -/
theorem kept_of_noneLeft {s : State} {h : HostId} {b : Bank} (hn : noneLeft s h b) :
    keptTransfers s h b = s.xfer.list ∧ cancelledSide s h b = s.host h := by
  have hf : ∀ e ∈ s.xfer.list, e.unbegunOf h b = false := fun e he => by
    have := hn e he
    simp only [Transfer.unbegunOf, Bool.and_eq_false_iff, decide_eq_false_iff_not]
    tauto
  constructor
  · exact List.filter_eq_self.mpr fun e he => by simp [hf e he]
  · have : (s.xfer.list.filter fun e => e.unbegunOf h b) = [] :=
      List.filter_eq_nil_iff.mpr fun e he => by simp [hf e he]
    simp [cancelledSide, this]

/-- R32: a revocation reaches a holder that is ACTIVE or CLOSING. -/
def revocable (x : Holder) : Bool :=
  match x.status with
  | .active | .closing => true
  | .revoking _ => false

theorem revocable_iff (x : Holder) : revocable x = true ↔ ∀ r, x.status ≠ .revoking r := by
  unfold revocable
  split <;> simp_all

theorem revoke_none {b : Bank} {h : HostId} {s : State} (r : RevokeReason)
    (hx : (s.bank b).holder h = none) : revoke b h r s = s := by
  simp [revoke, hx]

/-- R32: a REVOKING holder keeps its reason. -/
theorem revoke_keeps {b : Bank} {h : HostId} {x : Holder} {s : State} {r : RevokeReason}
    (hr : r ≠ .hostLost) (hx : (s.bank b).holder h = some x) (hv : revocable x = false) :
    revoke b h r s = s := by
  obtain ⟨r', hs⟩ : ∃ r', x.status = .revoking r' := by
    unfold revocable at hv
    split at hv <;> simp_all
  cases r <;> simp_all [revoke]

theorem revoke_reaches {b : Bank} {h : HostId} {x : Holder} {s : State} {r : RevokeReason}
    (hr : r ≠ .hostLost) (hx : (s.bank b).holder h = some x) (hv : revocable x = true) :
    revoke b h r s = finishHolder b h
      (((setHolder b h (revoked r x) s).setList (keptTransfers s h b)).setHost h
        (cancelledSide s h b)) := by
  have hs := (revocable_iff x).mp hv
  have hc := cancelUnbegun_eq b h (setHolder b h (revoked r x) s)
  have he : revoke b h r s = finishHolder b h (cancelUnbegun b h (setHolder b h (revoked r x) s)) := by
    cases hst : x.status with
    | revoking r' => exact absurd hst (hs r')
    | active | closing => cases r <;> simp_all [revoke, revoked]
  rw [he, hc]
  rfl

/-- R30: on an OPEN bank a holder that is revoked with no begun transfer leaves in the same event. -/
theorem revoke_leaves {b : Bank} {h : HostId} {x : Holder} {s : State} {r : RevokeReason}
    (hr : r ≠ .hostLost) (hx : (s.bank b).holder h = some x) (hv : revocable x = true)
    (ho : (s.bank b).state = .opened) (hb : hasBegun s h b = false) :
    revoke b h r s =
      ((holderGone b h s).setList (keptTransfers s h b)).setHost h
        (answeredOptSide x.closeTag .ok
          (sideNotified true (.leaseRevoked b r) (cancelledSide s h b))) := by
  have hh := (holder_host hx).1
  have hset := setHolder_holder (b := b) (y := revoked r x) hx hh
  rw [revoke_reaches hr hx hv, finishHolder_revoking (x := revoked r x) (r := r)
    (s := ((setHolder b h (revoked r x) s).setList (keptTransfers s h b)).setHost h _) hset rfl hr
    (by simpa [setHolder_bank] using ho) ((noneLeft_kept s h b).mpr hb), answerOpt_eq, notify_eq,
    holderGone_setHost, holderGone_setList, holderGone_setHolder (x := revoked r x) hh]
  simp [revoked]

/-- R29: any other holder that is revoked stays as a REVOKING one. -/
theorem revoke_stays {b : Bank} {h : HostId} {x : Holder} {s : State} {r : RevokeReason}
    (hr : r ≠ .hostLost) (hx : (s.bank b).holder h = some x) (hv : revocable x = true)
    (hn : ¬((s.bank b).state = .opened ∧ hasBegun s h b = false)) :
    revoke b h r s =
      ((setHolder b h (revoked r x) s).setList (keptTransfers s h b)).setHost h
        (cancelledSide s h b) := by
  rw [revoke_reaches hr hx hv]
  refine finishHolder_stays ?_
  rintro ⟨ho, hl⟩
  exact hn ⟨by simpa [setHolder_bank] using ho, (noneLeft_kept s h b).mp hl⟩

/-! ## A lost host (R34, R63) -/

/-- R63: the transfer list once a lost host's transfers on the bank are gone or marked cancelled. -/
def lostTransfers (s : State) (h : HostId) (b : Bank) : List Transfer :=
  markCancelled (keptTransfers s h b) h b

theorem revoke_lost {b : Bank} {h : HostId} {x : Holder} {s : State}
    (hx : (s.bank b).holder h = some x) :
    revoke b h .hostLost s =
        (setHolder b h (revoked .hostLost x) s).setList (lostTransfers s h b) ∨
      revoke b h .hostLost s = (holderGone b h s).setList (lostTransfers s h b) := by
  have hh := (holder_host hx).1
  have hset := setHolder_holder (b := b) (y := revoked .hostLost x) hx hh
  have he : revoke b h .hostLost s = finishHolder b h
      ((setHolder b h (revoked .hostLost x) s).setList (lostTransfers s h b)) := by
    simp only [revoke, hx]
    rfl
  rw [he]
  by_cases hn : (s.bank b).state = .opened ∧
      noneLeft ((setHolder b h (revoked .hostLost x) s).setList (lostTransfers s h b)) h b
  · refine .inr ?_
    rw [finishHolder_lost (x := revoked .hostLost x)
      (s := (setHolder b h (revoked .hostLost x) s).setList (lostTransfers s h b)) hset rfl
      (by simpa [setHolder_bank] using hn.1) hn.2, holderGone_setList,
      holderGone_setHolder (x := revoked .hostLost x) hh]
  · exact .inl (finishHolder_stays (by simpa [setHolder_bank] using hn))

/-! ## The end of an activation (R19) -/

section Settle

variable {b : Bank} {h : HostId} {x : Holder} {s : State}

theorem settleHolder_none (hx : (s.bank b).holder h = none) : settleHolder b h s = s := by
  simp [settleHolder, hx]

theorem settleHolder_active (hx : (s.bank b).holder h = some x) (ha : x.status = .active) :
    settleHolder b h s =
      (setHolder b h { x with answered := true, deadline := grantDeadline s h } s).setHost h
        (answeredSide x.grantTag .ok .none (s.host h)) := by
  obtain ⟨host, grantTag, answered, deadline, overstayed, status, closeTag⟩ := x
  cases ha
  simp only [settleHolder, hx, answerStatus_eq]
  rfl

theorem settleHolder_closing_leaves (hx : (s.bank b).holder h = some x) (hc : x.status = .closing)
    (ho : (s.bank b).state = .opened) (hn : noneLeft s h b) :
    settleHolder b h s = (holderGone b h s).setHost h
      (answeredOptSide x.closeTag .ok (answeredSide x.grantTag .withdrawn .none (s.host h))) := by
  have hh := (holder_host hx).1
  have hset := setHolder_holder (b := b) (y := { x with answered := true }) hx hh
  have he : settleHolder b h s = finishHolder b h
      ((setHolder b h { x with answered := true } s).setHost h
        (answeredSide x.grantTag .withdrawn .none (s.host h))) := by
    obtain ⟨host, grantTag, answered, deadline, overstayed, status, closeTag⟩ := x
    cases hc
    simp only [settleHolder, hx, answerStatus_eq]
    rfl
  rw [he, finishHolder_closing (s := (setHolder b h _ s).setHost h _) hset hc
    (by simpa [setHolder_bank] using ho) hn, answerOpt_eq, holderGone_setHost,
    holderGone_setHolder (x := { x with answered := true }) hh]
  simp

theorem settleHolder_closing_stays (hx : (s.bank b).holder h = some x) (hc : x.status = .closing)
    (hn : ¬((s.bank b).state = .opened ∧ noneLeft s h b)) :
    settleHolder b h s =
      (setHolder b h { x with answered := true } s).setHost h
        (answeredSide x.grantTag .withdrawn .none (s.host h)) := by
  obtain ⟨host, grantTag, answered, deadline, overstayed, status, closeTag⟩ := x
  cases hc
  simp only [settleHolder, hx, answerStatus_eq]
  exact finishHolder_stays (by simpa [setHolder_bank] using hn)

theorem settleHolder_lost (hx : (s.bank b).holder h = some x)
    (hr : x.status = .revoking .hostLost) : settleHolder b h s = holderGone b h s := by
  simp [settleHolder, hx, hr, removeHolder_eq]

theorem settleHolder_revoking {r : RevokeReason} (hx : (s.bank b).holder h = some x)
    (hr : r ≠ .hostLost) (hs : x.status = .revoking r) :
    settleHolder b h s = (holderGone b h s).setHost h
      (answeredOptSide x.closeTag .ok (answeredSide x.grantTag .revoked .none (s.host h))) := by
  cases r <;> simp_all [settleHolder, removeHolder_eq, answerStatus_eq, answerOpt_eq]

end Settle

end Sys2Proof.Leases
end

section
/-! PROOFS. The state after RESET_N: its values, and every law of soundness (O3, O4). -/

namespace Sys2Proof.Leases

open Sys2Proof Sys2Proof.Machine Sys2Proof.Safety

section Reset

@[simp] theorem reset_bank (b : Bank) : State.reset.bank b = BankRecord.reset := by
  simp [State.reset, State.bank]

@[simp] theorem reset_op (b : Bank) : State.reset.op b = BankOp.reset := by
  simp [State.reset, Channel.reset, State.op]

@[simp] theorem reset_host (h : HostId) : State.reset.host h = HostSide.down none := by
  simp [State.reset, State.host]

@[simp] theorem reset_link (h : HostId) : State.reset.link h = Link.down none := by
  rw [State.link, reset_host]
  rfl

@[simp] theorem reset_port (h : HostId) : State.reset.port h = .down := by
  rw [State.port, reset_host]
  rfl

/-- R37: window 0 covers everything for everyone, and no other window is valid. -/
theorem reset_windows (i : Fin 16) (hi : i ≠ 0) : SharedConfig.reset.windows[i.val] = none := by
  have h0 : (0 : Nat) ≠ i.val := fun e => hi (Fin.ext e.symm)
  simp [SharedConfig.reset, h0]

/-- Settles O3: each field of the state, block by block. -/
theorem resetAssertGivesResetValues : Obligations.ResetAssertGivesResetValues := by
  intro s
  refine ⟨assertReset s, rfl, rfl, rfl, rfl, reset_bank, rfl, fun b => ?_, rfl, rfl, rfl, rfl,
    fun i => ?_, rfl, rfl, rfl, rfl, rfl, rfl, rfl, rfl, rfl, rfl, rfl, rfl, rfl, reset_windows,
    fun h => ?_, rfl, rfl, rfl, rfl, rfl, fun h => ?_, rfl, rfl, rfl, rfl, rfl, fun i => ?_,
    rfl, rfl, rfl, rfl, fun h => ?_⟩
  · have ho : (assertReset s).op b = BankOp.reset := reset_op b
    rw [ho]
    decide
  · exact Vector.getElem_replicate i.isLt
  · exact PerHost.get_const 250#16 h
  · exact PerHost.get_const false h
  · exact Vector.getElem_replicate i.isLt
  · have hh : (assertReset s).host h = HostSide.down none := reset_host h
    simp only [State.port, State.link, hh]
    exact ⟨rfl, fun i => Vector.getElem_replicate i.isLt, rfl, rfl, rfl, rfl, rfl, rfl, rfl, rfl, rfl,
      rfl, rfl, rfl⟩

theorem resetState_linkSound (h : HostId) : LinkSound (State.reset.link h) := by
  rw [reset_link]
  exact ⟨by decide, fun i hi => absurd hi (by simp [Link.down]), by decide,
    fun n hn => by simp [Link.down] at hn, by decide, fun _ => rfl, fun hl => by
      simp [Link.down] at hl⟩

theorem resetState_noteQueueSound (h : HostId) : NoteQueueSound (State.reset.host h).notes := by
  rw [reset_host]
  exact ⟨by decide, [], [], rfl, by decide, by simp, by simp, fun i hi => absurd hi (by simp)⟩

theorem resetState_agreementSound : AgreementSound State.reset :=
  ⟨⟨fun _ => rfl, fun _ => rfl⟩, fun _ => rfl, by decide, fun p hp => by cases hp⟩

theorem resetState_standbySound : StandbySound State.reset := by
  refine ⟨by decide, by decide, by decide, ?_, ?_, by decide, by decide, by decide, by decide⟩
  · intro o ho
    simp [maintOps, State.reset, Channel.reset] at ho
  · intro o ho
    simp [State.reset, Channel.reset] at ho

/-- Settles O4: law by law. -/
theorem resetStateIsSound : Obligations.ResetStateIsSound := by
  refine ⟨rfl, resetState_leaseSound, ?_, ?_, resetState_agreementSound, resetState_standbySound,
    fun h => ?_, resetState_linkSound, fun h => ?_, resetState_noteQueueSound⟩
  · exact ⟨by decide, by simp [State.reset], by simp [State.reset], fun _ => rfl⟩
  · refine ⟨by decide, by decide, by decide, by decide, by decide, by decide, ?_⟩
    intro o ho
    simp [maintOps, State.reset, Channel.reset] at ho
  · rw [reset_link, reset_port]
    refine ⟨by decide, fun hp => ?_⟩
    simp [State.reset, Standby.reset] at hp
  · rw [reset_host]
    exact ⟨by decide, by decide⟩

end Reset

end Sys2Proof.Leases
end

section
/-! PROOFS. The requests of one host to the lease table, where nothing else moves: OPEN that is granted,
joins or is refused (O17, O19), CLOSE (O22, O23), the removal of a leaving holder (O24), and the
queries (O59). -/

namespace Sys2Proof.Leases

open Sys2Proof Sys2Proof.Machine Sys2Proof.Safety

/-! ## What each command hands to its block -/

section Arrives

variable {s : State} {h : HostId} {f : FrameHdr} {tag : Tag}

theorem exec_openLease_arrives (bank : Byte) (row : BitVec 16) (mode : LeaseMode)
    (wait : BitVec 16) (ha : RequestArrives s h f tag) (hp : s.port h = .attached) :
    exec (.openLease h f tag bank row mode wait) s =
      .next (takeOpen h tag bank row mode wait (s.setHost h (sideTaken s h f tag .openLease))) :=
  congrArg Host.Outcome.next (request_attached .openLease _ ha hp)

theorem exec_closeLease_arrives (bank : Byte) (ha : RequestArrives s h f tag)
    (hp : s.port h = .attached) :
    exec (.closeLease h f tag bank) s =
      .next (takeClose h tag bank (s.setHost h (sideTaken s h f tag .closeLease))) :=
  congrArg Host.Outcome.next (request_attached .closeLease _ ha hp)

theorem exec_queryBank_arrives (bank : Byte) (ha : RequestArrives s h f tag)
    (hp : s.port h = .attached) :
    exec (.queryBank h f tag bank) s =
      .next (takeQueryBank h tag bank (s.setHost h (sideTaken s h f tag .queryBank))) :=
  congrArg Host.Outcome.next (request_attached .queryBank _ ha hp)

theorem exec_leave_arrives (ha : RequestArrives s h f tag) (hp : s.port h = .attached) :
    exec (.leave h f tag) s =
      .next (takeLeave h (s.setHost h (sideTaken s h f tag .leave))) :=
  congrArg Host.Outcome.next (request_attached .leave _ ha hp)

/-! ## OPEN (R12 to R16) -/

/-- R12: an OPEN of a bank and row that exist, which no check refuses, is admitted. -/
theorem takeOpen_admits {b : Bank} {row : Row} {mode : LeaseMode} (wait : BitVec 16)
    (hpark : s.standby.park.get h = false) (hh : s.holds h b = false) (hw : s.waits h b = false)
    (hr : (rightOf s.agree.live h b row).enough mode = true) :
    takeOpen h tag (bankByte b) (rowWord row) mode wait s = admitOpen h tag b row mode wait s := by
  simp [takeOpen, openRefusal, hpark, hh, hw, hr]

theorem joinsAtOnce_iff (b : Bank) (row : Row) (mode : LeaseMode) :
    s.joinsAtOnce b row mode = true ↔
      s.gate = ⟨false, false, false, false⟩ ∧
        ((s.bank b).state = .opened ∨ (s.bank b).state = .activating) ∧
        (s.bank b).mode = some .shared ∧ (s.bank b).row = some row ∧ mode = .shared ∧
        (s.bank b).waiters = [] := by
  simp [State.joinsAtOnce, gate_isEmpty_iff, and_assoc]

theorem grantsFromClosed_iff (b : Bank) :
    s.grantsFromClosed b = true ↔
      s.gate = ⟨false, false, false, false⟩ ∧ (s.bank b).state = .closed ∧
        (s.bank b).waiters = [] := by
  simp [State.grantsFromClosed, gate_isEmpty_iff, and_assoc]

section Admit

variable {b : Bank} {row : Row} {mode : LeaseMode} (wait : BitVec 16)

/-- R13: an admitted OPEN that joins at once. -/
theorem admitOpen_joins (hg : s.gate = ⟨false, false, false, false⟩)
    (hst : (s.bank b).state = .opened ∨ (s.bank b).state = .activating)
    (hbm : (s.bank b).mode = some .shared) (hbr : (s.bank b).row = some row)
    (hm : mode = .shared) (hq : (s.bank b).waiters = []) :
    admitOpen h tag b row mode wait s = joinBank h tag b s :=
  if_pos ((joinsAtOnce_iff b row mode).mpr ⟨hg, hst, hbm, hbr, hm, hq⟩)

/-- R14: an admitted OPEN that is granted from CLOSED. -/
theorem admitOpen_grants (hg : s.gate = ⟨false, false, false, false⟩)
    (hst : (s.bank b).state = .closed) (hq : (s.bank b).waiters = []) :
    admitOpen h tag b row mode wait s = grant b row mode [Holder.granted h tag] [] s := by
  have hj : s.joinsAtOnce b row mode ≠ true := by simp [joinsAtOnce_iff, hst]
  rw [admitOpen, if_neg hj, if_pos ((grantsFromClosed_iff b).mpr ⟨hg, hst, hq⟩)]

/-- R15: an admitted OPEN that can neither join nor be granted. -/
theorem admitOpen_queues
    (hno : s.gate ≠ ⟨false, false, false, false⟩ ∨ (s.bank b).waiters ≠ [] ∨
      (s.bank b).state = .precharging ∨
      ((s.bank b).state ≠ .closed ∧
        (mode = .exclusive ∨ (s.bank b).mode ≠ some .shared ∨ (s.bank b).row ≠ some row))) :
    admitOpen h tag b row mode wait s = queueOpen h tag b row mode wait s := by
  have hj : s.joinsAtOnce b row mode ≠ true := by
    rw [ne_eq, joinsAtOnce_iff]
    rintro ⟨hg, hst, hbm, hbr, hm, hq⟩
    subst hm
    simp [hg, hbm, hbr, hq] at hno
    simp [hno] at hst
  have hc : s.grantsFromClosed b ≠ true := by
    rw [ne_eq, grantsFromClosed_iff]
    rintro ⟨hg, hst, hq⟩
    simp [hg, hst, hq] at hno
  rw [admitOpen, if_neg hj, if_neg hc]

end Admit

end Arrives

/-- Settles O17: the OPEN is admitted, and the bank's state decides between the grant and the join. -/
theorem openIsGrantedOrJoins : Obligations.OpenIsGrantedOrJoins := by
  intro s h f tag b row mode wait ha hp hpark hh hr hg hq
  have hw : s.waits h b = false := by simp [State.waits, BankRecord.waiter, hq]
  rw [exec_openLease_arrives _ _ _ _ ha hp,
    takeOpen_admits (s := s.setHost h _) wait hpark hh hw hr]
  refine ⟨fun hc => ?_, fun hm hbm hbr => ⟨fun ho => ?_, fun hact => ?_⟩⟩
  · rw [admitOpen_grants (s := s.setHost h _) wait hg hc hq]
    rfl
  · rw [admitOpen_joins (s := s.setHost h _) wait hg (.inl ho) hbm hbr hm hq, joinBank,
      if_pos (by simpa using ho), answerStatus_eq]
    have hs : answeredSide tag .ok .none (sideTaken s h f tag .openLease) =
        sideAnswered s h f [plain tag .openLease .ok] := by
      rw [answeredSide_plain .ok (sideTaken_tags_same s h f tag .openLease),
        sideAnswers_sideTaken f .openLease _ ha.2.2]
    simp only [appendHolder, State.setBank_host, State.setHost_host_same, hs, setBank_setHost,
      State.setHost_setHost]
    rfl
  · rw [admitOpen_joins (s := s.setHost h _) wait hg (.inr hact) hbm hbr hm hq, joinBank,
      if_neg (by simp [hact])]
    rfl

/-- Settles O19: the checks of R12 in their order. -/
theorem openRefusedInOrder : Obligations.OpenRefusedInOrder := by
  intro s h f tag bank row mode wait ha hp
  have hans := fun st => answerStatus_taken .openLease st ha
  rw [exec_openLease_arrives _ _ _ _ ha hp]
  refine ⟨fun hr => ?_, ?_⟩
  · rw [← hans]
    unfold takeOpen
    split
    next hb hrow =>
      rcases hr with hr | hr
      · simp [(bankOfByte_none bank).mpr hr] at hb
      · simp [(rowOfField_none row).mpr hr] at hrow
    · rfl
  · rintro b r rfl rfl
    refine ⟨fun hpark => ?_, fun hpark hhw => ?_, fun hpark hh hw hr => ?_⟩
    · simp [takeOpen, openRefusal, hpark, hans]
    · simp [takeOpen, openRefusal, hpark, hhw, hans]
    · simp [takeOpen, openRefusal, hpark, hh, hw, hr, hans]

/-! ## CLOSE (R20 to R24) -/

/-- R21 to R23: a CLOSE of a bank that exists by one of its holders. -/
theorem takeClose_holder {s : State} {h : HostId} {b : Bank} {x : Holder} (tag : Tag)
    (hx : (s.bank b).holder h = some x) :
    takeClose h tag (bankByte b) s = closeAsHolder h tag b x s := by
  simp [takeClose, hx]

theorem takeClose_waiter {s : State} {h : HostId} {b : Bank} (tag : Tag)
    (hx : (s.bank b).holder h = none) :
    takeClose h tag (bankByte b) s = closeAsWaiter h tag b s := by
  simp [takeClose, hx]

/-- Settles O22: with nothing left the holder leaves, and otherwise it stays as a CLOSING one. -/
theorem closeByActiveHolder : Obligations.CloseByActiveHolder := by
  intro s h f tag b x ha hp hx hl hact
  rw [exec_closeLease_arrives _ ha hp, takeClose_holder tag (by simpa using hx)]
  simp only [closeAsHolder, hact]
  refine ⟨fun ho hn => ?_, fun hno => ?_⟩
  · rw [closeHolder_leaves (some tag) (by simpa using hx) (by simpa using ho) (by simpa using hn),
      holderGone_setHost, holderGone_setHost, answerOpt_some,
      answerStatus_outstanding (kind := .closeLease) .ok (by simp)]
    simp [sideAnswers_sideTaken f .closeLease _ ha.2.2]
  · have hstay : ¬((s.bank b).state = .opened ∧ noneLeft s h b) := by
      rintro ⟨ho, hn⟩
      rcases hno with hno | ⟨-, e, he, heh, heb⟩
      · simp [ho] at hno
      · exact hn e he ⟨heh, heb⟩
    rw [closeHolder_stays (some tag) (by simpa using hx) (by simpa using hstay), setHolder,
      State.setHost_bank]
    rw [replaceHolder_eq_map (uniqueHolders_of_sound hl) hx fun y =>
      { y with status := .closing, deadline := none, closeTag := some tag }]

/-- R157: two requests of one host, the second taken in this event, are answered in order. -/
theorem answeredSide_both {s : State} {h : HostId} {f : FrameHdr} {tag i : Tag} {kind k : ReqKind}
    (st st' : Status) (ht : (s.host h).tags[tag.val] = none)
    (hi : (s.host h).tags[i.val] = some k) :
    answeredSide tag st' .none (answeredSide i st .none (sideTaken s h f tag kind)) =
      { sideAnswered s h f [plain i k st, plain tag kind st'] with
        tags := (s.host h).tags.set i.val none } := by
  have hne : tag.val ≠ i.val := fun e => by
    rw [Fin.ext e, hi] at ht
    cases ht
  have hne' : tag ≠ i := fun e => hne (congrArg Fin.val e)
  rw [answeredSide_plain (kind := k) st (by simpa [hne'.symm] using hi),
    answeredSide_plain (kind := kind) st' (by simp [hne'])]
  have htags : (((s.host h).tags.set tag.val (some kind)).set i.val none).set tag.val none =
      (s.host h).tags.set i.val none := by
    rw [Vector.set_comm none none hne.symm, Vector.set_set, ← ht, Vector.set_getElem_self]
  simp [sideAnswers, sideTaken, sideAnswered, htags]

/-- Settles O23: the entry that the host has on the bank, if it has one, decides. -/
theorem closeInOtherCases : Obligations.CloseInOtherCases := by
  intro s h f tag ha hp
  have hans := fun st => answerStatus_taken .closeLease st ha
  refine ⟨fun bank hb => ?_, fun b => ⟨fun hx hw => ?_, fun w hx hw ht => ?_, fun x r hx hl hs hct =>
    ?_, fun x hx hs => ?_⟩⟩
  · rw [exec_closeLease_arrives _ ha hp, ← hans]
    simp [takeClose, (bankOfByte_none bank).mpr hb]
  all_goals rw [exec_closeLease_arrives _ ha hp]
  · have hw' : s.waits h b = false := by simp [State.waits, hw]
    rw [takeClose_waiter tag (by simpa using hx), ← hans]
    simp [closeAsWaiter, hw']
  · have hw' : s.waits h b = true := by simp [State.waits, hw]
    have hk := keepPlace_setHost s h (sideTaken s h f tag .closeLease) rfl
    rw [takeClose_waiter tag (by simpa using hx)]
    rw [closeAsWaiter, if_pos (by simpa using hw'), withdrawWaiter_eq .withdrawn (by simpa using hw),
      hk, answerStatus_eq]
    have hside := answeredSide_both (f := f) (kind := .closeLease) .withdrawn .ok ha.2.2 ht
    simp only [State.setHost_host_same, State.setHost_setHost, setBank_setHost, hside,
      State.setHost_bank, State.setBank_host]
  · rw [takeClose_holder tag (by simpa using hx)]
    simp only [closeAsHolder, hs, hct, setHolder, State.setHost_bank]
    have := replaceHolder_eq_map (uniqueHolders_of_sound hl) hx fun y =>
      { y with closeTag := some tag }
    rw [← this, ← hs]
  · rw [takeClose_holder tag (by simpa using hx), ← hans]
    rcases hs with hs | ⟨⟨r, hs⟩, hct⟩
    · simp [closeAsHolder, hs]
    · obtain ⟨t, ht⟩ := Option.ne_none_iff_exists'.mp hct
      simp [closeAsHolder, hs, ht]

/-! ## CLOSE_COMPLETE and REVOCATION_FINISH (R21, R30) -/

/-- Settles O24: each leaving status in turn. -/
theorem leavingHolderIsRemoved : Obligations.LeavingHolderIsRemoved := by
  intro s h b x hx ho hn
  have hl := (noTransferOn_iff s h b).mpr hn
  have hclose : x.status = .closing → exec (.closeComplete b h) s = .next (finishHolder b h s) :=
    fun hc => if_pos (by simp [State.closeReady, hx, hc, ho, hl])
  have hrevoke : ∀ r, x.status = .revoking r →
      exec (.revocationFinish b h) s = .next (finishHolder b h s) :=
    fun r hr => if_pos (by simp [State.revokeReady, hx, hr, ho, hl])
  refine ⟨fun hc ht => ?_, fun tag hc ht hk => ?_, fun hr => ?_, fun r hne hr ht => ?_,
    fun r tag hne hr ht hk => ?_⟩
  · rw [hclose hc, finishHolder_closing hx hc ho hn, ht, answerOpt_none]
  · rw [hclose hc, finishHolder_closing hx hc ho hn, ht, answerOpt_some,
      answerStatus_outstanding .ok (by simpa using hk), holderGone_setHost, holderGone_host]
  · rw [hrevoke _ hr, finishHolder_lost hx hr ho hn]
  · rw [hrevoke _ hr, finishHolder_revoking hx hr hne ho hn, ht, answerOpt_none, notify_eq,
      holderGone_setHost, holderGone_host]
  · rw [hrevoke _ hr, finishHolder_revoking hx hr hne ho hn, ht, answerOpt_some, notify_eq,
      answerStatus_outstanding (kind := .closeLease) .ok (by simpa using hk), holderGone_setHost]
    simp

/-! ## Queries (R35, R172, R173) -/

/-- R185: the set of the banks with a property, bank by bank. -/
theorem bankSetOf_getLsbD (p : Bank → Bool) (b : Bank) : (bankSetOf p).getLsbD b.val = p b := by
  have hbit : ∀ c b : Bank, (1#8 <<< c.val).getLsbD b.val = decide (b = c) := by decide
  have hfold : ∀ (l : List Bank) (acc : BankSet),
      (l.foldl (fun acc c => if p c then acc ||| (1#8 <<< c.val) else acc) acc).getLsbD b.val =
        (acc.getLsbD b.val || (decide (b ∈ l) && p b)) := by
    intro l
    induction l with
    | nil => simp
    | cons c l ih =>
      intro acc
      have hstep : (if p c then acc ||| (1#8 <<< c.val) else acc).getLsbD b.val =
          (acc.getLsbD b.val || (decide (b = c) && p c)) := by
        cases p c
        · simp
        · rw [if_pos rfl, BitVec.getLsbD_or, hbit, Bool.and_true]
      rw [List.foldl_cons, ih, hstep]
      by_cases hbc : b = c
      · subst hbc
        cases p b <;> simp
      · simp [hbc]
  rw [bankSetOf, hfold]
  simp

theorem isHeldSet_heldBanks (s : State) (h : HostId) : IsHeldSet s h (s.heldBanks h) :=
  bankSetOf_getLsbD _

/-- Settles O59: the answers are read off the state. -/
theorem queriesAnswerSnapshots : Obligations.QueriesAnswerSnapshots := by
  intro s h f tag ha
  refine ⟨?_, fun hp => ⟨fun b => ?_, fun x hx => ?_⟩⟩
  · let t := s.setHost h (sideTaken s h f tag .query)
    have hport : t.port h = s.port h := by simp [t]
    refine ⟨statusRecord h t, ?_, rfl, rfl, rfl, rfl, fun g => ?_, rfl, rfl, rfl, rfl, rfl,
      fun hat => ?_, fun hlj => ?_⟩
    · rw [← answer_taken .query .ok _ ha]
      exact congrArg Host.Outcome.next (request_arrives .query _ ha)
    · have hg : t.port g = s.port g := by
        by_cases e : g = h
        · rw [e, hport]
        · exact State.setHost_port_other s _ e
      simp [statusRecord, inSet, hg]
    · have : t.port h = .attached ∨ t.port h = .leaving := by rwa [hport]
      rcases this with e | e <;> simp only [statusRecord, State.reported, e] <;>
        exact ⟨isHeldSet_heldBanks s h, bankSetOf_getLsbD _⟩
    · have : t.port h = .linked ∨ t.port h = .joining := by rwa [hport]
      rcases this with e | e <;> simp [statusRecord, State.reported, e]
  · rw [exec_queryBank_arrives _ ha hp, takeQueryBank, bankOfByte_bankByte]
    exact congrArg Host.Outcome.next (answer_taken .queryBank .ok _ ha)
  · rw [exec_queryBank_arrives _ ha hp, takeQueryBank, (bankOfByte_none x).mpr hx]
    exact congrArg Host.Outcome.next (answerStatus_taken .queryBank .range ha)

end Sys2Proof.Leases
end

section
/-! PROOFS. Queues that are served: by GRANT_FROM_QUEUE, when the last reason leaves the gate (O25), and
at the completion of a precharge (O28). -/

namespace Sys2Proof.Leases

open Sys2Proof Sys2Proof.Machine Sys2Proof.Safety

/-- A bank record and an operation record do not meet. -/
theorem setBank_setOp (s : State) (b c : Bank) (r : BankRecord) (o : BankOp) :
    (s.setOp c o).setBank b r = (s.setBank b r).setOp c o := rfl

/-! ## One queue (R17) -/

/-- R17: the batch of a head is the head with the waiters that stand with it. -/
theorem grantBatch_eq {head : Waiter} {same rest : List Waiter}
    (hg : GrantedTogether head same rest) : grantBatch head (same ++ rest) = head :: same := by
  rcases hg with ⟨hm, rfl⟩ | ⟨hm, hs, hr⟩
  · simp [grantBatch, hm]
  · have htake : rest.takeWhile (fun w => decide (w.mode = .shared) && decide (w.row = head.row)) =
        [] := by
      cases rest with
      | nil => rfl
      | cons w rest => simpa [List.takeWhile_cons] using hr w rfl
    have hall : ∀ w ∈ same, (decide (w.mode = .shared) && decide (w.row = head.row)) = true :=
      fun w hw => by simpa using hs w hw
    simp [grantBatch, hm, List.takeWhile_append_of_pos hall, htake]

/-- R17: a queue that can be served, written out. -/
theorem serveBank_eq {s : State} {b : Bank} {head : Waiter} {same rest : List Waiter}
    (hc : (s.bank b).state = .closed) (hg : s.gate = ⟨false, false, false, false⟩)
    (hw : (s.bank b).waiters = head :: same ++ rest) (ht : GrantedTogether head same rest) :
    serveBank b s = (s.setBank b
      { state := .activating, row := some head.row, mode := some head.mode
        holders := (head :: same).map fun w => ⟨w.host, w.tag, false, none, false, .active, none⟩
        waiters := rest }).setOp b
      { s.op b with
        pending := .activate head.row, setupEnd := some (s.now + 5), setupDone := false } := by
  rw [serveBank_grants hc hw hg]
  change grant b head.row head.mode ((grantBatch head (same ++ rest)).map _)
    ((head :: same ++ rest).drop (grantBatch head (same ++ rest)).length) s = _
  rw [grantBatch_eq ht, List.drop_append_of_le_length (l₁ := head :: same) le_rfl,
    List.drop_length, List.nil_append]
  rfl

/-- R17: serving a queue touches its bank alone, and only where it is CLOSED and the gate empty. -/
theorem serveBank_frame (b : Bank) (s : State) :
    ChangesOnly [.banks, .chan] s (serveBank b s) ∧ OtherBanksSame b s (serveBank b s) ∧
      OtherOpsSame b s (serveBank b s) := by
  by_cases hr : s.serveReady b = true
  · obtain ⟨hc, hw, hg⟩ := (serveReady_iff s b).mp hr
    obtain ⟨head, rest, hw⟩ := List.exists_cons_of_ne_nil hw
    rw [serveBank_grants hc hw hg]
    refine ⟨(changesOnly_setBank s b _).trans' (changesOnly_setOp _ b _) (by decide) (by decide),
      fun c hc => ?_, rfl, fun c hc => ?_⟩
    · simp [grant, requestActivate, hc]
    · simp [grant, requestActivate, hc]
  · rw [serveReady_iff] at hr
    rw [serveBank_stays (by tauto)]
    exact ⟨.refl _ s, fun _ _ => rfl, rfl, fun _ _ => rfl⟩

/-- R11, R17: with the gate empty a bank is served as the statements say. -/
theorem serveBank_servedTo {b : Bank} {s : State} (hg : s.gate = ⟨false, false, false, false⟩) :
    ServedTo s.now (s.bank b) (s.op b) ((serveBank b s).bank b) ((serveBank b s).op b) := by
  refine ⟨fun h => ?_, fun head same rest hc hw ht => ?_⟩
  · rw [serveBank_stays (by tauto)]
    exact ⟨rfl, rfl⟩
  · rw [serveBank_eq hc hg hw ht]
    simp

/-! ## Every queue (R11) -/

/-- R11: the queues of a list of banks, each at most once in it, are served one by one. -/
theorem foldl_serveBank {l : List Bank} (hl : l.Nodup) {s : State}
    (hg : s.gate = ⟨false, false, false, false⟩) :
    ChangesOnly [.banks, .chan] s (l.foldl (fun s b => serveBank b s) s) ∧
      (l.foldl (fun s b => serveBank b s) s).chan =
        { s.chan with ops := (l.foldl (fun s b => serveBank b s) s).chan.ops } ∧
      ∀ b, (b ∈ l → ServedTo s.now (s.bank b) (s.op b)
          ((l.foldl (fun s b => serveBank b s) s).bank b)
          ((l.foldl (fun s b => serveBank b s) s).op b)) ∧
        (b ∉ l → (l.foldl (fun s b => serveBank b s) s).bank b = s.bank b ∧
          (l.foldl (fun s b => serveBank b s) s).op b = s.op b) := by
  induction l generalizing s with
  | nil => exact ⟨.refl _ s, rfl, fun b => ⟨by simp, fun _ => ⟨rfl, rfl⟩⟩⟩
  | cons c l ih =>
    obtain ⟨hcl, hl⟩ := List.nodup_cons.mp hl
    obtain ⟨hframe, hbanks, hchan, hops⟩ := serveBank_frame c s
    have hnow : (serveBank c s).now = s.now := hframe .now (by decide)
    have hgate : (serveBank c s).gate = s.gate := hframe .gate (by decide)
    obtain ⟨ihframe, ihchan, ih⟩ := ih hl (s := serveBank c s) (hgate.trans hg)
    rw [List.foldl_cons]
    refine ⟨hframe.trans ihframe, by rw [ihchan, hchan], fun b => ?_⟩
    by_cases hbc : b = c
    · subst hbc
      obtain ⟨hb, ho⟩ := (ih b).2 hcl
      rw [hb, ho]
      exact ⟨fun _ => serveBank_servedTo hg, fun hn => absurd List.mem_cons_self hn⟩
    · have ihb := ih b
      rw [hbanks b hbc, hops b hbc, hnow] at ihb
      simpa [hbc] using ihb

/-- R11: when the last reason leaves the gate, every queue is served in that event. -/
theorem removeReason_serves {s : State} {r : GateReason}
    (hne : s.gate ≠ ⟨false, false, false, false⟩)
    (hg : s.gate.put r false = ⟨false, false, false, false⟩) :
    ChangesOnly [.gate, .banks, .chan] s (removeReason r s) ∧
      (removeReason r s).gate = ⟨false, false, false, false⟩ ∧
      (removeReason r s).chan = { s.chan with ops := (removeReason r s).chan.ops } ∧
      ∀ b, ServedTo s.now (s.bank b) (s.op b) ((removeReason r s).bank b)
        ((removeReason r s).op b) := by
  have hfull : s.gate.isEmpty = false := by
    rw [Bool.eq_false_iff, ne_eq, gate_isEmpty_iff]
    exact hne
  have hopen : (s.setGate (s.gate.put r false)).gate.isEmpty = true := by
    rw [gate_isEmpty_iff]
    exact hg
  have he : removeReason r s =
      allBanks.foldl (fun s b => serveBank b s) (s.setGate (s.gate.put r false)) := by
    simp only [removeReason, hfull, hopen]
    rfl
  obtain ⟨hframe, hchan, hb⟩ := foldl_serveBank (l := allBanks) (by decide)
    (s := s.setGate (s.gate.put r false)) hg
  rw [he]
  exact ⟨(changesOnly_setGate s _).trans' hframe (by decide) (by decide),
    (hframe .gate (by decide)).trans hg, hchan, fun b => (hb b).1 (mem_allBanks b)⟩

/-- R98: with no calibration due and nothing owed to a pressure hold, REFRESH leaves the gate. -/
theorem afterAccountOp_releases {s : State} (hc : s.account.calDue = false)
    (hho : s.account.hold = false ∨ s.account.owed ≤ 0) :
    afterAccountOp s =
      removeReason .refresh (s.setAccount { s.account with hold := false }) := by
  rw [afterAccountOp, if_neg (by simp [hc])]
  cases hh : s.account.hold with
  | false =>
    have hs : s.setAccount { s.account with hold := false } = s := by rw [← hh]; rfl
    rw [hs, if_neg (by simp)]
  | true =>
    have howed : ¬1 ≤ s.account.owed := by
      have := hho.resolve_left (by simp [hh])
      omega
    rw [if_pos rfl, if_neg howed]

/-- Settles O25: one queue, every queue at the opening of the gate, and the calibration that opens it. -/
theorem queueIsServedFromItsHead : Obligations.QueueIsServedFromItsHead := by
  refine ⟨fun s b head same rest hc hg hw ht => ?_, fun s r hne hg => ?_,
    fun s by_ hl hcalm hho hg => ?_⟩
  · exact congrArg Host.Outcome.next (serveBank_eq hc hg hw ht)
  · exact ⟨_, rfl, removeReason_serves hne hg⟩
  · let u := (landMaint .active s).setAccount
      { s.account with calDue := false, hold := false, offer := .none }
    have hexec : exec .shortCalCompletion s = .next (removeReason .refresh u) := by
      have hj := judgeAccount_calm (s := (landMaint .active s).setAccount
        { s.account with calDue := false, offer := .none }) hcalm
      refine (if_pos (inFlight_maintDue hl)).trans (congrArg Host.Outcome.next ?_)
      refine (congrArg afterAccountOp hj).trans ?_
      exact afterAccountOp_releases (s := (landMaint .active s).setAccount _) rfl hho
    have hu : u.gate = s.gate := rfl
    obtain ⟨hframe, hgate, hchan, hb⟩ := removeReason_serves (s := u) (r := .refresh)
      (by simp [hu, hg]) (by simp [hu, hg, Gate.put])
    have hsu : ChangesOnly [.chan, .account] s u :=
      (changesOnly_setChan s _).trans' (changesOnly_setAccount _ _) (by decide) (by decide)
    exact ⟨_, hexec, hsu.trans' hframe (by decide) (by decide), hgate,
      hframe .account (by decide), by rw [hchan]; simp [u, landMaint, chanLanded], hb⟩

/-! ## The completion of a precharge (R24, R73) -/

/-- Settles O28: the bank closes, and its queue is served as any other. -/
theorem prechargeCompletionCloses : Obligations.PrechargeCompletionCloses := by
  intro s b hf hd
  let u := (s.setOp b { s.op b with inFlight := .none, due := none, openRow := none }).setBank b
    { s.bank b with state := .closed, row := none }
  have hexec : exec (.prechargeCompletion b) s = .next (serveBank b u) := by
    have : execPrechargeCompletion b s = .next (landPrecharge b s) := by
      simp only [execPrechargeCompletion, hf, hd, if_true]
    exact this
  have hub : u.bank b = { s.bank b with state := .closed, row := none } := by simp [u]
  have huo : u.op b = { s.op b with inFlight := .none, due := none, openRow := none } := by simp [u]
  refine ⟨fun hn => ?_, fun head rest hw hg hm => ?_⟩
  · rw [hexec, serveBank_stays]
    · rfl
    · rw [hub]
      exact .inr hn
  · have ht : GrantedTogether head [] rest := by
      cases hhm : head.mode with
      | exclusive => exact .inl ⟨hhm, rfl⟩
      | shared => exact .inr ⟨hhm, by simp, hm.resolve_left (by simp [hhm])⟩
    rw [hexec, serveBank_eq (s := u) (same := []) (by rw [hub]) hg (by rw [hub]; exact hw) ht, huo]
    simp only [u, State.setBank_setBank, setBank_setOp, State.setOp_setOp, List.map_cons,
      List.map_nil]
    rfl

end Sys2Proof.Leases
end

section
/-! PROOFS. What an operation makes of the holders of one bank: its entries taken through a function, the
last one to leave taking the bank to PRECHARGING (R24). Such steps compose, and a step at one host does
not meet the entries of the others. -/

namespace Sys2Proof.Leases

open Sys2Proof Sys2Proof.Machine Sys2Proof.Safety

/-! ## A bank with other holders (R24) -/

@[simp] theorem withHolders_holders (r : BankRecord) (l : List Holder) :
    (withHolders r l).holders = l := by
  unfold withHolders
  split
  next h => exact h.1.symm
  · rfl

@[simp] theorem withHolders_waiters (r : BankRecord) (l : List Holder) :
    (withHolders r l).waiters = r.waiters := by
  unfold withHolders
  split <;> rfl

@[simp] theorem withHolders_self (r : BankRecord) : withHolders r r.holders = r := by
  unfold withHolders
  rw [if_neg (by tauto)]

@[simp] theorem withHoldersOp_self (now : Time) (r : BankRecord) (o : BankOp) :
    withHoldersOp now r r.holders o = o := by
  unfold withHoldersOp
  rw [if_neg (by tauto)]

/-- While a holder is left, the bank's state is as it was. -/
theorem withHolders_state {r : BankRecord} {l : List Holder} (hl : l ≠ []) :
    (withHolders r l).state = r.state := by
  unfold withHolders
  rw [if_neg (by tauto)]

/-- R24: the last holder may leave in the first or in the second of two steps. -/
theorem withHolders_trans {r : BankRecord} {l m : List Holder} (hr : r.holders = [] → l = [])
    (hl : l = [] → m = []) : withHolders (withHolders r l) m = withHolders r m := by
  by_cases h0 : r.holders = []
  · simp [withHolders, h0, hr h0, hl (hr h0)]
  · by_cases h1 : l = []
    · simp [withHolders, h0, h1, hl h1]
    · by_cases h2 : m = [] <;> simp [withHolders, h0, h1, h2]

theorem withHoldersOp_trans {now : Time} {r : BankRecord} {l m : List Holder} {o : BankOp}
    (hr : r.holders = [] → l = []) (hl : l = [] → m = []) :
    withHoldersOp now (withHolders r l) m (withHoldersOp now r l o) = withHoldersOp now r m o := by
  by_cases h0 : r.holders = []
  · simp [withHoldersOp, h0, hr h0]
  · by_cases h1 : l = []
    · simp [withHoldersOp, h0, h1, hl h1]
    · by_cases h2 : m = [] <;> simp [withHoldersOp, h0, h1, h2]

/-! ## A step that takes a bank's holders through a function -/

/-- R24: the step takes the holders of bank `b` through `g`, with the PRECHARGE that the last one's leaving
brings, and touches no other bank's record and nothing else of the channel. -/
structure HoldersBecome (b : Bank) (g : Holder → Option Holder) (s t : State) : Prop where
  bank : t.bank b = withHolders (s.bank b) ((s.bank b).holders.filterMap g)
  op : t.op b = withHoldersOp s.now (s.bank b) ((s.bank b).holders.filterMap g) (s.op b)
  now : t.now = s.now
  banks : OtherBanksSame b s t
  ops : OtherOpsSame b s t

/-- What is done to the entry of one host, all others staying as they are. -/
def onHost (h : HostId) (f : Holder → Option Holder) (x : Holder) : Option Holder :=
  if x.host = h then f x else some x

/-- An entry keeps its host. -/
def KeepsHost (g : Holder → Option Holder) : Prop := ∀ x y, g x = some y → y.host = x.host

namespace HoldersBecome

variable {b : Bank} {g g' : Holder → Option Holder} {s t u : State}

theorem holders (h : HoldersBecome b g s t) :
    (t.bank b).holders = (s.bank b).holders.filterMap g := by
  rw [h.bank, withHolders_holders]

theorem waiters (h : HoldersBecome b g s t) : (t.bank b).waiters = (s.bank b).waiters := by
  rw [h.bank, withHolders_waiters]

theorem state (h : HoldersBecome b g s t) (hne : (t.bank b).holders ≠ []) :
    (t.bank b).state = (s.bank b).state := by
  rw [h.bank]
  exact withHolders_state (by rwa [h.holders] at hne)

/-- A step that leaves the banks, the channel and the moment alone. -/
theorem of_same (hb : t.banks = s.banks) (hc : t.chan = s.chan) (hn : t.now = s.now) :
    HoldersBecome b some s t where
  bank := by simp [State.bank, hb]
  op := by simp [State.op, hc]
  now := hn
  banks c _ := by simp [State.bank, hb]
  ops := ⟨by rw [hc], fun c _ => by simp [State.op, hc]⟩

theorem refl (b : Bank) (s : State) : HoldersBecome b some s s := of_same rfl rfl rfl

theorem congr (h : HoldersBecome b g s t) (e : ∀ x ∈ (s.bank b).holders, g' x = g x) :
    HoldersBecome b g' s t := by
  have hl : (s.bank b).holders.filterMap g' = (s.bank b).holders.filterMap g :=
    List.filterMap_congr e
  exact ⟨by rw [hl, h.bank], by rw [hl, h.op], h.now, h.banks, h.ops⟩

/-- Two steps, one after the other. -/
theorem trans (h : HoldersBecome b g s t) (k : HoldersBecome b g' t u) :
    HoldersBecome b (fun x => (g x).bind g') s u := by
  have hl : (s.bank b).holders.filterMap (fun x => (g x).bind g') =
      (t.bank b).holders.filterMap g' := by rw [h.holders, List.filterMap_filterMap]
  have hr : (s.bank b).holders = [] → (s.bank b).holders.filterMap g = [] := fun e => by rw [e]; rfl
  have ht : (s.bank b).holders.filterMap g = [] → (t.bank b).holders.filterMap g' = [] := fun e => by
    rw [h.holders, e]; rfl
  refine ⟨?_, ?_, k.now.trans h.now, fun c hc => (k.banks c hc).trans (h.banks c hc), ?_,
    fun c hc => (k.ops.2 c hc).trans (h.ops.2 c hc)⟩
  · have e := withHolders_trans hr ht
    rw [← h.bank] at e
    rw [hl, k.bank, e]
  · have e := withHoldersOp_trans (now := s.now) (o := s.op b) hr ht
    rw [← h.bank, ← h.op] at e
    rw [hl, k.op, h.now, e]
  · rw [k.ops.1, h.ops.1]

/-- A step followed by one that leaves the banks, the channel and the moment alone. -/
theorem then_same (h : HoldersBecome b g s t) (hb : u.banks = t.banks) (hc : u.chan = t.chan)
    (hn : u.now = t.now) : HoldersBecome b g s u :=
  (h.trans (of_same hb hc hn)).congr fun x _ => by simp

theorem unique (h : HoldersBecome b g s t) (hg : KeepsHost g) (hu : UniqueHolders (s.bank b)) :
    UniqueHolders (t.bank b) := by
  have hsub : ∀ l : List Holder,
      ((l.filterMap g).map fun x => x.host).Sublist (l.map fun x => x.host) := by
    intro l
    induction l with
    | nil => exact .slnil
    | cons x l ih =>
      cases hx : g x with
      | none => simpa [List.filterMap_cons, hx] using ih.cons _
      | some y => simpa [List.filterMap_cons, hx, hg x y hx] using ih.cons_cons x.host
  rw [UniqueHolders, h.holders]
  exact hu.sublist (hsub _)

end HoldersBecome

theorem keepsHost_onHost {h : HostId} {f : Holder → Option Holder} (hf : KeepsHost f) :
    KeepsHost (onHost h f) := by
  intro x y hy
  unfold onHost at hy
  split at hy
  · exact hf x y hy
  · cases hy
    rfl

/-- A step at one host does not meet the entry of another. -/
theorem HoldersBecome.holder_other {b : Bank} {h g : HostId} {f : Holder → Option Holder}
    {s t : State} (hb : HoldersBecome b (onHost h f) s t) (hf : KeepsHost f) (hg : g ≠ h) :
    (t.bank b).holder g = (s.bank b).holder g := by
  rw [BankRecord.holder, BankRecord.holder, hb.holders]
  induction (s.bank b).holders with
  | nil => rfl
  | cons x l ih =>
    by_cases hx : x.host = h
    · have hxg : x.host ≠ g := fun e => hg (e.symm.trans hx)
      rw [List.find?_cons_of_neg (by simpa using hxg)]
      cases hy : f x with
      | none => rw [List.filterMap_cons_none (by simp [onHost, hx, hy]), ih]
      | some y =>
        have hyg : y.host ≠ g := fun e => hxg ((hf x y hy).symm.trans e)
        rw [List.filterMap_cons_some (b := y) (by simp [onHost, hx, hy]),
          List.find?_cons_of_neg (by simpa using hyg), ih]
    · rw [List.filterMap_cons_some (b := x) (by simp [onHost, hx]), List.find?_cons,
        List.find?_cons, ih]

/-! ## The steps of one entry -/

section Entry

variable {b : Bank} {h : HostId} {x : Holder} {s : State}

theorem holder_none_some (hx : (s.bank b).holder h = none) (f : Holder → Option Holder) :
    HoldersBecome b (onHost h f) s s :=
  (HoldersBecome.refl b s).congr fun y hy => by simp [onHost, holder_none_iff.mp hx y hy]

/-- The entry of a host is written anew. -/
theorem setHolder_become (hu : UniqueHolders (s.bank b)) (hx : (s.bank b).holder h = some x)
    (f : Holder → Holder) :
    HoldersBecome b (onHost h fun y => some (f y)) s (setHolder b h (f x) s) := by
  have hl : (s.bank b).holders.filterMap (onHost h fun y => some (f y)) =
      (s.bank b).holders.map fun y => if y.host = h then f y else y := by
    rw [← List.filterMap_eq_map]
    refine List.filterMap_congr fun y _ => ?_
    by_cases e : y.host = h <;> simp [onHost, e]
  have hne : (s.bank b).holders ≠ [] := List.ne_nil_of_mem (holder_host hx).2
  refine ⟨?_, ?_, rfl, fun c hc => ?_, rfl, fun c hc => rfl⟩
  · rw [hl, setHolder_bank, replaceHolder_eq_map hu hx, withHolders, if_neg (by simp [hne])]
  · rw [hl, withHoldersOp, if_neg (by simp [hne])]
    rfl
  · simp [setHolder, hc]

/-- The entry of a host leaves. -/
theorem holderGone_become (hx : (s.bank b).holder h = some x) :
    HoldersBecome b (onHost h fun _ => none) s (holderGone b h s) := by
  have hl : (s.bank b).holders.filterMap (onHost h fun _ => none) =
      (s.bank b).holders.filter fun y => decide (y.host ≠ h) := by
    rw [← List.filterMap_eq_filter]
    refine List.filterMap_congr fun y _ => ?_
    by_cases e : y.host = h <;> simp [onHost, e, Option.guard]
  have hne : (s.bank b).holders ≠ [] := List.ne_nil_of_mem (holder_host hx).2
  by_cases he : ((s.bank b).holders.filter fun y => decide (y.host ≠ h)) = []
  · refine ⟨?_, ?_, ?_, fun c hc => ?_, ?_, fun c hc => ?_⟩ <;>
      simp only [holderGone, he, hl, if_true, withHolders, withHoldersOp]
    · simp [hne]
    · simp [hne]
    · rfl
    · simp [hc]
    · rfl
    · simp [hc]
  · refine ⟨?_, ?_, ?_, fun c hc => ?_, ?_, fun c hc => ?_⟩ <;>
      simp only [holderGone, he, hl, if_false, withHolders, withHoldersOp, false_and]
    · simp
    · simp
    · rfl
    · simp [hc]
    · rfl
    · simp

end Entry

/-! ## One host after another -/

/-- Each index is met once, in a state that is for it as the first one, and what is done then stays. -/
theorem foldl_own {ι : Type} {act : ι → State → State} {Other : ι → State → State → Prop}
    {Inv : State → Prop} (hrefl : ∀ i s, Other i s s)
    (htrans : ∀ i s t u, Other i s t → Other i t u → Other i s u)
    (hinv : ∀ i s, Inv s → Inv (act i s))
    (hother : ∀ i j s, Inv s → j ≠ i → Other j s (act i s)) {l : List ι} (hl : l.Nodup) {s : State}
    (hs : Inv s) (j : ι) :
    (j ∉ l → Other j s (l.foldl (fun s i => act i s) s)) ∧
      (j ∈ l → ∃ u, Inv u ∧ Other j s u ∧ Other j (act j u) (l.foldl (fun s i => act i s) s)) := by
  induction l generalizing s with
  | nil => exact ⟨fun _ => hrefl j s, fun h => absurd h List.not_mem_nil⟩
  | cons i l ih =>
    obtain ⟨hil, hl⟩ := List.nodup_cons.mp hl
    obtain ⟨ihn, ihm⟩ := ih hl (hinv i s hs)
    rw [List.foldl_cons]
    refine ⟨fun hn => ?_, fun hm => ?_⟩
    · obtain ⟨hji, hjl⟩ : j ≠ i ∧ j ∉ l := by simpa using hn
      exact htrans _ _ _ _ (hother i j s hs hji) (ihn hjl)
    · by_cases hji : j = i
      · subst hji
        exact ⟨s, hs, hrefl j s, ihn hil⟩
      · obtain ⟨u, hu, hsu, hut⟩ := ihm ((List.mem_cons.mp hm).resolve_left hji)
        exact ⟨u, hu, htrans _ _ _ _ (hother i j s hs hji) hsu, hut⟩

/-- The holders of the hosts of a list, each taken through `f` in its turn. -/
theorem foldl_holdersBecome {b : Bank} {act : HostId → State → State} {f : Holder → Option Holder}
    {Inv : State → Prop} (hf : KeepsHost f) (hinv : ∀ h s, Inv s → Inv (act h s))
    (hact : ∀ h s, Inv s → HoldersBecome b (onHost h f) s (act h s)) {l : List HostId}
    (hl : l.Nodup) {s : State} (hs : Inv s) :
    HoldersBecome b (fun x => if x.host ∈ l then f x else some x) s
      (l.foldl (fun s h => act h s) s) := by
  induction l generalizing s with
  | nil => exact (HoldersBecome.refl b s).congr fun x _ => by simp
  | cons h l ih =>
    obtain ⟨hhl, hl⟩ := List.nodup_cons.mp hl
    refine ((hact h s hs).trans (ih hl (hinv h s hs))).congr fun x _ => ?_
    by_cases e : x.host = h
    · cases hy : f x with
      | none => simp [onHost, e, hy]
      | some y =>
        have hyl : y.host ∉ l := by rwa [hf x y hy, e]
        simp [onHost, e, hy, hyl]
    · simp [onHost, e]

end Sys2Proof.Leases
end

section
/-! PROOFS. The completion of an activation: its holders dealt with one by one (O26, O27). -/

namespace Sys2Proof.Leases

open Sys2Proof Sys2Proof.Machine Sys2Proof.Safety

/-! ## Frames of the lease table's operations -/

theorem changesOnly_holderGone (b : Bank) (h : HostId) (s : State) :
    ChangesOnly [.banks, .chan] s (holderGone b h s) := by
  simp only [holderGone]
  split
  · exact (changesOnly_setBank s b _).trans' (changesOnly_setOp _ b _) (by decide) (by decide)
  · exact (changesOnly_setBank s b _).mono (by decide)

theorem changesOnly_setHolder (b : Bank) (h : HostId) (x : Holder) (s : State) :
    ChangesOnly [.banks] s (setHolder b h x s) := changesOnly_setBank s b _

/-- A holder's leaving together with an update of a host's side. -/
theorem changesOnly_leaves (b : Bank) (h g : HostId) (x : HostSide) (s : State) :
    ChangesOnly [.banks, .chan, .hosts] s ((holderGone b h s).setHost g x) :=
  (changesOnly_holderGone b h s).trans' (changesOnly_setHost _ g x) (by decide) (by decide)

/-- A holder's entry written anew together with an update of a host's side. -/
theorem changesOnly_stays (b : Bank) (h g : HostId) (y : Holder) (x : HostSide) (s : State) :
    ChangesOnly [.banks, .chan, .hosts] s ((setHolder b h y s).setHost g x) :=
  (changesOnly_setHolder b h y s).trans' (changesOnly_setHost _ g x) (by decide) (by decide)

/-- What is done to the one entry of a host is what matters. -/
theorem onHost_congr {r : BankRecord} (hu : UniqueHolders r) {h : HostId} {x : Holder}
    (hx : r.holder h = some x) {f f' : Holder → Option Holder} (e : f' x = f x) :
    ∀ y ∈ r.holders, onHost h f' y = onHost h f y := by
  intro y hy
  obtain ⟨hh, hm⟩ := holder_host hx
  by_cases hyh : y.host = h
  · simp [onHost, hu.eq hy hm (hyh.trans hh.symm), e]
  · simp [onHost, hyh]

/-! ## One holder of a bank whose activation has completed (R19) -/

/-- R19: what becomes of a holder entry. -/
def settledEntry (s : State) (b : Bank) (x : Holder) : Option Holder :=
  match x.status with
  | .active => some { x with answered := true, deadline := grantDeadline s x.host }
  | .closing =>
    if s.xfer.list.any (fun e => decide (e.host = x.host) && decide (e.bank = b)) then
      some { x with answered := true }
    else none
  | .revoking _ => none

/-- R19, R31: what becomes of a holder's side. -/
def settledSide (s : State) (b : Bank) (x : Holder) : HostSide :=
  match x.status with
  | .active => answeredSide x.grantTag .ok .none (s.host x.host)
  | .closing =>
    if s.noTransferOn x.host b then
      answeredOptSide x.closeTag .ok (answeredSide x.grantTag .withdrawn .none (s.host x.host))
    else answeredSide x.grantTag .withdrawn .none (s.host x.host)
  | .revoking .hostLost => s.host x.host
  | .revoking _ =>
    answeredOptSide x.closeTag .ok (answeredSide x.grantTag .revoked .none (s.host x.host))

theorem holdersSettled_eq (s : State) (b : Bank) :
    holdersSettled s b = (s.bank b).holders.filterMap (settledEntry s b) := rfl

theorem keepsHost_settledEntry (s : State) (b : Bank) : KeepsHost (settledEntry s b) := by
  intro x y hy
  unfold settledEntry at hy
  split at hy
  · cases hy
    rfl
  · split at hy
    · cases hy
      rfl
    · cases hy
  · cases hy

theorem any_transfer_iff (s : State) (h : HostId) (b : Bank) :
    (s.xfer.list.any fun e => decide (e.host = h) && decide (e.bank = b)) = true ↔
      ¬noneLeft s h b := by
  simp [noneLeft]

/-- R19: one holder is dealt with. -/
theorem settleHolder_spec {b : Bank} {h : HostId} {s : State} (hu : UniqueHolders (s.bank b))
    (ho : (s.bank b).holders ≠ [] → (s.bank b).state = .opened) :
    HoldersBecome b (onHost h (settledEntry s b)) s (settleHolder b h s) ∧
      ChangesOnly [.banks, .chan, .hosts] s (settleHolder b h s) ∧
      OtherHostsSame h s (settleHolder b h s) ∧
      ∀ x, (s.bank b).holder h = some x → (settleHolder b h s).host h = settledSide s b x := by
  cases hx : (s.bank b).holder h with
  | none =>
    rw [settleHolder_none hx]
    exact ⟨holder_none_some hx _, .refl _ s, fun _ _ => rfl, by simp⟩
  | some x =>
    obtain ⟨rfl, hm⟩ := holder_host hx
    have hop := ho (List.ne_nil_of_mem hm)
    have hgone : settledEntry s b x = none →
        HoldersBecome b (onHost x.host (settledEntry s b)) s (holderGone b x.host s) := fun e =>
      (holderGone_become hx).congr (onHost_congr hu hx e)
    have hset : ∀ f : Holder → Holder, settledEntry s b x = some (f x) →
        HoldersBecome b (onHost x.host (settledEntry s b)) s (setHolder b x.host (f x) s) :=
      fun f e => (setHolder_become hu hx f).congr (onHost_congr hu hx e)
    have hsame : ∀ (u : State) (p : HostSide), (∀ g, u.host g = s.host g) →
        OtherHostsSame x.host s (u.setHost x.host p) := fun u p e g hg => by
      rw [State.setHost_host_other u p hg, e g]
    cases hst : x.status with
    | active =>
      rw [settleHolder_active hx hst]
      refine ⟨(hset (fun y => { y with answered := true, deadline := grantDeadline s x.host })
        (by simp [settledEntry, hst])).then_same rfl rfl rfl, changesOnly_stays _ _ _ _ _ _,
        hsame _ _ fun _ => rfl, ?_⟩
      rintro _ ⟨⟩
      simp [settledSide, hst]
    | closing =>
      by_cases hn : noneLeft s x.host b
      · rw [settleHolder_closing_leaves hx hst hop hn]
        have hany := (not_congr (any_transfer_iff s x.host b)).mpr (not_not.mpr hn)
        refine ⟨(hgone (by simp only [settledEntry, hst, if_neg hany])).then_same rfl rfl rfl,
          changesOnly_leaves _ _ _ _ _, hsame _ _ fun g => holderGone_host _ _ g s, ?_⟩
        rintro _ ⟨⟩
        simp [settledSide, hst, (noTransferOn_iff s x.host b).mpr hn]
      · rw [settleHolder_closing_stays hx hst (fun e => hn e.2)]
        have hany := (any_transfer_iff s x.host b).mpr hn
        have hno : ¬s.noTransferOn x.host b = true := (not_congr (noTransferOn_iff s x.host b)).mpr hn
        refine ⟨(hset (fun y => { y with answered := true })
          (by simp only [settledEntry, hst, if_pos hany])).then_same rfl rfl rfl,
          changesOnly_stays _ _ _ _ _ _, hsame _ _ fun _ => rfl, ?_⟩
        rintro _ ⟨⟩
        simp only [settledSide, hst, if_neg hno, State.setHost_host_same]
    | revoking r =>
      have hnone : settledEntry s b x = none := by simp [settledEntry, hst]
      by_cases hr : r = .hostLost
      · subst hr
        rw [settleHolder_lost hx hst]
        refine ⟨hgone hnone, (changesOnly_holderGone b _ s).mono (by decide),
          fun g _ => holderGone_host _ _ g s, ?_⟩
        rintro _ ⟨⟩
        simp [settledSide, hst]
      · rw [settleHolder_revoking hx hr hst]
        refine ⟨(hgone hnone).then_same rfl rfl rfl, changesOnly_leaves _ _ _ _ _,
          hsame _ _ fun g => holderGone_host _ _ g s, ?_⟩
        rintro _ ⟨⟩
        cases r <;> simp_all [settledSide]

/-! ## All of them -/

/-- What stays as it was while the holders of a bank are dealt with. -/
def Settling (b : Bank) (s u : State) : Prop :=
  UniqueHolders (u.bank b) ∧ ((u.bank b).holders ≠ [] → (u.bank b).state = .opened) ∧
    ChangesOnly [.banks, .chan, .hosts] s u

theorem Settling.entry {b : Bank} {s u : State} (hu : Settling b s u) :
    settledEntry u b = settledEntry s b := by
  have hx : u.xfer = s.xfer := hu.2.2 .xfer (by decide)
  have hn : u.now = s.now := hu.2.2 .now (by decide)
  have ha : u.agree = s.agree := hu.2.2 .agree (by decide)
  funext x
  simp only [settledEntry, grantDeadline, hx, hn, ha]

theorem Settling.side {b : Bank} {s u : State} {x : Holder} (hu : Settling b s u)
    (hh : u.host x.host = s.host x.host) : settledSide u b x = settledSide s b x := by
  have hx : u.xfer = s.xfer := hu.2.2 .xfer (by decide)
  have hn : u.noTransferOn x.host b = s.noTransferOn x.host b := by simp only [State.noTransferOn, hx]
  unfold settledSide
  rw [hh, hn]

/-- R19: the holders of an OPEN bank, dealt with in grant order. -/
theorem foldl_settleHolder {b : Bank} {s : State} (hu : UniqueHolders (s.bank b))
    (ho : (s.bank b).state = .opened) {t : State}
    (ht : t = ((s.bank b).holders.map fun x => x.host).foldl (fun s h => settleHolder b h s) s) :
    HoldersBecome b (settledEntry s b) s t ∧ ChangesOnly [.banks, .chan, .hosts] s t ∧
      (∀ x ∈ (s.bank b).holders, t.host x.host = settledSide s b x) ∧
      ∀ g, (s.bank b).holder g = none → t.host g = s.host g := by
  have hstart : Settling b s s := ⟨hu, fun _ => ho, .refl _ s⟩
  have hspec := fun h u (hv : Settling b s u) => settleHolder_spec (h := h) hv.1 hv.2.1
  have hkeeps : ∀ h u, KeepsHost (onHost h (settledEntry u b)) := fun h u =>
    keepsHost_onHost (keepsHost_settledEntry u b)
  have hinv : ∀ h u, Settling b s u → Settling b s (settleHolder b h u) := fun h u hv => by
    obtain ⟨hbec, hch, -, -⟩ := hspec h u hv
    refine ⟨hbec.unique (hkeeps h u) hv.1, fun hne => ?_, hv.2.2.trans hch⟩
    rw [hbec.state hne]
    refine hv.2.1 fun e => hne ?_
    rw [hbec.holders, e]
    rfl
  have hbecome := foldl_holdersBecome (b := b) (keepsHost_settledEntry s b) hinv
    (fun h u hv => hv.entry ▸ (hspec h u hv).1) hu hstart
  have hown := foldl_own (act := fun h s => settleHolder b h s)
    (Other := fun g s t => t.host g = s.host g ∧ (t.bank b).holder g = (s.bank b).holder g)
    (fun _ _ => ⟨rfl, rfl⟩) (fun _ _ _ _ h k => ⟨k.1.trans h.1, k.2.trans h.2⟩) hinv
    (fun h g u hv hg => by
      obtain ⟨hbec, -, hsame, -⟩ := hspec h u hv
      exact ⟨hsame g hg, hbec.holder_other (keepsHost_settledEntry u b) hg⟩) hu hstart
  subst ht
  refine ⟨hbecome.congr fun x hx => ?_, ?_, fun x hx => ?_, fun g hg => ?_⟩
  · rw [if_pos (List.mem_map_of_mem hx)]
  · exact List.foldlRecOn (motive := Settling b s) _ _ hstart (fun u hv h _ => hinv h u hv) |>.2.2
  · obtain ⟨u, hv, ⟨hhost, hhold⟩, hfin, -⟩ := (hown x.host).2 (List.mem_map_of_mem hx)
    rw [hfin, (hspec x.host u hv).2.2.2 x (hhold.trans (hu.holder_eq hx)), hv.side hhost]
  · refine ((hown g).1 ?_).1
    simpa using holder_none_iff.mp hg

/-- R19, R71: the completion of an activation, with what becomes of each entry and each side. -/
theorem activateCompletion_spec {s : State} {b : Bank} {row : Row}
    (hf : (s.op b).inFlight = .activate row) (hd : due s.now (s.op b).due = true)
    (hu : UniqueHolders (s.bank b)) :
    ∃ t, exec (.activateCompletion b) s = .next t ∧ ChangesOnly [.banks, .chan, .hosts] s t ∧
      OtherBanksSame b s t ∧ OtherOpsSame b (keepPlace s) t ∧
      t.bank b = withHolders { s.bank b with state := .opened } (holdersSettled s b) ∧
      t.op b = withHoldersOp s.now (s.bank b) (holdersSettled s b)
        { s.op b with inFlight := .none, due := none, openRow := some row } ∧
      (∀ x ∈ (s.bank b).holders, t.host x.host = settledSide s b x) ∧
      ∀ g, (s.bank b).holder g = none → t.host g = s.host g := by
  let u := ((keepPlace s).setOp b
    { s.op b with inFlight := .none, due := none, openRow := some row }).setBank b
      { s.bank b with state := .opened }
  have hexec : exec (.activateCompletion b) s = .next
      (((s.bank b).holders.map fun x => x.host).foldl (fun s h => settleHolder b h s) u) := by
    have : execActivateCompletion b s = .next (landActivate b row (keepPlace s)) := by
      simp only [execActivateCompletion, hf, hd, if_true]
    rw [List.foldl_map]
    exact this
  have hub : u.bank b = { s.bank b with state := .opened } := by simp [u]
  have huo : u.op b = { s.op b with inFlight := .none, due := none, openRow := some row } := by
    simp [u]
  have hsu : ChangesOnly [.banks, .chan] s u :=
    ((changesOnly_keepPlace s).trans (changesOnly_setOp _ b _)).trans' (changesOnly_setBank _ b _)
      (by decide) (by decide)
  obtain ⟨hbec, hch, hin, hout⟩ := foldl_settleHolder (s := u) (b := b) (by rw [hub]; exact hu)
    (by rw [hub]) (t := ((s.bank b).holders.map fun x => x.host).foldl
      (fun s h => settleHolder b h s) u) (by rw [hub])
  rw [hub] at hin hout
  have hsettled : (s.bank b).holders.filterMap (settledEntry u b) = holdersSettled s b := rfl
  have hbank := hbec.bank
  have hop := hbec.op
  simp only [hub] at hbank hop
  refine ⟨_, hexec, hsu.trans' hch (by decide) (by decide), fun c hc => ?_, ⟨?_, fun c hc => ?_⟩,
    hbank, ?_, hin, hout⟩
  · rw [hbec.banks c hc]
    simp [u, hc]
  · rw [hbec.ops.1]
    rfl
  · rw [hbec.ops.2 c hc]
    simp [u, hc]
  · rw [hop, huo]
    rfl

/-- R31: the OPEN of a leaving holder and its recorded CLOSE are answered one after the other. -/
theorem answeredOptSide_open_close {s : State} {x : Holder} (st : Status)
    (ht : (s.host x.host).tags[x.grantTag.val] = some .openLease) (hc : CloseOutstanding s x) :
    answeredOptSide x.closeTag .ok (answeredSide x.grantTag st .none (s.host x.host)) =
      sideClosed x.closeTag
        (sideAnswers (s.host x.host) x.grantTag (plain x.grantTag .openLease st)) := by
  rw [answeredSide_plain st ht]
  refine answeredOptSide_close fun tag htag => ?_
  have hne : tag ≠ x.grantTag := by
    rintro rfl
    simp [hc _ htag] at ht
  rw [sideAnswers_tags_other _ _ hne]
  exact hc tag htag

/-- Settles O26: every holder is ACTIVE. -/
theorem activationAnswersActiveHolders : Obligations.ActivationAnswersActiveHolders := by
  intro s b row hf hd hl hall
  obtain ⟨t, hexec, hch, hbanks, hops, hbank, hop, hin, hout⟩ :=
    activateCompletion_spec hf hd (uniqueHolders_of_sound hl)
  have hlist : holdersSettled s b = (s.bank b).holders.map fun x =>
      { x with answered := true, deadline := grantDeadline s x.host } := by
    rw [holdersSettled_eq, ← List.filterMap_eq_map]
    refine List.filterMap_congr fun x hx => ?_
    simp [settledEntry, (hall x hx).1]
  have hnil : holdersSettled s b = [] → (s.bank b).holders = [] := fun e => by simpa [hlist] using e
  refine ⟨t, hexec, hch, hbanks, hops, ?_, ?_, fun x hx => ?_, hout⟩
  · rw [hop, withHoldersOp, if_neg fun e => e.2 (hnil e.1)]
  · rw [hbank, withHolders, if_neg fun e => e.2 (hnil e.1), hlist]
  · rw [hin x hx, settledSide, (hall x hx).1]
    exact answeredSide_plain .ok (hall x hx).2

/-- Settles O27: each status in turn; a sole holder that leaves is the last one. -/
theorem activationOfLeavingHolderPrecharges : Obligations.ActivationOfLeavingHolderPrecharges := by
  refine ⟨fun s b row x hf hd hone hna hn ht hc => ?_, fun s b row hf hd hl hall => ?_⟩
  · obtain ⟨t, hexec, hch, hbanks, hops, hbank, hop, hin, hout⟩ :=
      activateCompletion_spec hf hd (by simp [UniqueHolders, hone])
    have hx : x ∈ (s.bank b).holders := by simp [hone]
    have hlist : holdersSettled s b = [] := by
      have hany := (not_congr (any_transfer_iff s x.host b)).mpr (not_not.mpr hn)
      have hx : settledEntry s b x = none := by
        unfold settledEntry
        split
        · contradiction
        · exact if_neg hany
        · rfl
      simp [holdersSettled_eq, hone, hx]
    refine ⟨t, hexec, hch, hbanks, hops, fun g hg => hout g ?_, ?_, ?_, fun hs => ?_, fun hs => ?_,
      fun hs hs' => ?_⟩
    · simpa [holder_none_iff, hone] using hg.symm
    · simp [hbank, withHolders, hlist, hone]
    · simp [hop, withHoldersOp, hlist, hone]
    · rw [hin x hx, settledSide, hs, ← answeredOptSide_open_close .withdrawn ht hc]
      exact if_pos ((noTransferOn_iff s x.host b).mpr hn)
    · rw [hin x hx, settledSide, hs]
    · rw [hin x hx, ← answeredOptSide_open_close .revoked ht hc]
      unfold settledSide
      split <;> simp_all
  · obtain ⟨t, hexec, hch, hbanks, hops, hbank, hop, hin, hout⟩ :=
      activateCompletion_spec hf hd (uniqueHolders_of_sound hl)
    refine ⟨t, hexec, hch, hbanks, hops, hbank, hop, fun x hx => ⟨fun hs => ?_, ?_, fun hs => ?_,
      fun r hr hs => ?_⟩, hout⟩
    · obtain ⟨ht, -⟩ := hall x hx (by simp [hs])
      rw [hin x hx, settledSide, hs]
      exact answeredSide_plain .ok ht
    · rintro hs _ rfl
      obtain ⟨ht, hc⟩ := hall x hx (by simp [hs])
      rw [hin x hx, settledSide, hs]
      refine ⟨fun hn => ?_, fun hn => ?_⟩
      · rw [← answeredOptSide_open_close .withdrawn ht hc]
        exact if_pos ((noTransferOn_iff s x.host b).mpr hn)
      · rw [← answeredSide_plain .withdrawn ht]
        exact if_neg fun e => hn ((noTransferOn_iff s x.host b).mp e)
    · rw [hin x hx, settledSide, hs]
    · obtain ⟨ht, hc⟩ := hall x hx (by simpa [hs] using hr)
      rw [hin x hx, ← answeredOptSide_open_close .revoked ht hc]
      unfold settledSide
      split <;> simp_all

end Sys2Proof.Leases
end

section
/-! PROOFS. Revocation: one holder, then the holders of a list of hosts on one bank, with what becomes of
the bank, of the transfer list and of the notification queues (O29, O30, O18). -/

namespace Sys2Proof.Leases

open Sys2Proof Sys2Proof.Machine Sys2Proof.Safety

/-! ## Notifications that stand in a queue (R165) -/

/-- R165: the notification stands undelivered in the host's queue, or was lost to a full queue. -/
def Told (n : Notification) (p : HostSide) : Prop :=
  ⟨n, none⟩ ∈ p.notes.entries ∨ p.notes.overflow = true

/-- Every port is as it was, and what a host has been told stays in its queue. -/
def NotesKept (s t : State) : Prop :=
  ∀ g, t.port g = s.port g ∧ ∀ n, Told n (s.host g) → Told n (t.host g)

namespace NotesKept

theorem refl (s : State) : NotesKept s s := fun _ => ⟨rfl, fun _ h => h⟩

theorem trans {s t u : State} (h : NotesKept s t) (k : NotesKept t u) : NotesKept s u := fun g =>
  ⟨(k g).1.trans (h g).1, fun n hn => (k g).2 n ((h g).2 n hn)⟩

theorem of_hosts {s t : State} (h : t.hosts = s.hosts) : NotesKept s t := fun g => by
  simp [State.port, State.host, h]

end NotesKept

theorem told_sideNotified (n : Notification) {p : HostSide} (hp : p.port ≠ .down) :
    Told n (sideNotified true n p) := by
  unfold Told sideNotified NoteQueue.push
  rw [if_pos ⟨rfl, hp⟩]
  split <;> simp

theorem told_kept {n : Notification} {p : HostSide} (a : Bool) (m : Notification) (h : Told n p) :
    Told n (sideNotified a m p) := by
  unfold Told sideNotified NoteQueue.push at *
  split
  · split
    · exact h.imp_left (List.mem_append_left _)
    · exact h.imp_right fun _ => rfl
  · exact h

/-- A step that touches one host, whose port stays and whose queue stays or grows. -/
theorem notesKept_of_one {s t : State} {h : HostId} (ho : OtherHostsSame h s t)
    (hp : t.port h = s.port h) (hn : ∀ n, Told n (s.host h) → Told n (t.host h)) :
    NotesKept s t := fun g => by
  by_cases e : g = h
  · subst e
    exact ⟨hp, hn⟩
  · simp [State.port, ho g e]

/-! ## One holder (R29, R30, R62) -/

/-- R30: a holder that a revocation takes off the bank in its own event. -/
def leavesAtOnce (s : State) (b : Bank) (x : Holder) : Bool :=
  revocable x && decide ((s.bank b).state = .opened) && !hasBegun s x.host b

/-- R29, R30, R32: what a revocation makes of a holder entry. -/
def revokedEntry (s : State) (b : Bank) (r : RevokeReason) (x : Holder) : Option Holder :=
  if leavesAtOnce s b x then none else some (if revocable x then revoked r x else x)

theorem keepsHost_revokedEntry (s : State) (b : Bank) (r : RevokeReason) :
    KeepsHost (revokedEntry s b r) := by
  intro x y hy
  unfold revokedEntry at hy
  split at hy
  · cases hy
  · cases hy
    split <;> rfl

/-- R62: the transfer is one that has not begun, of a host of the list that holds the bank and that the
revocation reaches. -/
def cancelledBy (s : State) (b : Bank) (l : List HostId) (e : Transfer) : Bool :=
  decide (e.bank = b) && decide (e.issued = 0) && decide (e.host ∈ l) &&
    ((s.bank b).holder e.host).any revocable

/-- R29, R30, R62: what a revocation of the holders of the hosts of a list, for a reason that is told,
makes of a bank and of its transfers. -/
structure Revokes (b : Bank) (r : RevokeReason) (l : List HostId) (s t : State) : Prop where
  become : HoldersBecome b (fun x => if x.host ∈ l then revokedEntry s b r x else some x) s t
  changes : ChangesOnly [.banks, .chan, .xfer, .hosts] s t
  xfer : t.xfer = { s.xfer with list := s.xfer.list.filter fun e => !cancelledBy s b l e }
  others : ∀ g, (g ∉ l ∨ ((s.bank b).holder g).any revocable = false) → t.host g = s.host g
  notes : ∀ x ∈ (s.bank b).holders, x.host ∈ l → leavesAtOnce s b x = true →
    (t.host x.host).notes = (sideNotified true (.leaseRevoked b r) (s.host x.host)).notes
  kept : NotesKept s t

/-- R62: the transfers that have begun stay. -/
theorem Revokes.hasBegun {b : Bank} {r : RevokeReason} {l : List HostId} {s t : State}
    (h : Revokes b r l s t) (g : HostId) (c : Bank) : hasBegun t g c = hasBegun s g c := by
  have hx : t.xfer.list = s.xfer.list.filter fun e => !cancelledBy s b l e := by rw [h.xfer]
  rw [Safety.hasBegun, hx, List.any_filter, Safety.hasBegun]
  congr 1
  funext e
  cases hi : decide (0 < e.issued) with
  | false => simp
  | true =>
    have : e.issued ≠ 0 := by
      have := of_decide_eq_true hi
      omega
    simp [cancelledBy, this]

/-- R62: one host's unbegun transfers on the bank. -/
theorem cancelledBy_one {s : State} {b : Bank} {h : HostId} :
    cancelledBy s b [h] = fun e =>
      e.unbegunOf h b && ((s.bank b).holder h).any revocable := by
  funext e
  by_cases hh : e.host = h
  · simp [cancelledBy, Transfer.unbegunOf, hh]
  · simp [cancelledBy, Transfer.unbegunOf, hh]

theorem revokes_nothing {b : Bank} {r : RevokeReason} {h : HostId} {s : State}
    (hn : ((s.bank b).holder h).any revocable = false) (hu : UniqueHolders (s.bank b)) :
    Revokes b r [h] s s where
  become := (HoldersBecome.refl b s).congr fun x hx => by
    split
    next hm =>
      obtain rfl : x.host = h := by simpa using hm
      have hv : revocable x = false := by simpa [hu.holder_eq hx] using hn
      simp [revokedEntry, leavesAtOnce, hv]
    · rfl
  changes := .refl _ s
  xfer := by
    have : s.xfer.list.filter (fun e => !cancelledBy s b [h] e) = s.xfer.list := by
      rw [cancelledBy_one]
      simp [hn]
    rw [this]
  others _ _ := rfl
  notes x hx hm hl := by
    obtain rfl : x.host = h := by simpa using hm
    have hv : revocable x = false := by simpa [hu.holder_eq hx] using hn
    simp [leavesAtOnce, hv] at hl
  kept := .refl s

/-- R29, R30, R32, R62: one revocation, for a reason that is told. -/
theorem revoke_revokes {b : Bank} {h : HostId} {r : RevokeReason} {s : State} (hr : r ≠ .hostLost)
    (hu : UniqueHolders (s.bank b)) : Revokes b r [h] s (revoke b h r s) := by
  cases hx : (s.bank b).holder h with
  | none =>
    rw [revoke_none r hx]
    exact revokes_nothing (by simp [hx]) hu
  | some x =>
    cases hv : revocable x with
    | false =>
      rw [revoke_keeps hr hx hv]
      exact revokes_nothing (by simp [hx, hv]) hu
    | true =>
      obtain ⟨rfl, hm⟩ := holder_host hx
      have hany : ((s.bank b).holder x.host).any revocable = true := by simp [hx, hv]
      have hlist : (s.xfer.list.filter fun e => !cancelledBy s b [x.host] e) =
          keptTransfers s x.host b := by
        rw [cancelledBy_one]
        simp [hany, keptTransfers]
      have honly : ∀ y ∈ (s.bank b).holders,
          (if y.host ∈ [x.host] then revokedEntry s b r y else some y) =
            onHost x.host (fun _ => revokedEntry s b r x) y := fun y hy => by
        by_cases e : y.host = x.host
        · simp [onHost, hu.eq hy hm e]
        · simp [onHost, e]
      have hside : ∀ g, (g ∉ [x.host] ∨ ((s.bank b).holder g).any revocable = false) →
          g ≠ x.host := by
        rintro g hg rfl
        simp [hany] at hg
      cases hl : leavesAtOnce s b x with
      | true =>
        obtain ⟨⟨-, ho⟩, hb⟩ : (revocable x = true ∧ (s.bank b).state = .opened) ∧
          hasBegun s x.host b = false := by simpa [leavesAtOnce] using hl
        rw [revoke_leaves hr hx hv ho hb]
        have hothers : OtherHostsSame x.host s
            (((holderGone b x.host s).setList (keptTransfers s x.host b)).setHost x.host
              (answeredOptSide x.closeTag .ok
                (sideNotified true (.leaseRevoked b r) (cancelledSide s x.host b)))) :=
          fun g hg => by simp [hg]
        have hnotes : (sideNotified true (.leaseRevoked b r) (cancelledSide s x.host b)).notes =
            (sideNotified true (.leaseRevoked b r) (s.host x.host)).notes := by
          simp only [sideNotified, cancelledSide_port]
          split <;> simp
        refine ⟨?_, ?_, by simp [hlist], fun g hg => hothers g (hside g hg), fun y hy hym _ => ?_,
          notesKept_of_one hothers (by simp [State.port]) fun n hn => ?_⟩
        · refine HoldersBecome.then_same (t := holderGone b x.host s) ?_ rfl rfl rfl
          exact (holderGone_become hx).congr fun y hy => by
            rw [honly y hy]
            simp [onHost, revokedEntry, hl]
        · exact ((changesOnly_holderGone b _ s).trans' (changesOnly_setList _ _)
            (m := [.banks, .chan, .xfer, .hosts]) (by decide) (by decide)).trans
            ((changesOnly_setHost _ _ _).mono (by decide))
        · obtain rfl := hu.eq hy hm (by simpa using hym)
          simp [hnotes]
        · have := told_kept true (.leaseRevoked b r) hn
          simpa [Told, hnotes] using this
      | false =>
        have hno : ¬((s.bank b).state = .opened ∧ hasBegun s x.host b = false) := by
          rintro ⟨ho, hb⟩
          simp [leavesAtOnce, hv, ho, hb] at hl
        rw [revoke_stays hr hx hv hno]
        have hothers : OtherHostsSame x.host s
            (((setHolder b x.host (revoked r x) s).setList (keptTransfers s x.host b)).setHost x.host
              (cancelledSide s x.host b)) := fun g hg => by simp [hg]
        refine ⟨?_, ?_, by simp [hlist], fun g hg => hothers g (hside g hg), fun y hy hym hyl => ?_,
          notesKept_of_one hothers (by simp [State.port]) fun n hn => by simpa [Told] using hn⟩
        · refine HoldersBecome.then_same (t := setHolder b x.host (revoked r x) s) ?_ rfl rfl rfl
          exact (setHolder_become hu hx (revoked r)).congr fun y hy => by
            rw [honly y hy]
            by_cases e : y.host = x.host
            · simp [onHost, revokedEntry, hl, hv, hu.eq hy hm e]
            · simp [onHost, e]
        · exact ((changesOnly_setHolder b _ _ s).trans' (changesOnly_setList _ _)
            (m := [.banks, .chan, .xfer, .hosts]) (by decide) (by decide)).trans
            ((changesOnly_setHost _ _ _).mono (by decide))
        · obtain rfl := hu.eq hy hm (by simpa using hym)
          simp [hl] at hyl

/-! ## One host after another -/

section Chain

variable {b : Bank} {r : RevokeReason} {h : HostId} {l : List HostId} {s u t : State}

theorem Revokes.one (hr : Revokes b r [h] s u) : HoldersBecome b (onHost h (revokedEntry s b r)) s u :=
  hr.become.congr fun x _ => by simp [onHost]

/-- The entry of another host is still there, and a revocation makes the same of it. -/
theorem Revokes.other_entry (hr : Revokes b r [h] s u) {x : Holder} (hx : x ∈ (s.bank b).holders)
    (hh : x.host ≠ h) :
    x ∈ (u.bank b).holders ∧ leavesAtOnce u b x = leavesAtOnce s b x := by
  have hm : x ∈ (u.bank b).holders := by
    rw [hr.one.holders, List.mem_filterMap]
    exact ⟨x, hx, by simp [onHost, hh]⟩
  have hst := hr.one.state (List.ne_nil_of_mem hm)
  exact ⟨hm, by simp only [leavesAtOnce, hst, hr.hasBegun]⟩

theorem Revokes.other_holder (hr : Revokes b r [h] s u) {g : HostId} (hg : g ≠ h) :
    (u.bank b).holder g = (s.bank b).holder g :=
  hr.one.holder_other (keepsHost_revokedEntry s b r) hg

/-- The revocation of one holder, then of those of a list of other hosts. -/
theorem Revokes.cons (hr : Revokes b r [h] s u) (hhl : h ∉ l)
    (hk : Revokes b r l u t) : Revokes b r (h :: l) s t where
  become := (hr.one.trans hk.become).congr fun x hx => by
    by_cases e : x.host = h
    · cases hy : revokedEntry s b r x with
      | none => simp [onHost, e, hy]
      | some y =>
        have hyl : y.host ∉ l := by rwa [keepsHost_revokedEntry s b r x y hy, e]
        simp [onHost, e, hy, hyl]
    · simp [onHost, e, revokedEntry, (hr.other_entry hx e).2]
  changes := hr.changes.trans hk.changes
  xfer := by
    have hl : ∀ e, (!cancelledBy s b (h :: l) e) =
        (!cancelledBy s b [h] e && !cancelledBy u b l e) := fun e => by
      by_cases he : e.host = h
      · simp [cancelledBy, he, hhl]
      · simp [cancelledBy, he, hr.other_holder he]
    rw [hk.xfer, hr.xfer, List.filter_filter]
    simp only [hl, Bool.and_comm]
  others g hg := by
    by_cases e : g = h
    · subst e
      rw [hk.others g (.inl hhl), hr.others g (hg.imp (by simp) id)]
    · rw [hk.others g (by rw [hr.other_holder e]; exact hg.imp (fun hn => by simp_all) id),
        hr.others g (.inl (by simpa using e))]
  notes x hx hm hl := by
    by_cases e : x.host = h
    · rw [hk.others _ (.inl (by rwa [e])), hr.notes x hx (by simp [e]) hl]
    · obtain ⟨hxu, hlu⟩ := hr.other_entry hx e
      rw [hk.notes x hxu (by simpa [e] using hm) (hlu.trans hl),
        hr.others _ (.inl (by simpa using e))]
  kept := hr.kept.trans hk.kept

end Chain

/-- R29, R30, R62: the holders of the hosts of a list, revoked in turn. -/
theorem foldl_revoke {b : Bank} {r : RevokeReason} (hr : r ≠ .hostLost) {l : List HostId}
    (hl : l.Nodup) {s : State} (hu : UniqueHolders (s.bank b)) :
    Revokes b r l s (l.foldl (fun s h => revoke b h r s) s) := by
  induction l generalizing s with
  | nil =>
    refine ⟨(HoldersBecome.refl b s).congr fun x _ => by simp, .refl _ s, ?_, fun _ _ => rfl,
      by simp, .refl s⟩
    have : s.xfer.list.filter (fun e => !cancelledBy s b [] e) = s.xfer.list := by
      simp [cancelledBy]
    rw [List.foldl_nil, this]
  | cons h l ih =>
    obtain ⟨hhl, hl⟩ := List.nodup_cons.mp hl
    have hone := revoke_revokes (h := h) hr hu
    exact hone.cons hhl
      (ih hl (hone.one.unique (keepsHost_onHost (keepsHost_revokedEntry s b r)) hu))

/-! ## The lease deadlines (R25, R28) -/

/-- Settles O29: a holder alone is marked, one before a waiter is revoked and leaves; a waiter is
withdrawn. -/
theorem leaseDeadlinesExpire : Obligations.LeaseDeadlinesExpire := by
  refine fun s b h => ⟨fun x hx hl hd => ?_, fun w hw hd ht => ?_⟩
  · have he : exec (.holdDeadlineExpiry b h) s = .next (expireHold b h x s) := by
      have : execHoldDeadlineExpiry b h s = .next (expireHold b h x s) := by
        simp only [execHoldDeadlineExpiry, hx, hd, if_true]
      exact this
    rw [he]
    refine ⟨fun hw => ?_, fun hw ha hc ho hn => ?_⟩
    · rw [expireHold, if_pos (by simp [hw]), notify_eq, setHolder,
        replaceHolder_eq_map (uniqueHolders_of_sound hl) hx fun y =>
          { y with deadline := none, overstayed := true }]
      rfl
    · obtain ⟨hkept, hside⟩ := kept_of_noneLeft hn
      rw [expireHold, if_neg (by simpa using hw), revoke_leaves (by decide) hx (by simp [revocable, ha])
        ho (noneLeft_hasBegun hn), hc, hkept, hside, holderGone_setHost]
      have : (holderGone b h s).setList s.xfer.list = holderGone b h s := by
        rw [← holderGone_setList]
        rfl
      rw [this]
      rfl
  · have he : execWaitDeadlineExpiry b h s = .next (withdrawWaiter b h .timedOut s) := by
      simp only [execWaitDeadlineExpiry, hw, hd, if_true]
    refine Eq.trans he ?_
    rw [withdrawWaiter_eq .timedOut hw, answeredSide_plain .timedOut ht]

/-- R62, R157: OUTSTANDING tags, each answered in turn: the answers stand in the list's order. -/
theorem foldl_answeredSide_outstanding (st : Status) {l : List Transfer} {p : HostSide}
    (hl : (l.map fun e => e.tag).Nodup)
    (ht : ∀ e ∈ l, p.tags[e.tag.val] = some (kindOf e.kind)) {q : HostSide}
    (hq : q = l.foldl (fun p e => answeredSide e.tag st .none p) p) :
    q = { p with
      tags := q.tags
      link := { p.link with sendQueue := p.link.sendQueue ++
        (l.map fun e => OutMsg.response (plain e.tag (kindOf e.kind) st)) } } ∧
      ∀ i : Tag, q.tags[i.val] =
        if i ∈ l.map (fun e => e.tag) then none else p.tags[i.val] := by
  subst hq
  induction l generalizing p with
  | nil => simp
  | cons e l ih =>
    obtain ⟨hel, hl⟩ := List.nodup_cons.mp hl
    rw [List.foldl_cons, answeredSide_plain st (ht e List.mem_cons_self)]
    have hne : ∀ i : Tag, i ≠ e.tag →
        (sideAnswers p e.tag (plain e.tag (kindOf e.kind) st)).tags[i.val] = p.tags[i.val] :=
      fun i hi => sideAnswers_tags_other _ _ hi
    have hrest : ∀ e' ∈ l, (sideAnswers p e.tag (plain e.tag (kindOf e.kind) st)).tags[e'.tag.val] =
        some (kindOf e'.kind) := fun e' he' => by
      rw [hne _ fun eq => hel (List.mem_map.mpr ⟨e', he', eq⟩)]
      exact ht e' (List.mem_cons_of_mem _ he')
    obtain ⟨hside, htags⟩ := ih hl hrest
    refine ⟨?_, fun i => ?_⟩
    · rw [hside]
      simp [sideAnswers]
    · rw [htags i]
      by_cases hi : i = e.tag
      · subst hi
        simp [sideAnswers]
      · simp [hne i hi, hi]

/-- Settles O30: the holder stays for its begun transfer. -/
theorem revocationCancelsUnbegunTransfers : Obligations.RevocationCancelsUnbegunTransfers := by
  rintro s b h x begun gone rfl htags hkinds hx hl ha hd hw hbm hbh hbb hbi
  have hbegun : hasBegun s h b = true :=
    List.any_eq_true.mpr ⟨begun, hbm, by simp [hbh, hbb, hbi]⟩
  have hgone : (s.xfer.list.filter fun e => decide (e.host = h ∧ e.bank = b ∧ e.issued = 0)) =
      s.xfer.list.filter fun e => e.unbegunOf h b :=
    List.filter_congr fun e _ => by simp [Transfer.unbegunOf, Bool.and_assoc]
  have hkept : (s.xfer.list.filter fun e => decide (¬(e.host = h ∧ e.bank = b ∧ e.issued = 0))) =
      keptTransfers s h b :=
    List.filter_congr fun e _ => by simp [Transfer.unbegunOf, Bool.or_assoc]
  rw [hgone] at htags hkinds
  have he : exec (.holdDeadlineExpiry b h) s = .next (takeIntake (revoke b h .holdExpired s)) := by
    have : execHoldDeadlineExpiry b h s = .next (expireHold b h x s) := by
      simp only [execHoldDeadlineExpiry, hx, hd, if_true]
    refine Eq.trans this ?_
    rw [expireHold, if_neg (by simpa using hw)]
  obtain ⟨hside, hfree⟩ := foldl_answeredSide_outstanding .revoked htags hkinds
    (q := cancelledSide s h b) rfl
  rw [revoke_stays (by decide) hx (by simp [revocable, ha]) (by simp [hbegun])] at he
  rw [hgone, hkept]
  refine ⟨_, he, ?_, fun c hc => ?_, fun g hg => ?_, ?_, ?_, ?_, ?_⟩
  · exact ((changesOnly_setHolder b h _ s).trans' (changesOnly_setList _ _)
      (m := [.banks, .xfer, .hosts]) (by decide) (by decide)).trans
      ((changesOnly_setHost _ _ _).mono (by decide))
  · simp [setHolder, hc]
  · simp [hg]
  · simp only [State.setHost_bank, State.setList_bank, setHolder_bank]
    rw [replaceHolder_eq_map (uniqueHolders_of_sound hl) hx (revoked .holdExpired)]
    rfl
  · simp
  · simpa [State.link] using hside
  · simpa using hfree

end Sys2Proof.Leases
end

section
/-! PROOFS. An OPEN that queues and revokes the overstayed holders of its bank (O18). -/

namespace Sys2Proof.Leases

open Sys2Proof Sys2Proof.Machine Sys2Proof.Safety

/-- R15, R27: the hosts of the ACTIVE overstayed holders of a bank. -/
def overstayedHosts (r : BankRecord) : List HostId :=
  (r.holders.filter overstays).map fun x => x.host

theorem overstayedHosts_nodup {r : BankRecord} (hu : UniqueHolders r) :
    (overstayedHosts r).Nodup :=
  hu.sublist (List.filter_sublist.map _)

theorem mem_overstayedHosts {r : BankRecord} (hu : UniqueHolders r) {x : Holder}
    (hx : x ∈ r.holders) : x.host ∈ overstayedHosts r ↔ overstays x = true := by
  simp only [overstayedHosts, List.mem_map, List.mem_filter]
  constructor
  · rintro ⟨y, ⟨hy, ho⟩, e⟩
    rwa [← hu.eq hy hx e]
  · exact fun ho => ⟨x, ⟨hx, ho⟩, rfl⟩

theorem overstays_iff (x : Holder) :
    overstays x = true ↔ x.status = .active ∧ x.overstayed = true := by simp [overstays]

theorem revocable_of_overstays {x : Holder} (h : overstays x = true) : revocable x = true := by
  simp [revocable, ((overstays_iff x).mp h).1]

/-- R15: with no overstayed holder nothing is revoked. -/
theorem revokeOverstayed_none {b : Bank} {s : State}
    (h : ∀ x ∈ (s.bank b).holders, overstays x = false) : revokeOverstayed b s = s := by
  have : (s.bank b).holders.filter overstays = [] :=
    List.filter_eq_nil_iff.mpr fun x hx => by simp [h x hx]
  exact if_pos (List.isEmpty_iff.mpr this)

theorem revokeOverstayed_some {b : Bank} {s : State}
    (h : ∃ x ∈ (s.bank b).holders, overstays x = true) :
    revokeOverstayed b s = takeIntake
      ((overstayedHosts (s.bank b)).foldl (fun s h => revoke b h .holdExpired s) s) := by
  obtain ⟨x, hx, ho⟩ := h
  have hne : (s.bank b).holders.filter overstays ≠ [] :=
    List.ne_nil_of_mem (List.mem_filter.mpr ⟨hx, ho⟩)
  rw [overstayedHosts, List.foldl_map]
  exact if_neg fun e => hne (List.isEmpty_iff.mp e)

/-- R15, R30: the holders that the revocation of the overstayed ones leaves. -/
theorem holdersNotOverstayed_eq {s : State} {b : Bank} (hu : UniqueHolders (s.bank b)) :
    (s.bank b).holders.filterMap (fun x =>
      if x.host ∈ overstayedHosts (s.bank b) then revokedEntry s b .holdExpired x else some x) =
      holdersNotOverstayed s b := by
  rw [holdersNotOverstayed, ← List.filterMap_eq_map, List.filterMap_filter]
  refine List.filterMap_congr fun x hx => ?_
  cases ho : overstays x with
  | false => simp [mem_overstayedHosts hu hx, ho]
  | true =>
    have hv := revocable_of_overstays ho
    rw [if_pos ((mem_overstayedHosts hu hx).mpr ho)]
    cases hb : hasBegun s x.host b <;> by_cases hst : (s.bank b).state = .opened <;>
      simp [revokedEntry, leavesAtOnce, hv, ho, hb, hst]

/-- R62: the transfers that the revocation of the overstayed holders takes out of the list. -/
theorem cancelledBy_overstayed {s : State} {b : Bank} (hu : UniqueHolders (s.bank b)) (e : Transfer) :
    cancelledBy s b (overstayedHosts (s.bank b)) e =
      (decide (e.bank = b) && decide (e.issued = 0) &&
        (s.bank b).holders.any fun x => decide (x.host = e.host) && overstays x) := by
  have hany : (decide (e.host ∈ overstayedHosts (s.bank b)) &&
      ((s.bank b).holder e.host).any revocable) =
        (s.bank b).holders.any fun x => decide (x.host = e.host) && overstays x := by
    rw [Bool.eq_iff_iff]
    simp only [Bool.and_eq_true, decide_eq_true_eq, List.any_eq_true]
    constructor
    · rintro ⟨hm, -⟩
      simp only [overstayedHosts, List.mem_map, List.mem_filter] at hm
      obtain ⟨x, ⟨hx, ho⟩, hh⟩ := hm
      exact ⟨x, hx, hh, ho⟩
    · rintro ⟨x, hx, hh, ho⟩
      rw [← hh, hu.holder_eq hx]
      exact ⟨(mem_overstayedHosts hu hx).mpr ho, revocable_of_overstays ho⟩
  rw [← hany, cancelledBy, Bool.and_assoc]

/-- The places of a bank's queue do not matter to a revocation. -/
theorem withQueue_same {s v : State} {b : Bank} {w : List Waiter}
    (hb : v.bank b = { s.bank b with waiters := w }) (hx : v.xfer = s.xfer) :
    leavesAtOnce v b = leavesAtOnce s b ∧ revokedEntry v b = revokedEntry s b ∧
      cancelledBy v b = cancelledBy s b := by
  have hl : leavesAtOnce v b = leavesAtOnce s b := by
    funext x
    simp only [leavesAtOnce, hb, Safety.hasBegun, hx]
  refine ⟨hl, ?_, ?_⟩
  · funext r x
    simp only [revokedEntry, hl]
  · funext l e
    simp only [cancelledBy, hb, BankRecord.holder]

/-- R15: a queue and what becomes of the holders do not meet. -/
theorem withHolders_queue (r : BankRecord) (w : List Waiter) (l : List Holder) :
    withHolders { r with waiters := w } l = { withHolders r l with waiters := w } := by
  by_cases h : l = [] ∧ r.holders ≠ [] <;> simp [withHolders, h]

/-- R15, R27: the OPEN queues, and the overstayed holders of its bank are revoked. -/
theorem queueOpen_revokes {s : State} {h : HostId} {tag : Tag} {b : Bank} {row : Row}
    {mode : LeaseMode} {wait : BitVec 16} (hu : UniqueHolders (s.bank b))
    (hover : ∃ x ∈ (s.bank b).holders, overstays x = true) :
    ∃ t, queueOpen h tag b row mode wait s = takeIntake t ∧
      Revokes b .holdExpired (overstayedHosts (s.bank b))
        (s.setBank b { s.bank b with
          waiters := (s.bank b).waiters ++
            [⟨h, tag, row, mode, waitDeadline s.now wait⟩] }) t := by
  let v := s.setBank b { s.bank b with
    waiters := (s.bank b).waiters ++ [⟨h, tag, row, mode, waitDeadline s.now wait⟩] }
  have hv : v.bank b = { s.bank b with
      waiters := (s.bank b).waiters ++ [⟨h, tag, row, mode, waitDeadline s.now wait⟩] } := by
    simp [v]
  refine ⟨_, revokeOverstayed_some (s := v) (by rw [hv]; exact hover), ?_⟩
  rw [hv]
  exact foldl_revoke (by decide) (overstayedHosts_nodup hu) (s := v) (by rw [hv]; exact hu)

/-- Settles O18: the OPEN queues; the holders that have overstayed are revoked one after the other. -/
theorem openThatCannotBeGrantedQueues : Obligations.OpenThatCannotBeGrantedQueues := by
  intro s h f tag b row mode wait ha hp hpark hh hw hr hno
  rw [exec_openLease_arrives _ _ _ _ ha hp,
    takeOpen_admits (s := s.setHost h _) wait hpark hh hw hr,
    admitOpen_queues (s := s.setHost h _) wait hno]
  refine ⟨fun hnone => ?_, fun hl hover => ?_⟩
  · rw [queueOpen, revokeOverstayed_none fun x hx => ?_]
    · rfl
    · simp only [State.setBank_bank_same] at hx
      refine Bool.eq_false_iff.mpr fun ho => ?_
      obtain ⟨hact, hlate⟩ := (overstays_iff x).mp ho
      simp [hnone x hx hact] at hlate
  · have hu := uniqueHolders_of_sound hl
    have hnh : (s.bank b).holder h = none := by
      cases hx : (s.bank b).holder h with
      | none => rfl
      | some x => simp [State.holds, hx] at hh
    obtain ⟨t, he, hrev⟩ := queueOpen_revokes (s := s.setHost h (sideTaken s h f tag .openLease))
      (h := h) (tag := tag) (row := row) (mode := mode) (wait := wait) hu hover
    let u := s.setHost h (sideTaken s h f tag .openLease)
    let v := u.setBank b { s.bank b with
      waiters := (s.bank b).waiters ++ [⟨h, tag, row, mode, waitDeadline s.now wait⟩] }
    have hv : v.bank b = { s.bank b with
        waiters := (s.bank b).waiters ++ [⟨h, tag, row, mode, waitDeadline s.now wait⟩] } := by
      simp [v]
    replace hrev : Revokes b .holdExpired (overstayedHosts (s.bank b)) v t := hrev
    have hsv : ChangesOnly [.banks, .hosts] s v :=
      (changesOnly_setHost s h _).trans' (changesOnly_setBank u b _) (by decide) (by decide)
    obtain ⟨hleaves, hentry, hcancel⟩ := withQueue_same (s := s) hv rfl
    have hlist : (s.bank b).holders.filterMap (fun x => if x.host ∈ overstayedHosts (s.bank b) then
        revokedEntry v b .holdExpired x else some x) = holdersNotOverstayed s b := by
      rw [hentry]
      exact holdersNotOverstayed_eq hu
    have hbank := hrev.become.bank
    have hop := hrev.become.op
    have hops := hrev.become.ops
    have hh : ∀ x ∈ (s.bank b).holders, x.host ≠ h := holder_none_iff.mp hnh
    have hvo : ∀ g, g ≠ h → v.host g = s.host g := fun g hg => by simp [v, u, hg]
    simp only [hv, hlist] at hbank hop
    refine ⟨t, congrArg Host.Outcome.next he, hsv.trans' hrev.changes (by decide) (by decide),
      fun c hc => ?_, ⟨hops.1, hops.2⟩, ?_, ?_, ?_, ?_, fun x hx ho hst hbeg => ?_, fun g hg hgx => ?_⟩
    · rw [hrev.become.banks c hc]
      simp [v, u, hc]
    · rw [hbank, withHolders_queue]
      rfl
    · exact hop
    · rw [hrev.xfer, hcancel]
      simp only [cancelledBy_overstayed hu]
      rfl
    · have hnv : (v.bank b).holder h = none := by rw [hv]; exact hnh
      rw [hrev.others h (.inr (by simp [hnv]))]
      simp [v, u]
    · rw [hrev.notes x (by rw [hv]; exact hx) ((mem_overstayedHosts hu hx).mpr ho) ?_,
        hvo _ (hh x hx)]
      rw [hleaves]
      simp [leavesAtOnce, revocable_of_overstays ho, hst, hbeg]
    · rw [hrev.others g (.inl ?_), hvo g hg]
      simp only [overstayedHosts, List.mem_map, List.mem_filter]
      rintro ⟨x, ⟨hx, ho⟩, rfl⟩
      simp [hgx x hx rfl] at ho

end Sys2Proof.Leases
end

section
/-! PROOFS. A mass revocation, bank by bank, and the two events that ask for one (O31). -/

namespace Sys2Proof.Leases

open Sys2Proof Sys2Proof.Machine Sys2Proof.Safety

/-! ## Every holder of every bank (R33) -/

/-- R33: every holder of one bank is revoked. -/
def revokeBank (r : RevokeReason) (b : Bank) (s : State) : State :=
  ((s.bank b).holders.map fun x => x.host).foldl (fun s h => revoke b h r s) s

theorem massRevoke_eq (r : RevokeReason) (s : State) :
    massRevoke r s = takeIntake (allBanks.foldl (fun s b => revokeBank r b s) s) := by
  simp only [massRevoke, revokeBank, List.foldl_map]

theorem revokeBank_revokes {r : RevokeReason} (hr : r ≠ .hostLost) {b : Bank} {s : State}
    (hu : UniqueHolders (s.bank b)) :
    Revokes b r ((s.bank b).holders.map fun x => x.host) s (revokeBank r b s) :=
  foldl_revoke hr hu hu

/-- A list of hosts that leaves the entries of the others alone keeps the holders' hosts distinct. -/
theorem Revokes.unique {b : Bank} {r : RevokeReason} {l : List HostId} {s t : State}
    (h : Revokes b r l s t) (hu : UniqueHolders (s.bank b)) : UniqueHolders (t.bank b) :=
  h.become.unique (fun x y hy => by
    dsimp only at hy
    split at hy
    · exact keepsHost_revokedEntry s b r x y hy
    · cases hy
      rfl) hu

/-- R33: what a step does not do to a bank, to its transfers and to the queues of notifications. -/
structure BankKept (b : Bank) (s t : State) : Prop where
  bank : t.bank b = s.bank b
  begun : ∀ g, hasBegun t g b = hasBegun s g b
  list : ∀ e, e.bank = b → (e ∈ t.xfer.list ↔ e ∈ s.xfer.list)
  notes : NotesKept s t

namespace BankKept

theorem refl (b : Bank) (s : State) : BankKept b s s :=
  ⟨rfl, fun _ => rfl, fun _ _ => Iff.rfl, .refl s⟩

theorem trans {b : Bank} {s t u : State} (h : BankKept b s t) (k : BankKept b t u) :
    BankKept b s u :=
  ⟨k.bank.trans h.bank, fun g => (k.begun g).trans (h.begun g),
    fun e he => (k.list e he).trans (h.list e he), h.notes.trans k.notes⟩

end BankKept

/-- A revocation on one bank keeps every other. -/
theorem Revokes.keeps {b c : Bank} {r : RevokeReason} {l : List HostId} {s t : State}
    (h : Revokes b r l s t) (hc : c ≠ b) : BankKept c s t where
  bank := h.become.banks c hc
  begun g := h.hasBegun g c
  list e he := by
    have : e.bank ≠ b := by rwa [he]
    simp [h.xfer, cancelledBy, this]
  notes := h.kept

/-- R33: what a mass revocation touches at all. -/
def OnlyRevoked (s t : State) : Prop :=
  ChangesOnly [.banks, .chan, .xfer, .hosts] s t ∧
    t.chan = { s.chan with ops := t.chan.ops } ∧ NotesKept s t

theorem OnlyRevoked.trans {s t u : State} (h : OnlyRevoked s t) (k : OnlyRevoked t u) :
    OnlyRevoked s u :=
  ⟨h.1.trans k.1, by rw [k.2.1, h.2.1], h.2.2.trans k.2.2⟩

/-- Each host stands at most once among the holders of each bank (R5). -/
def AllUnique (s : State) : Prop := ∀ b, UniqueHolders (s.bank b)

theorem AllUnique.revokes {b : Bank} {r : RevokeReason} {l : List HostId} {s t : State}
    (hu : AllUnique s) (h : Revokes b r l s t) : AllUnique t := fun c => by
  by_cases hc : c = b
  · subst hc
    exact h.unique (hu c)
  · rw [h.become.banks c hc]
    exact hu c

theorem Revokes.only {b : Bank} {r : RevokeReason} {l : List HostId} {s t : State}
    (h : Revokes b r l s t) : OnlyRevoked s t := ⟨h.changes, h.become.ops.1, h.kept⟩

theorem foldl_revokeBank_only {r : RevokeReason} (hr : r ≠ .hostLost) (l : List Bank) {s : State}
    (hu : AllUnique s) : OnlyRevoked s (l.foldl (fun s b => revokeBank r b s) s) := by
  induction l generalizing s with
  | nil => exact ⟨.refl _ s, rfl, .refl s⟩
  | cons b l ih =>
    have h := revokeBank_revokes hr (hu b)
    exact h.only.trans (ih (hu.revokes h))

/-- R33: the banks, one after the other; what is done to each is done while it is as at first. -/
theorem foldl_revokeBank {r : RevokeReason} (hr : r ≠ .hostLost) {l : List Bank} (hl : l.Nodup)
    {s : State} (hu : AllUnique s) {b : Bank} (hb : b ∈ l) :
    ∃ u v, BankKept b s u ∧ Revokes b r ((u.bank b).holders.map fun x => x.host) u v ∧
      BankKept b v (l.foldl (fun s b => revokeBank r b s) s) := by
  have hspec : ∀ (b : Bank) (s : State), AllUnique s →
      Revokes b r ((s.bank b).holders.map fun x => x.host) s (revokeBank r b s) :=
    fun b s hu => revokeBank_revokes hr (hu b)
  obtain ⟨u, hv, hsu, hut⟩ := (foldl_own (act := fun b s => revokeBank r b s) (Other := BankKept)
    BankKept.refl (fun _ _ _ _ => BankKept.trans) (fun b s hs => hs.revokes (hspec b s hs))
    (fun b c s hs hc => (hspec b s hs).keeps hc) hl hu b).2 hb
  exact ⟨u, revokeBank r b u, hsu, hspec b u hv, hut⟩

/-- R33: what becomes of one bank is what the statement says. -/
theorem massRevoked_foldl {r : RevokeReason} (hr : r ≠ .hostLost) {s : State}
    (hu : AllUnique s) :
    MassRevoked r s (allBanks.foldl (fun s b => revokeBank r b s) s) := by
  have hbanks := fun b => foldl_revokeBank hr (l := allBanks) (by decide) hu (mem_allBanks b)
  revert hbanks
  generalize allBanks.foldl (fun s b => revokeBank r b s) s = t
  intro hbanks
  refine ⟨fun b => ?_, fun e => ?_⟩
  · obtain ⟨u, v, hsu, hrev, hvt⟩ := hbanks b
    have hhold : (v.bank b).holders = (s.bank b).holders.filterMap (revokedEntry u b r) := by
      rw [hrev.become.holders, hsu.bank]
      exact List.filterMap_congr fun x hx => if_pos (List.mem_map_of_mem hx)
    have hleaves : ∀ x, leavesAtOnce u b x = leavesAtOnce s b x := fun x => by
      simp only [leavesAtOnce, hsu.bank, hsu.begun]
    have hmem : ∀ y, y ∈ (t.bank b).holders ↔
        ∃ x ∈ (s.bank b).holders, revokedEntry u b r x = some y := fun y => by
      rw [hvt.bank, hhold, List.mem_filterMap]
    refine ⟨by rw [hvt.bank, hrev.become.waiters, hsu.bank], fun y hy => ?_, fun x hx =>
      ⟨fun r' hs => ?_, fun hs => ?_⟩⟩
    · obtain ⟨x, hx, hxy⟩ := (hmem y).mp hy
      refine ⟨x, hx, ?_⟩
      unfold revokedEntry at hxy
      split at hxy
      · cases hxy
      · cases hv : revocable x with
        | true => exact .inr ⟨(revocable_iff x).mp hv, by simpa [hv] using hxy.symm⟩
        | false =>
          refine .inl ⟨?_, by simpa [hv] using hxy.symm⟩
          have := (not_congr (revocable_iff x)).mp (by simp [hv])
          simpa using this
    · refine (hmem x).mpr ⟨x, hx, ?_⟩
      simp [revokedEntry, leavesAtOnce, revocable, hs]
    · have hv := (revocable_iff x).mpr hs
      refine ⟨fun hst => (hmem _).mpr ⟨x, hx, ?_⟩, fun hst hb => ?_⟩
      · have : leavesAtOnce u b x = false := by
          rw [hleaves]
          rcases hst with hst | hst <;> simp [leavesAtOnce, hst]
        simp [revokedEntry, this, hv]
      · have hl : leavesAtOnce u b x = true := by
          rw [hleaves]
          simp [leavesAtOnce, hv, hst, hb]
        refine ⟨?_, fun hp => (hvt.notes x.host).2 _ ?_⟩
        · have hnone : (t.bank b).holder x.host = none := by
            rw [holder_none_iff]
            intro y hy hyh
            obtain ⟨z, hz, hzy⟩ := (hmem y).mp hy
            have := (hu b).eq hz hx ((keepsHost_revokedEntry u b r z y hzy).symm.trans hyh)
            subst this
            simp [revokedEntry, hl] at hzy
          simp [State.holds, hnone]
        · have hxu : x ∈ (u.bank b).holders := by rwa [hsu.bank]
          have hpu : (u.host x.host).port ≠ .down := fun e =>
            hp (((hsu.notes x.host).1).symm.trans e)
          have := told_sideNotified (.leaseRevoked b r) hpu
          rwa [Told, ← hrev.notes x hxu (List.mem_map_of_mem hxu) hl] at this
  · obtain ⟨u, v, hsu, hrev, hvt⟩ := hbanks e.bank
    rw [hvt.list e rfl, hrev.xfer]
    simp only [List.mem_filter, hsu.list e rfl, Bool.not_eq_true', cancelledBy, decide_true,
      Bool.true_and, hsu.bank]
    refine and_congr_right fun _ => ?_
    rw [← Bool.not_eq_true]
    refine not_congr ?_
    simp only [Bool.and_eq_true, decide_eq_true_eq, List.mem_map]
    constructor
    · rintro ⟨⟨hi, x, hx, hh⟩, hv⟩
      rw [← hh, (hu e.bank).holder_eq hx] at hv
      exact ⟨hi, x, hx, hh, (revocable_iff x).mp hv⟩
    · rintro ⟨hi, x, hx, hh, hs⟩
      rw [← hh, (hu e.bank).holder_eq hx]
      exact ⟨⟨hi, x, hx, rfl⟩, (revocable_iff x).mpr hs⟩

/-- R33: steps before a mass revocation that leave the banks, the transfers and the ports alone. -/
theorem massRevoked_of_same {r : RevokeReason} {s v t : State} (hb : v.banks = s.banks)
    (hx : v.xfer = s.xfer) (hp : ∀ g, v.port g = s.port g) (h : MassRevoked r v t) :
    MassRevoked r s t := by
  have hbank : ∀ b, v.bank b = s.bank b := fun b => by simp [State.bank, hb]
  simpa only [MassRevoked, hbank, hx, hp, Safety.hasBegun] using h

/-! ## The rise of owed to FORCING (R88 to R92, R180) -/

/-- R180: a sweep that yields, or has no step to withdraw, stays as it is. -/
theorem judgeYield_stays {s : State} (hp : s.pressed = true)
    (hn : s.seq.sweep = none ∨ s.seq.stepOffer ≠ .offered) : judgeYield s = s := by
  rcases hn with hn | hn <;> simp [judgeYield, hp, hn]

/-- R180: under pressure a sweep withdraws its step not yet issued. -/
theorem judgeYield_yields {s : State} (hp : s.pressed = true) (hw : s.seq.sweep ≠ none)
    (ho : s.seq.stepOffer = .offered) :
    judgeYield s = withdraw .sequencer (s.setSeq (seqOffers true s.seq)) := by
  obtain ⟨w, hw⟩ := Option.ne_none_iff_exists'.mp hw
  simp [judgeYield, hp, hw, ho, seqOffers]

/-- R91: where there is no pressure hold one begins. -/
def holdBegun (s : State) : State := if s.account.hold = false then enterPressed s else s

/-- R91, R180: under pressure the account is judged: a hold begins, and the sweep yields. -/
theorem judgeAccount_pressed {s : State} (hp : s.pressed = true) :
    judgeAccount s = judgeYield (holdBegun s) := by
  simp [judgeAccount, holdBegun, hp]

section HoldBegun

variable (s : State)

theorem holdBegun_changes : ChangesOnly [.account, .gate, .hosts] s (holdBegun s) := by
  unfold holdBegun
  split
  · exact ((changesOnly_setAccount s _).trans' (changesOnly_setGate _ _)
      (m := [.account, .gate, .hosts]) (by decide) (by decide)).trans
      ((changesOnly_notifyEach _ _).mono (by decide))
  · exact .refl _ s

theorem holdBegun_account : (holdBegun s).account = { s.account with hold := true } := by
  unfold holdBegun
  split
  · rfl
  next h =>
    have : s.account.hold = true := by simpa using h
    rw [← this]

theorem holdBegun_gate :
    (s.account.hold = true → (holdBegun s).gate = s.gate) ∧
      (s.account.hold = false → (holdBegun s).gate = { s.gate with refresh := true }) := by
  unfold holdBegun
  refine ⟨fun h => by simp [h], fun h => ?_⟩
  rw [if_pos h]
  rfl

theorem holdBegun_kept : NotesKept s (holdBegun s) := by
  unfold holdBegun
  split
  · intro g
    simp only [State.port, enterPressed, askToClose, notifyEach_host]
    split
    · exact ⟨rfl, fun _ h => h⟩
    · exact ⟨by simp; rfl, fun n h => told_kept _ _ h⟩
  · exact .refl s

/-- R91: every host that holds a bank is asked to close. -/
theorem holdBegun_asks (hh : s.account.hold = false) {h : HostId} {set : BankSet}
    (hs : IsHeldSet s h set) (hne : set ≠ 0#8) (hp : s.port h ≠ .down) :
    Told (.closeRequested .refresh set) ((holdBegun s).host h) := by
  have hset : set = s.heldBanks h := BitVec.eq_of_getLsbD_eq fun i hi => by
    have := (hs ⟨i, hi⟩).trans (isHeldSet_heldBanks s h ⟨i, hi⟩).symm
    exact this
  subst hset
  rw [holdBegun, if_pos hh, enterPressed, askToClose, notifyEach_host]
  have he : (addReason .refresh (s.setAccount { s.account with hold := true })).heldBanks h =
      s.heldBanks h := rfl
  simp only [he, if_neg hne]
  exact told_sideNotified _ hp

end HoldBegun

/-- R89, R90: the account once owed has risen to 5 and the next interval has begun. -/
def accountForced (s : State) : State :=
  (keepPlace s).setAccount { s.account with
    owed := 5, timer := some (s.now + periodOf s.agree.live.rate) }

theorem accountForced_pressed (s : State) : (accountForced s).pressed = true :=
  (pressed_iff _).mpr ⟨by simp [accountForced], .inr (by simp [accountForced])⟩

/-- R90, R92: the rise of owed to 5, before the mass revocation. -/
def raised (s : State) : State := judgeYield (holdBegun (accountForced s))

theorem exec_intervalExpiry_forces {s : State} (hd : due s.now s.account.timer = true)
    (ho : s.account.owed = 4) :
    exec .intervalExpiry s = .next (massRevoke .refresh (raised s)) := by
  let v := restartInterval (keepPlace s)
  have hlow : (keepPlace s).account.owed < 6 := by
    rw [show (keepPlace s).account.owed = 4 from ho]
    decide
  have hvw : v.setAccount { v.account with owed := v.account.owed + 1 } = accountForced s := by
    have hint : intervalOf = periodOf := by
      funext x
      cases x <;> rfl
    simp [v, accountForced, restartInterval, hint, ho, State.setAccount]
  have he : execIntervalExpiry s = .next (massRevoke .refresh (judgeAccount (accountForced s))) := by
    rw [execIntervalExpiry, if_pos hd, expireInterval, if_pos hlow, raiseOwed,
      if_pos (show (restartInterval (keepPlace s)).account.owed = 4 from ho), ← hvw]
  rw [judgeAccount_pressed (accountForced_pressed s)] at he
  exact he

/-- R180: the step not yet issued that a sweep withdraws under pressure. -/
theorem raised_cases (s : State) :
    (s.seq.sweep = none ∨ s.seq.stepOffer ≠ .offered → raised s = holdBegun (accountForced s)) ∧
      (s.seq.sweep ≠ none → s.seq.stepOffer = .offered →
        raised s = withdraw .sequencer
          ((holdBegun (accountForced s)).setSeq (seqOffers true s.seq))) := by
  have hch := holdBegun_changes (accountForced s)
  have hseq : (holdBegun (accountForced s)).seq = s.seq := hch .seq (by decide)
  have hagree : (holdBegun (accountForced s)).agree = s.agree := hch .agree (by decide)
  have hp : (holdBegun (accountForced s)).pressed = true := by
    rw [pressed_iff, hagree]
    unfold presses
    rw [holdBegun_account]
    exact ⟨by simp [accountForced], .inr (by simp [accountForced])⟩
  refine ⟨fun hn => judgeYield_stays hp (by rwa [hseq]), fun hw ho => ?_⟩
  rw [raised, judgeYield_yields hp (by rwa [hseq]) (by rwa [hseq]), hseq]

/-- R89 to R91, R180: what the rise of owed to 5 has made of the state before the mass revocation. -/
theorem raised_spec (s : State) :
    ChangesOnly [.account, .gate, .seq, .chan, .hosts] s (raised s) ∧
      (raised s).account = (holdBegun (accountForced s)).account ∧
      (raised s).gate = (holdBegun (accountForced s)).gate ∧
      (raised s).hosts = (holdBegun (accountForced s)).hosts ∧
      (raised s).chan = { (keepPlace s).chan with offers := (raised s).chan.offers } ∧
      (s.seq.sweep = none ∨ s.seq.stepOffer ≠ .offered →
        (raised s).seq = s.seq ∧ (raised s).chan.offers = s.chan.offers) ∧
      (s.seq.sweep ≠ none → s.seq.stepOffer = .offered →
        (raised s).seq = seqOffers true s.seq ∧
          (raised s).chan.offers =
            s.chan.offers.filter fun o => decide (o.by_ ≠ .sequencer)) := by
  have hforced : ChangesOnly [.account, .chan] s (accountForced s) :=
    (changesOnly_keepPlace s).trans' (changesOnly_setAccount _ _) (by decide) (by decide)
  have hch := hforced.trans' (holdBegun_changes (accountForced s))
    (m := [.account, .gate, .seq, .chan, .hosts]) (by decide) (by decide)
  have hchan : (holdBegun (accountForced s)).chan = (keepPlace s).chan :=
    holdBegun_changes (accountForced s) .chan (by decide)
  have hseq : (holdBegun (accountForced s)).seq = s.seq :=
    holdBegun_changes (accountForced s) .seq (by decide)
  obtain ⟨hstays, hyields⟩ := raised_cases s
  by_cases hn : s.seq.sweep = none ∨ s.seq.stepOffer ≠ .offered
  · have hno : ¬(s.seq.sweep ≠ none ∧ s.seq.stepOffer = .offered) := by tauto
    rw [hstays hn]
    exact ⟨hch, rfl, rfl, rfl, by rw [hchan], fun _ => ⟨hseq, by rw [hchan]; rfl⟩,
      fun hw ho => absurd ⟨hw, ho⟩ hno⟩
  · have hw : s.seq.sweep ≠ none := fun e => hn (.inl e)
    have ho : s.seq.stepOffer = .offered := not_not.mp fun e => hn (.inr e)
    rw [hyields hw ho]
    refine ⟨(hch.trans ((changesOnly_setSeq _ _).mono (by decide))).trans
      ((changesOnly_setChan _ _).mono (by decide)), rfl, rfl, rfl, ?_, fun h => absurd h hn,
      fun _ _ => ⟨rfl, ?_⟩⟩
    · rw [← hchan]
      rfl
    · show (holdBegun (accountForced s)).chan.offers.filter _ = _
      rw [hchan]
      rfl

/-- The mass revocation of a state with sound holder lists. -/
theorem massRevoke_massRevoked {r : RevokeReason} (hr : r ≠ .hostLost) {s : State}
    (hu : AllUnique s) :
    ∃ t, massRevoke r s = takeIntake t ∧ OnlyRevoked s t ∧ MassRevoked r s t :=
  ⟨_, massRevoke_eq r s, foldl_revokeBank_only hr _ hu, massRevoked_foldl hr hu⟩

/-- Settles O31: both events reach the same mass revocation, forcing after the pressure hold. -/
theorem massRevocationReachesEveryHolder : Obligations.MassRevocationReachesEveryHolder := by
  intro s hl
  have hus : AllUnique s := fun b => uniqueHolders_of_sound (hl b)
  refine ⟨fun hd ho => ?_, fun p hs hp hd => ?_⟩
  · obtain ⟨hch, hacc, hgate, hhosts, hchan, hstays, hyields⟩ := raised_spec s
    have hbanks : (raised s).banks = s.banks := hch .banks (by decide)
    have hur : AllUnique (raised s) := fun b => by simpa [State.bank, hbanks] using hus b
    obtain ⟨t, he, ⟨hcht, hops, hkept⟩, hrev⟩ := massRevoke_massRevoked (r := .refresh) (by decide) hur
    have hkeptr : NotesKept (accountForced s) (raised s) :=
      (holdBegun_kept _).trans (.of_hosts hhosts)
    obtain ⟨hg, hg'⟩ := holdBegun_gate (accountForced s)
    have htg : t.gate = (raised s).gate := hcht .gate (by decide)
    have hts : t.seq = (raised s).seq := hcht .seq (by decide)
    have hto : t.chan.offers = (raised s).chan.offers := by rw [hops]
    refine ⟨t, ?_, hch.trans' hcht (by decide) (by decide), ?_, fun hh => ?_, fun hh => ⟨?_,
      fun h set hset hne hport => (hkept h).2 _ ?_⟩, fun hn => ?_, fun hw ho => ?_, ?_, ?_⟩
    · rw [exec_intervalExpiry_forces hd ho, he]
    · have : t.account = (raised s).account := hcht .account (by decide)
      rw [this, hacc, holdBegun_account]
      rfl
    · rw [htg, hgate]
      exact hg hh
    · rw [htg, hgate]
      exact hg' hh
    · have := holdBegun_asks (accountForced s) hh (h := h) (set := set) hset hne hport
      simpa [State.host, hhosts] using this
    · rw [hts, hto]
      exact hstays hn
    · rw [hts, hto]
      exact hyields hw ho
    · rw [hops, hchan]
    · exact massRevoked_of_same hbanks (hch .xfer (by decide)) (fun g => (hkeptr g).1) hrev
  · have hexec : exec .drainDeadlineExpiry s =
        .next (massRevoke .config (clearDrainDeadline s)) := by
      have : s.drainExpired = true := by simp [State.drainExpired, hs, hp, hd]
      exact if_pos this
    have hclear : clearDrainDeadline s =
        s.setAgree { s.agree with proposal := some { p with drainDeadline := none } } := by
      simp [clearDrainDeadline, hp]
    rw [hclear] at hexec
    obtain ⟨t, he, ⟨hcht, -, -⟩, hrev⟩ := massRevoke_massRevoked (r := .config) (by decide)
      (s := s.setAgree { s.agree with proposal := some { p with drainDeadline := none } }) hus
    exact ⟨t, by rw [hexec, he], (changesOnly_setAgree s _).trans' hcht (by decide) (by decide),
      hcht .agree (by decide), massRevoked_of_same rfl rfl (fun _ => rfl) hrev⟩

end Sys2Proof.Leases
end

section
/-! PROOFS. The completion of a burst: the entry it belongs to, its data, and the holder that leaves with
its last transfer (O35). -/

namespace Sys2Proof.Leases

open Sys2Proof Sys2Proof.Machine Sys2Proof.Safety

/-- Log 21: the first entry of the bank with a burst issued and not completed. -/
theorem flyingEntry_first {s : State} {b : Bank} {i : Nat} {e : Transfer}
    (hi : s.xfer.list[i]? = some e) (hb : e.bank = b) (hc : e.completed < e.issued)
    (hf : ∀ (j : Nat) (x : Transfer), j < i → s.xfer.list[j]? = some x → x.bank = b →
      x.issued ≤ x.completed) : s.flyingEntry b = some i := by
  obtain ⟨hlt, he⟩ := List.getElem?_eq_some_iff.mp hi
  refine List.findIdx?_eq_some_iff_getElem.mpr ⟨hlt, by simp [he, hb, hc], fun j hj => ?_⟩
  have := hf j _ hj (List.getElem?_eq_getElem (hj.trans hlt))
  simpa using this

/-- R59: the entry once its burst has completed. -/
def completedEntry (e : Transfer) (data : List Byte) : Transfer :=
  { e with completed := e.completed + 1, data := data }

section Completion

variable {s : State} {b : Bank} {i : Nat} {e : Transfer} {q : BankOp} {data : List Byte}

/-- R59, R72: what a completion hands on. -/
structure Completes (s : State) (b : Bank) (i : Nat) (e : Transfer) (q : BankOp)
    (data : List Byte) : Prop where
  due : s.burstDue b = true
  flying : s.flyingEntry b = some i
  entry : s.xfer.list[i]? = some e
  bank : e.bank = b
  op : (s.op b).landBurst s.now = q
  read : e.kind = .read → data = e.data ++ readBurstBytes s e e.completed
  write : e.kind = .write → data = e.data

theorem completes {o : BurstOrder} (hi : s.xfer.list[i]? = some e) (hb : e.bank = b)
    (hc : e.completed < e.issued)
    (hf : ∀ (j : Nat) (x : Transfer), j < i → s.xfer.list[j]? = some x → x.bank = b →
      x.issued ≤ x.completed)
    (ho : s.chan.loadedOrder = some o) (hd : Machine.due s.now (s.op b).due = true)
    (hq : (s.op b).inFlight = .readBurst ∧ e.kind = .read ∧
        q = { s.op b with inFlight := .none, due := none } ∧
        data = e.data ++ ((List.finRange 32).map fun k =>
          s.dramByteAt (transferAddress o b e.row e.col e.completed k)) ∨
      (s.op b).inFlight = .writeBurst ∧ e.kind = .write ∧
        q = { s.op b with
          inFlight := .none, due := none, recoveryEnd := some (s.now + 16)
          recoveryDone := false } ∧
        data = e.data) : Completes s b i e q data := by
  have hp : s.placingOrder = o := by simp [State.placingOrder, ho]
  rcases hq with ⟨hfl, hk, rfl, rfl⟩ | ⟨hfl, hk, rfl, rfl⟩
  · refine ⟨by simp [State.burstDue, hfl, hd], flyingEntry_first hi hb hc hf, hi, hb,
      by simp [BankOp.landBurst, hfl], fun _ => ?_, by simp [hk]⟩
    simp only [readBurstBytes, hp, hb, burstBytes]
  · refine ⟨by simp [State.burstDue, hfl, hd], flyingEntry_first hi hb hc hf, hi, hb,
      by simp only [BankOp.landBurst, hfl]; rfl, by simp [hk], fun _ => rfl⟩

/-- R59: the entry counts the burst, and leaves the list with its last one. -/
theorem exec_burstCompletion (h : Completes s b i e q data) :
    exec (.burstCompletion b) s =
      .next (if e.completed + 1 = e.bursts then
          retireEntry i (completedEntry e data) ((keepPlace s).setOp b q)
        else ((keepPlace s).setOp b q).setList (s.xfer.list.set i (completedEntry e data))) := by
  have hop : ((keepPlace s).op b).landBurst (keepPlace s).now = q := h.op
  have hfl : (keepPlace s).flyingEntry b = some i := h.flying
  have hent : ((keepPlace s).setOp b q).xfer.list[i]? = some e := h.entry
  have hburst : readBurstBytes ((keepPlace s).setOp b q) e e.completed =
      readBurstBytes s e e.completed := rfl
  have he : execBurstCompletion b s = .next (countBurst i ((keepPlace s).setOp b q)) := by
    simp only [execBurstCompletion, h.due, if_true, completeBurst, hop, hfl]
  refine Eq.trans he ?_
  cases hk : e.kind with
  | read =>
    rw [h.read hk]
    simp only [countBurst, hent, hburst, completedEntry, hk]
    rfl
  | write =>
    rw [h.write hk]
    simp only [countBurst, hent, completedEntry, hk]
    rfl

/-- R59, R61: an entry that leaves the list with its host's side as it is answered. -/
theorem retireEntry_eq {w : State} {side : HostSide} (hb : e.bank = b)
    (hread : e.kind = .read → e.cancelled = false →
      (w.host e.host).tags[e.tag.val] = some .read ∧
        side = sideAnswers (w.host e.host) e.tag ⟨e.tag, .read, .ok, .data data⟩)
    (hkept : e.kind = .write ∨ e.cancelled = true → side = w.host e.host) :
    retireEntry i (completedEntry e data) w =
      takeIntake (finishHolder b e.host
        ((w.setList (w.xfer.list.eraseIdx i)).setHost e.host side)) := by
  have hsame : side = w.host e.host →
      (w.setList (w.xfer.list.eraseIdx i)).setHost e.host side =
        w.setList (w.xfer.list.eraseIdx i) := fun hs => by
    rw [hs]
    exact State.setHost_self (w.setList (w.xfer.list.eraseIdx i)) e.host
  subst hb
  cases hk : e.kind with
  | write =>
    rw [hsame (hkept (.inl hk))]
    simp [retireEntry, completedEntry, hk]
  | read =>
    cases hcan : e.cancelled with
    | true =>
      rw [hsame (hkept (.inr hcan))]
      simp [retireEntry, completedEntry, hk, hcan]
    | false =>
      obtain ⟨ht, rfl⟩ := hread hk hcan
      simp only [retireEntry, completedEntry, hk, hcan]
      rw [answer_outstanding (kind := .read) .ok (.data data) (by simpa using ht)]
      simp

end Completion

/-- R61: a leaving holder whose last transfer has gone leaves, by its status. -/
theorem burstCompletionDeliversData : Obligations.BurstCompletionDeliversData := by
  intro s b i e o q data side u hi hb hc hf ho hd hq
  have hcomp := completes hi hb hc hf ho hd hq
  have hexec := exec_burstCompletion hcomp
  refine ⟨fun hmore => ?_, fun hlast hread hkept hu => ?_⟩
  · rw [hexec, if_neg (by omega)]
    rfl
  · have hret := retireEntry_eq (w := (keepPlace s).setOp b q) (i := i) (data := data) hb hread hkept
    have hfin : exec (.burstCompletion b) s = .next (takeIntake (finishHolder b e.host u)) := by
      rw [hexec, if_pos hlast, hret, hu]
      rfl
    have hbank : u.bank b = s.bank b := by
      rw [hu]
      rfl
    have hside : u.host e.host = side := by simp [hu]
    refine ⟨fun hstay => ?_, fun x hx hst hn => ⟨fun hr => ?_, fun hclose => ?_⟩⟩
    · rw [hfin]
      by_cases hgo : (s.bank b).state = .opened ∧ noneLeft u e.host b
      · have hact := hstay.resolve_right (by tauto)
        cases hx : (s.bank b).holder e.host with
        | none => rw [finishHolder_none (by rwa [hbank])]
        | some x => rw [finishHolder_active (by rwa [hbank]) (hact x hx)]
      · rw [finishHolder_stays (by rwa [hbank])]
    · rw [hfin, finishHolder_lost (by rwa [hbank]) hr (by rwa [hbank]) hn]
    · have hh := (holder_host hx).1
      have hout : ∀ tag, x.closeTag = some tag → side.tags[tag.val] = some .closeLease := by
        intro tag ht
        have hct : (s.host e.host).tags[tag.val] = some .closeLease := hh ▸ hclose tag ht
        by_cases hk : e.kind = .read ∧ e.cancelled = false
        · obtain ⟨hrt, rfl⟩ := hread hk.1 hk.2
          have hne : tag ≠ e.tag := by
            rintro rfl
            simp [hct] at hrt
          rwa [sideAnswers_tags_other _ _ hne]
        · rw [hkept ?_]
          · exact hct
          · cases hkind : e.kind with
            | write => exact .inl rfl
            | read => exact .inr (by simpa [hkind] using hk)
      refine ⟨fun hs => ?_, fun r hr hs => ?_⟩
      · rw [hfin, finishHolder_closing (by rwa [hbank]) hs (by rwa [hbank]) hn, answerOpt_eq,
          holderGone_host, hside, answeredOptSide_close hout, holderGone_setHost]
      · have hout' : ∀ tag, x.closeTag = some tag →
            (sideNotified true (.leaseRevoked b r) side).tags[tag.val] = some .closeLease :=
          fun tag ht => by rw [sideNotified_tags]; exact hout tag ht
        rw [hfin, finishHolder_revoking (by rwa [hbank]) hs hr (by rwa [hbank]) hn, notify_eq,
          holderGone_host, hside, answerOpt_eq, State.setHost_host_same,
          answeredOptSide_close hout', State.setHost_setHost, holderGone_setHost]

end Sys2Proof.Leases
end

section
/-! PROOFS. A detach as it reaches the agreement unit (R119 to R122): what becomes of the unit, and what
the step leaves of hosts, waiters and holders. -/

namespace Sys2Proof.Leases

open Sys2Proof Sys2Proof.Machine Sys2Proof.Safety

/-! ## Steps of the units that move no transfer, park set or port -/

/-- A fold of steps that each stand in a relation. -/
theorem foldl_rel {ι : Type} {R : State → State → Prop} (hrefl : ∀ s, R s s)
    (htrans : ∀ s t u, R s t → R t u → R s u) {f : State → ι → State} (hf : ∀ s i, R s (f s i))
    (l : List ι) (s : State) : R s (l.foldl f s) := by
  induction l generalizing s with
  | nil => exact hrefl s
  | cons i l ih => exact htrans _ _ _ (hf s i) (ih _)

/-- A host's side is as it was but for its notification queue, and that too with the port DOWN. -/
structure NotesOnly (p q : HostSide) : Prop where
  link : q.link = p.link
  port : q.port = p.port
  tags : q.tags = p.tags
  down : p.port = .down → q = p

namespace NotesOnly

theorem refl (p : HostSide) : NotesOnly p p := ⟨rfl, rfl, rfl, fun _ => rfl⟩

theorem trans {p q r : HostSide} (h : NotesOnly p q) (k : NotesOnly q r) : NotesOnly p r :=
  ⟨k.link.trans h.link, k.port.trans h.port, k.tags.trans h.tags,
    fun e => (k.down (h.port.trans e)).trans (h.down e)⟩

theorem notified (a : Bool) (n : Notification) (p : HostSide) :
    NotesOnly p (sideNotified a n p) :=
  ⟨by simp, by simp, by simp, fun e => by simp [sideNotified, e]⟩

end NotesOnly

/-- What the units beside the lease table and the transfer engine move among themselves. -/
def UnitMoves (s t : State) : Prop :=
  ChangesOnly [.seq, .gate, .banks, .chan, .account, .agree, .hosts] s t ∧
    ∀ g, NotesOnly (s.host g) (t.host g)

namespace UnitMoves

theorem refl (s : State) : UnitMoves s s := ⟨.refl _ s, fun _ => .refl _⟩

theorem trans {s t u : State} (h : UnitMoves s t) (k : UnitMoves t u) : UnitMoves s u :=
  ⟨h.1.trans k.1, fun g => (h.2 g).trans (k.2 g)⟩

/-- A step that leaves the hosts alone. -/
theorem of_hosts {s t : State} {l : List Part} (h : ChangesOnly l s t)
    (hl : l ⊆ [.seq, .gate, .banks, .chan, .account, .agree]) : UnitMoves s t := by
  have hh : t.hosts = s.hosts := h .hosts fun e => absurd (hl e) (by decide)
  have hm : l ⊆ [.seq, .gate, .banks, .chan, .account, .agree, .hosts] :=
    List.Subset.trans hl (by decide)
  refine ⟨h.mono hm, fun g => ?_⟩
  have hg : t.host g = s.host g := by simp [State.host, hh]
  rw [hg]
  exact .refl _

theorem port {s t : State} (h : UnitMoves s t) (g : HostId) : t.port g = s.port g := (h.2 g).port

end UnitMoves

theorem unitMoves_setAgree (s : State) (a : Agreement) : UnitMoves s (s.setAgree a) :=
  .of_hosts (changesOnly_setAgree s a) (by decide)

theorem unitMoves_setSeq (s : State) (q : Sequencer) : UnitMoves s (s.setSeq q) :=
  .of_hosts (changesOnly_setSeq s q) (by decide)

theorem unitMoves_setGate (s : State) (g : Gate) : UnitMoves s (s.setGate g) :=
  .of_hosts (changesOnly_setGate s g) (by decide)

theorem unitMoves_setChan (s : State) (c : Channel) : UnitMoves s (s.setChan c) :=
  .of_hosts (changesOnly_setChan s c) (by decide)

theorem unitMoves_setAccount (s : State) (a : Account) : UnitMoves s (s.setAccount a) :=
  .of_hosts (changesOnly_setAccount s a) (by decide)

theorem unitMoves_notifyEach (f : HostId → Option Notification) (s : State) :
    UnitMoves s (notifyEach f s) := by
  refine ⟨(changesOnly_notifyEach f s).mono (by decide), fun g => ?_⟩
  rw [notifyEach_host]
  cases f g with
  | none => exact .refl _
  | some n => exact .notified true n _

theorem unitMoves_serveBank (b : Bank) (s : State) : UnitMoves s (serveBank b s) :=
  .of_hosts (serveBank_frame b s).1 (by decide)

theorem unitMoves_removeReason (r : GateReason) (s : State) : UnitMoves s (removeReason r s) := by
  have hall : UnitMoves s (serveAll (s.setGate (s.gate.put r false))) :=
    (unitMoves_setGate s _).trans (foldl_rel UnitMoves.refl (fun _ _ _ => UnitMoves.trans)
      (fun t b => unitMoves_serveBank b t) allBanks _)
  simp only [removeReason]
  split
  · exact hall
  · exact unitMoves_setGate s _

theorem unitMoves_offerStep (s : State) : UnitMoves s (offerStep s) := by
  unfold offerStep
  split
  · exact .refl s
  · split
    · exact unitMoves_setSeq s _
    · exact (unitMoves_setSeq s _).trans (unitMoves_setChan _ _)

theorem unitMoves_judgeYield (s : State) : UnitMoves s (judgeYield s) := by
  unfold judgeYield
  split
  · exact .refl s
  · split
    · split
      · exact (unitMoves_setSeq s _).trans (unitMoves_setChan _ _)
      · exact .refl s
    · split
      · exact unitMoves_offerStep s
      · exact .refl s

theorem unitMoves_enterPressed (s : State) : UnitMoves s (enterPressed s) :=
  ((unitMoves_setAccount s _).trans (unitMoves_setGate _ _)).trans (unitMoves_notifyEach _ _)

theorem unitMoves_judgeAccount (s : State) : UnitMoves s (judgeAccount s) := by
  unfold judgeAccount
  split
  · exact (unitMoves_enterPressed s).trans (unitMoves_judgeYield _)
  · exact unitMoves_judgeYield s

theorem unitMoves_resolveProposal (o : ProposalOutcome) (s : State) :
    UnitMoves s (resolveProposal o s) := by
  unfold resolveProposal
  split
  · exact .refl s
  · exact (unitMoves_notifyEach _ s).trans (unitMoves_setAgree _ _)

theorem unitMoves_applyLight (s : State) : UnitMoves s (applyLight s) :=
  ((unitMoves_setAgree s _).trans (unitMoves_resolveProposal _ _)).trans (unitMoves_judgeAccount _)

theorem unitMoves_abandon (r : AbandonReason) (s : State) : UnitMoves s (abandon r s) :=
  ((unitMoves_setAgree s _).trans (unitMoves_removeReason _ _)).trans (unitMoves_resolveProposal _ _)

theorem unitMoves_beginAttempt (lane : Lane) (kind : SweepKind) (s : State) :
    UnitMoves s (beginAttempt lane kind s) := by
  unfold beginAttempt
  split
  · exact (unitMoves_setSeq s _).trans (unitMoves_offerStep _)
  · split
    · exact .refl s
    · exact (unitMoves_setSeq s _).trans (unitMoves_offerStep _)

theorem unitMoves_applyBurstOrder (s : State) : UnitMoves s (applyBurstOrder s) := by
  unfold applyBurstOrder
  split
  · exact unitMoves_setAgree s _
  · exact (unitMoves_setAgree s _).trans (unitMoves_setChan _ _)

theorem unitMoves_beginApply (s : State) : UnitMoves s (beginApply s) := by
  unfold beginApply
  split
  · exact .refl s
  · split
    · exact (((unitMoves_setAgree s _).trans (unitMoves_setAgree _ _)).trans
        (unitMoves_setSeq _ _)).trans (unitMoves_beginAttempt _ _ _)
    · exact (unitMoves_setAgree s _).trans (unitMoves_applyBurstOrder _)

/-- R117: the unit as it is when a drain has been started. -/
def draining (p : Proposal) (s : State) : State :=
  (askToClose .config (addReason .config s)).setAgree { s.agree with
    state := .draining
    proposal := some { p with
      ballotDeadline := none
      drainDeadline := some (s.now + s.agree.live.drainTimeout.toNat * Config.us) } }

theorem startDrain_eq {s : State} {p : Proposal} (hp : s.agree.proposal = some p) :
    startDrain s =
      if (draining p s).allClosed then beginApply (draining p s) else draining p s := by
  simp only [startDrain, hp]
  rfl

theorem unitMoves_draining (p : Proposal) (s : State) : UnitMoves s (draining p s) :=
  ((unitMoves_setGate s _).trans (unitMoves_notifyEach _ _)).trans (unitMoves_setAgree _ _)

theorem unitMoves_startDrain (s : State) : UnitMoves s (startDrain s) := by
  cases hp : s.agree.proposal with
  | none =>
    simp only [startDrain, hp]
    exact .refl s
  | some p =>
    rw [startDrain_eq hp]
    split
    · exact (unitMoves_draining p s).trans (unitMoves_beginApply _)
    · exact unitMoves_draining p s

theorem unitMoves_judgeBallot (s : State) : UnitMoves s (judgeBallot s) := by
  unfold judgeBallot ballotWon
  split
  · exact .refl s
  · split
    · split
      · exact .refl s
      · split
        · exact unitMoves_startDrain s
        · exact unitMoves_applyLight s
    · exact .refl s

theorem unitMoves_detachAgreement (h : HostId) (s : State) :
    UnitMoves s (detachAgreement h s) := by
  unfold detachAgreement
  split
  · split
    · exact unitMoves_abandon _ s
    · split
      · exact (unitMoves_setAgree s _).trans (unitMoves_judgeBallot _)
      · exact .refl s
  · exact unitMoves_setAgree s _
  · exact unitMoves_setAgree s _
  · exact .refl s
  · exact .refl s

/-! ## The unit itself -/

theorem removeReason_agree (r : GateReason) (s : State) : (removeReason r s).agree = s.agree := by
  have hall : (serveAll (s.setGate (s.gate.put r false))).agree = s.agree :=
    foldl_rel (R := fun s t => t.agree = s.agree) (fun _ => rfl) (fun _ _ _ h k => k.trans h)
      (fun t b => (serveBank_frame b t).1 .agree (by decide)) allBanks
      (s.setGate (s.gate.put r false))
  simp only [removeReason]
  split
  · exact hall
  · rfl

theorem offerStep_agree (s : State) : (offerStep s).agree = s.agree := by
  unfold offerStep
  split
  · rfl
  · split <;> rfl

theorem judgeYield_agree (s : State) : (judgeYield s).agree = s.agree := by
  unfold judgeYield
  split
  · rfl
  · split
    · split <;> rfl
    · split
      · exact offerStep_agree s
      · rfl

theorem judgeAccount_agree (s : State) : (judgeAccount s).agree = s.agree := by
  unfold judgeAccount
  rw [judgeYield_agree]
  split <;> rfl

theorem resolveProposal_agree {s : State} {p : Proposal} (o : ProposalOutcome)
    (hp : s.agree.proposal = some p) :
    (resolveProposal o s).agree =
      { s.agree with state := .idle, proposal := none, applyStep := none } := by
  simp only [resolveProposal, hp]
  rfl

theorem abandon_agree {s : State} {p : Proposal} (r : AbandonReason)
    (hp : s.agree.proposal = some p) : (abandon r s).agree = abandonedUnit s.agree := by
  have ha := removeReason_agree .config (s.setAgree { s.agree with staged := s.agree.live })
  rw [abandon, resolveProposal_agree (p := p) _ (by rw [ha]; exact hp), ha]
  rfl

theorem applyLight_agree {s : State} {p : Proposal} (hp : s.agree.proposal = some p) :
    (applyLight s).agree = appliedUnit s.agree := by
  rw [applyLight, judgeAccount_agree, resolveProposal_agree (p := p) (s := makeLive s) _ hp]
  rfl

theorem beginAttempt_agree (lane : Lane) (kind : SweepKind) (s : State) :
    (beginAttempt lane kind s).agree = s.agree := by
  unfold beginAttempt
  split
  · rw [offerStep_agree]
    rfl
  · split
    · rfl
    · rw [offerStep_agree]
      rfl

/-- R125: the first steps of an apply leave the epoch and the live record as they are. -/
theorem applyBurstOrder_agree (s : State) :
    (applyBurstOrder s).agree.epoch = s.agree.epoch ∧ (applyBurstOrder s).agree.live = s.agree.live ∧
      (applyBurstOrder s).agree.state = s.agree.state := by
  unfold applyBurstOrder
  split <;> exact ⟨rfl, rfl, rfl⟩

theorem beginApply_agree {s : State} {p : Proposal} (hp : s.agree.proposal = some p) :
    (beginApply s).agree.epoch = s.agree.epoch ∧ (beginApply s).agree.live = s.agree.live ∧
      (beginApply s).agree.state = .applying := by
  simp only [beginApply, hp]
  split
  · rw [beginRetrain, beginAttempt_agree]
    exact ⟨rfl, rfl, rfl⟩
  · exact applyBurstOrder_agree _

theorem startDrain_agree {s : State} {p : Proposal} (hp : s.agree.proposal = some p) :
    (startDrain s).agree.epoch = s.agree.epoch ∧ (startDrain s).agree.live = s.agree.live ∧
      ((startDrain s).agree.state = .draining ∨ (startDrain s).agree.state = .applying) := by
  rw [startDrain_eq hp]
  split
  · obtain ⟨he, hl, hs⟩ := beginApply_agree (s := draining p s) rfl
    exact ⟨he, hl, .inr hs⟩
  · exact ⟨rfl, rfl, .inl rfl⟩

/-- R119 to R122: what a detach makes of the agreement unit. -/
theorem detachAgreement_detached (h : HostId) (s : State) :
    DetachedUnit h s.agree (detachAgreement h s).agree := by
  refine ⟨fun hi => by rw [detachAgreement_idle h hi], fun p hp => ⟨fun hs hh => ?_,
    fun hs hh he => ?_, fun hs => ?_⟩⟩
  · have : detachAgreement h s = abandon .proposerLost s := by simp [detachAgreement, hs, hp, hh]
    rw [this, abandon_agree _ hp]
  · rw [detachAgreement_elector hp hs hh he]
    let u := s.setAgree { s.agree with proposal := some (p.withoutElector h) }
    have hu : u.agree.proposal = some (p.withoutElector h) := rfl
    change (_ → (judgeBallot u).agree = _) ∧ (_ → (_ → (judgeBallot u).agree = _) ∧ (_ →
      (judgeBallot u).agree.epoch = _ ∧ (judgeBallot u).agree.live = _ ∧ _))
    refine ⟨fun hne => ?_, fun heq => ?_⟩
    · have hj : judgeBallot u = u := by
        simp only [judgeBallot, hu]
        exact if_neg hne
      rw [hj]
      rfl
    · have hj : judgeBallot u = if p.heavy then startDrain u else applyLight u := by
        simp only [judgeBallot, ballotWon, hu]
        exact if_pos heq
      refine ⟨fun hl => ?_, fun hl => ?_⟩
      · rw [hj, hl, if_neg (by simp), applyLight_agree hu]
        rfl
      · rw [hj, hl, if_pos rfl]
        exact startDrain_agree hu
  · rw [detachAgreement_goesOn h hp hs]
    rfl

/-! ## The lease table -/

theorem sameLeases_abandon {r : AbandonReason} {s : State} (hg : s.gate.config = false) :
    SameLeases s (abandon r s) := by
  have hput : (s.setAgree { s.agree with staged := s.agree.live }).gate.put .config false =
      (s.setAgree { s.agree with staged := s.agree.live }).gate := by
    simp only [State.setAgree_gate, Gate.put, ← hg]
  rw [abandon, removeReason_absent hput]
  exact SameLeases.trans ⟨rfl, rfl⟩ (sameLeases_resolveProposal _ _)

/-- A detach moves no lease, but where a proposal is abandoned with CONFIG in the gate. -/
theorem sameLeases_detachAgreement {h : HostId} {s : State}
    (hg : s.agree.state = .ballot → s.gate.config = false) :
    SameLeases s (detachAgreement h s) := by
  unfold detachAgreement
  split
  next hs _ =>
    split
    · exact sameLeases_abandon (hg hs)
    · split
      · exact SameLeases.trans ⟨rfl, rfl⟩ (sameLeases_judgeBallot _)
      · exact .refl s
  · exact ⟨rfl, rfl⟩
  · exact ⟨rfl, rfl⟩
  · exact .refl s
  · exact .refl s

/-- A host that waits nowhere gets no lease: its entries are those it had. -/
def NoNewLease (h : HostId) (s t : State) : Prop :=
  ∀ b, (s.bank b).waiter h = none →
    (t.bank b).waiter h = none ∧
      ∀ x, (t.bank b).holder h = some x → (s.bank b).holder h = some x

namespace NoNewLease

theorem refl (h : HostId) (s : State) : NoNewLease h s s := fun _ hw => ⟨hw, fun _ hx => hx⟩

theorem trans {h : HostId} {s t u : State} (h₁ : NoNewLease h s t) (h₂ : NoNewLease h t u) :
    NoNewLease h s u := fun b hw =>
  ⟨(h₂ b (h₁ b hw).1).1, fun x hx => (h₁ b hw).2 x ((h₂ b (h₁ b hw).1).2 x hx)⟩

theorem of_same {h : HostId} {s t : State} (hst : SameLeases s t) : NoNewLease h s t := fun b hw => by
  rw [hst.bank b]
  exact ⟨hw, fun _ hx => hx⟩

end NoNewLease

theorem noNewLease_serveBank (b : Bank) (h : HostId) (s : State) :
    NoNewLease h s (serveBank b s) := by
  intro c hw
  by_cases hc : c = b
  · subst hc
    by_cases hr : s.serveReady c = true
    · obtain ⟨hst, hne, hg⟩ := (serveReady_iff s c).mp hr
      obtain ⟨head, rest, hq⟩ := List.exists_cons_of_ne_nil hne
      have hall : ∀ w ∈ grantBatch head rest ++
          (head :: rest).drop (grantBatch head rest).length, w.host ≠ h := by
        rw [grantBatch_prefix, ← hq]
        exact waiter_none_iff.mp hw
      rw [serveBank_grants hst hq hg]
      simp only [grant, requestActivate, State.setOp_bank, State.setBank_bank_same]
      refine ⟨waiter_none_iff.mpr fun w hm => hall w (List.mem_append_right _ hm), fun x hx => ?_⟩
      obtain ⟨hh, hm⟩ := holder_host hx
      obtain ⟨w, hwm, rfl⟩ := List.mem_map.mp hm
      exact absurd hh (hall w (List.mem_append_left _ hwm))
    · rw [serveReady_iff] at hr
      rw [serveBank_stays (by tauto)]
      exact ⟨hw, fun _ hx => hx⟩
  · rw [(serveBank_frame b s).2.1 c hc]
    exact ⟨hw, fun _ hx => hx⟩

theorem noNewLease_removeReason (r : GateReason) (h : HostId) (s : State) :
    NoNewLease h s (removeReason r s) := by
  have hgate : NoNewLease h s (s.setGate (s.gate.put r false)) :=
    fun _ hw => ⟨hw, fun _ hx => hx⟩
  have hall : NoNewLease h s (serveAll (s.setGate (s.gate.put r false))) :=
    hgate.trans (foldl_rel (NoNewLease.refl h) (fun _ _ _ => NoNewLease.trans)
      (fun t b => noNewLease_serveBank b h t) allBanks _)
  simp only [removeReason]
  split
  · exact hall
  · exact hgate

theorem noNewLease_abandon (r : AbandonReason) (h : HostId) (s : State) :
    NoNewLease h s (abandon r s) := by
  have hstart : NoNewLease h s (s.setAgree { s.agree with staged := s.agree.live }) :=
    fun _ hw => ⟨hw, fun _ hx => hx⟩
  have hgate := hstart.trans (noNewLease_removeReason .config h _)
  exact hgate.trans (.of_same (sameLeases_resolveProposal _ _))

theorem noNewLease_detachAgreement (g h : HostId) (s : State) :
    NoNewLease h s (detachAgreement g s) := by
  by_cases hb : s.agree.state = .ballot ∧ ∃ p, s.agree.proposal = some p ∧ p.proposer = g
  · obtain ⟨hs, p, hp, hg⟩ := hb
    have : detachAgreement g s = abandon .proposerLost s := by simp [detachAgreement, hs, hp, hg]
    rw [this]
    exact noNewLease_abandon _ h s
  · refine .of_same ?_
    unfold detachAgreement
    split
    next p hs hp =>
      rw [if_neg fun e => hb ⟨hs, p, hp, e⟩]
      split
      · exact SameLeases.trans ⟨rfl, rfl⟩ (sameLeases_judgeBallot _)
      · exact .refl s
    · exact ⟨rfl, rfl⟩
    · exact ⟨rfl, rfl⟩
    · exact .refl s
    · exact .refl s

end Sys2Proof.Leases
end

section
/-! PROOFS. LEAVE: what a leaving host has on each bank (R34), and the completion of the LEAVE (O53). -/

namespace Sys2Proof.Leases

open Sys2Proof Sys2Proof.Machine Sys2Proof.Safety

/-! ## A waiter's OPEN that has been answered WITHDRAWN (R20, R157) -/

/-- R20: the tag is FREE, and the answer of the OPEN that had it is in the send queue. -/
def Withdrawn (p : HostSide) (i : Tag) : Prop :=
  p.tags[i.val] = none ∧ .response (plain i .openLease .withdrawn) ∈ p.link.sendQueue

/-- R20: an OUTSTANDING OPEN stays so or is withdrawn, and what has been withdrawn stays so. -/
def Withdraws (p q : HostSide) : Prop :=
  ∀ i : Tag, (p.tags[i.val] = some .openLease → q.tags[i.val] = some .openLease ∨ Withdrawn q i) ∧
    (Withdrawn p i → Withdrawn q i)

theorem Withdraws.refl (p : HostSide) : Withdraws p p := fun _ => ⟨.inl, id⟩

theorem Withdraws.trans {p q r : HostSide} (h : Withdraws p q) (k : Withdraws q r) :
    Withdraws p r := fun i =>
  ⟨fun hi => ((h i).1 hi).elim (k i).1 fun hq => .inr ((k i).2 hq), fun hp => (k i).2 ((h i).2 hp)⟩

/-- An answer takes nothing back. -/
theorem Withdrawn.answered {p : HostSide} {i : Tag} (h : Withdrawn p i) (tag : Tag) (st : Status)
    (x : Payload) : Withdrawn (answeredSide tag st x p) i := by
  unfold answeredSide
  split
  · exact h
  next kind hk =>
    have hne : i ≠ tag := by
      rintro rfl
      simp [h.1] at hk
    exact ⟨by rw [sideAnswers_tags_other _ _ hne, h.1], List.mem_append_left _ h.2⟩

theorem withdrawn_self {p : HostSide} {i : Tag} (h : p.tags[i.val] = some .openLease) :
    Withdrawn (answeredSide i .withdrawn .none p) i := by
  rw [answeredSide_plain .withdrawn h]
  exact ⟨by simp [sideAnswers], List.mem_append_right _ (List.mem_singleton.mpr rfl)⟩

theorem withdraws_answered (p : HostSide) (tag : Tag) :
    Withdraws p (answeredSide tag .withdrawn .none p) := by
  refine fun i => ⟨fun hi => ?_, fun hi => hi.answered tag _ _⟩
  by_cases e : i = tag
  · subst e
    exact .inr (withdrawn_self hi)
  · refine .inl ?_
    unfold answeredSide
    split
    · exact hi
    · rw [sideAnswers_tags_other _ _ e, hi]

/-! ## One bank of a host that leaves (R34) -/

/-- R34: an ACTIVE holder goes CLOSING with no close tag. -/
def closeActive (h : HostId) (b : Bank) (s : State) : State :=
  if ((s.bank b).holder h).any (fun x => decide (x.status = .active)) then closeHolder b h none s
  else s

/-- R34: the host's waiter is withdrawn, and its ACTIVE holder closed. -/
def leaveBank (h : HostId) (b : Bank) (s : State) : State :=
  closeActive h b (withdrawWaiter b h .withdrawn s)

theorem withdrawAndClose_eq (h : HostId) (s : State) :
    withdrawAndClose h s = allBanks.foldl (fun s b => leaveBank h b s) s := by
  unfold withdrawAndClose
  congr 1
  funext s b
  cases hx : ((withdrawWaiter b h .withdrawn s).bank b).holder h <;>
    simp [leaveBank, closeActive, hx]

/-- R34: what becomes of a holder entry of the host that leaves. -/
def leavingEntry (s : State) (h : HostId) (b : Bank) (x : Holder) : Option Holder :=
  if x.status = .active then
    if (s.bank b).state = .opened ∧ s.noTransferOn h b = true then none
    else some { x with status := .closing, deadline := none, closeTag := none }
  else some x

theorem holdersLeaving_eq (s : State) (h : HostId) (b : Bank) :
    holdersLeaving s h b = (s.bank b).holders.filterMap (onHost h (leavingEntry s h b)) := by
  refine List.filterMap_congr fun x _ => ?_
  by_cases hh : x.host = h
  · by_cases ha : x.status = .active
    · rw [if_pos ⟨hh, ha⟩, onHost, if_pos hh, leavingEntry, if_pos ha]
      rfl
    · rw [if_neg fun e => ha e.2, onHost, if_pos hh, leavingEntry, if_neg ha]
  · rw [if_neg fun e => hh e.1, onHost, if_neg hh]

/-- R34: what the closing of a host's ACTIVE holder does. -/
structure ClosesActive (h : HostId) (b : Bank) (s t : State) : Prop where
  changes : ChangesOnly [.banks, .chan] s t
  banks : OtherBanksSame b s t
  ops : ∀ c, c ≠ b → t.op c = s.op c
  waiters : (t.bank b).waiters = (s.bank b).waiters
  closed : ∀ x, (t.bank b).holder h = some x → x.status ≠ .active
  become : UniqueHolders (s.bank b) → HoldersBecome b (onHost h (leavingEntry s h b)) s t

theorem holder_holderGone {b : Bank} {h : HostId} {x : Holder} {s : State}
    (hx : (s.bank b).holder h = some x) : ((holderGone b h s).bank b).holder h = none := by
  rw [holder_none_iff, (holderGone_become hx).holders]
  intro y hy
  obtain ⟨z, -, hz⟩ := List.mem_filterMap.mp hy
  unfold onHost at hz
  split at hz
  · cases hz
  next hne =>
    cases hz
    exact hne

theorem closeActive_closes (h : HostId) (b : Bank) (s : State) :
    ClosesActive h b s (closeActive h b s) := by
  by_cases hact : ((s.bank b).holder h).any (fun x => decide (x.status = .active)) = true
  · obtain ⟨x, hx, hs⟩ : ∃ x, (s.bank b).holder h = some x ∧ x.status = .active := by
      simpa [Option.any_eq_true] using hact
    rw [closeActive, if_pos hact]
    by_cases hgo : (s.bank b).state = .opened ∧ noneLeft s h b
    · have hgone := holderGone_become hx
      rw [closeHolder_leaves none hx hgo.1 hgo.2, answerOpt_none]
      refine ⟨changesOnly_holderGone b h s, hgone.banks, hgone.ops.2, hgone.waiters, ?_, fun hu => ?_⟩
      · simp [holder_holderGone hx]
      · refine hgone.congr (onHost_congr hu hx ?_)
        rw [leavingEntry, if_pos hs, if_pos ⟨hgo.1, (noTransferOn_iff s h b).mpr hgo.2⟩]
    · rw [closeHolder_stays none hx hgo]
      refine ⟨(changesOnly_setHolder b h _ s).mono (by decide), fun c hc => by simp [setHolder, hc],
        fun c hc => rfl, by simp [setHolder_bank], fun y hy => ?_, fun hu => ?_⟩
      · have hset := setHolder_holder (y := { x with
          status := .closing, deadline := none, closeTag := none }) hx (holder_host hx).1
        obtain rfl := Option.some.inj (hset.symm.trans hy)
        simp
      · refine (setHolder_become hu hx fun y =>
          { y with status := .closing, deadline := none, closeTag := none }).congr
          (onHost_congr hu hx ?_)
        rw [leavingEntry, if_pos hs, if_neg]
        rwa [noTransferOn_iff]
  · have hno : ∀ x, (s.bank b).holder h = some x → x.status ≠ .active := fun x hx hs =>
      hact (by simp [hx, hs])
    rw [closeActive, if_neg hact]
    refine ⟨.refl _ s, fun _ _ => rfl, fun _ _ => rfl, rfl, hno, fun hu => ?_⟩
    cases hx : (s.bank b).holder h with
    | none => exact holder_none_some hx _
    | some x =>
      refine (HoldersBecome.refl b s).congr fun y hy => ?_
      have hid : ∀ z ∈ (s.bank b).holders, onHost h (some : Holder → Option Holder) z = some z :=
        fun z _ => by simp [onHost]
      rw [← hid y hy]
      exact onHost_congr hu hx (if_neg (hno x hx)) y hy

/-- R20: what the withdrawal of a host's waiter does. -/
structure WithdrawsWaiter (h : HostId) (b : Bank) (s t : State) : Prop where
  changes : ChangesOnly [.banks, .chan, .hosts] s t
  banks : OtherBanksSame b s t
  ops : ∀ c, t.op c = s.op c
  bank : t.bank b = { s.bank b with
    waiters := (s.bank b).waiters.filter fun w => decide (w.host ≠ h) }
  others : OtherHostsSame h s t
  port : t.port h = s.port h
  side : Withdraws (s.host h) (t.host h)
  answer : ∀ w, (s.bank b).waiter h = some w → (s.host h).tags[w.tag.val] = some .openLease →
    Withdrawn (t.host h) w.tag

theorem withdrawWaiter_withdraws (h : HostId) (b : Bank) (s : State) :
    WithdrawsWaiter h b s (withdrawWaiter b h .withdrawn s) := by
  cases hw : (s.bank b).waiter h with
  | none =>
    have hself : withdrawWaiter b h .withdrawn s = s := by simp [withdrawWaiter, hw]
    have hfilter : ((s.bank b).waiters.filter fun w => decide (w.host ≠ h)) = (s.bank b).waiters :=
      List.filter_eq_self.mpr fun w hm => by simpa using waiter_none_iff.mp hw w hm
    rw [hself]
    exact ⟨.refl _ s, fun _ _ => rfl, fun _ => rfl, by rw [hfilter], fun _ _ => rfl, rfl, .refl _,
      by simp [hw]⟩
  | some w =>
    rw [withdrawWaiter_eq .withdrawn hw]
    refine ⟨((changesOnly_keepPlace s).trans' (changesOnly_setBank _ b _)
      (m := [.banks, .chan, .hosts]) (by decide) (by decide)).trans
      ((changesOnly_setHost _ h _).mono (by decide)), fun c hc => by simp [hc], fun c => rfl,
      by simp, fun g hg => by simp [hg], by simp [State.port], ?_, fun w' hw' ht => ?_⟩
    · rw [State.setHost_host_same]
      exact withdraws_answered _ _
    · obtain rfl : w = w' := by simpa [hw] using hw'
      rw [State.setHost_host_same]
      exact withdrawn_self ht

/-- R34: what a leaving host's part on one bank does. -/
structure LeavesBank (h : HostId) (b : Bank) (s t : State) : Prop where
  changes : ChangesOnly [.banks, .chan, .hosts] s t
  banks : OtherBanksSame b s t
  ops : ∀ c, c ≠ b → t.op c = s.op c
  waiter : (t.bank b).waiter h = none
  holder : ∀ x, (t.bank b).holder h = some x → x.status ≠ .active
  record : UniqueHolders (s.bank b) →
    t.bank b = { withHolders (s.bank b) (holdersLeaving s h b) with
      waiters := (s.bank b).waiters.filter fun w => decide (w.host ≠ h) } ∧
    t.op b = withHoldersOp s.now (s.bank b) (holdersLeaving s h b) (s.op b)
  port : t.port h = s.port h
  side : Withdraws (s.host h) (t.host h)
  answer : ∀ w, (s.bank b).waiter h = some w → (s.host h).tags[w.tag.val] = some .openLease →
    Withdrawn (t.host h) w.tag

theorem withHoldersOp_queue (now : Time) (r : BankRecord) (w : List Waiter) (l : List Holder)
    (o : BankOp) : withHoldersOp now { r with waiters := w } l o = withHoldersOp now r l o := rfl

theorem leaveBank_leaves (h : HostId) (b : Bank) (s : State) :
    LeavesBank h b s (leaveBank h b s) := by
  have hwith := withdrawWaiter_withdraws h b s
  have hclose := closeActive_closes h b (withdrawWaiter b h .withdrawn s)
  revert hwith hclose
  change WithdrawsWaiter h b s _ → ClosesActive h b _ (leaveBank h b s) → _
  generalize withdrawWaiter b h .withdrawn s = u, leaveBank h b s = t
  intro hwith hclose
  have hhosts : t.hosts = u.hosts := hclose.changes .hosts (by decide)
  have hside : t.host h = u.host h := by simp [State.host, hhosts]
  have hxfer : u.xfer = s.xfer := hwith.changes .xfer (by decide)
  have hnow : u.now = s.now := hwith.changes .now (by decide)
  refine ⟨hwith.changes.trans (hclose.changes.mono (by decide)), fun c hc =>
    (hclose.banks c hc).trans (hwith.banks c hc), fun c hc => (hclose.ops c hc).trans (hwith.ops c),
    ?_, hclose.closed, fun hu => ?_, ?_, ?_, fun w hw ht => ?_⟩
  · rw [waiter_none_iff, hclose.waiters, hwith.bank]
    intro w hw
    simpa using (List.mem_filter.mp hw).2
  · have hentry : leavingEntry u h b = leavingEntry s h b := by
      have hn : u.noTransferOn h b = s.noTransferOn h b := by simp only [State.noTransferOn, hxfer]
      have hst : (u.bank b).state = (s.bank b).state := by rw [hwith.bank]
      funext x
      rw [leavingEntry, leavingEntry, hn, hst]
    have hbec := hclose.become (by rw [hwith.bank]; exact hu)
    have hl : (u.bank b).holders.filterMap (onHost h (leavingEntry u h b)) =
        holdersLeaving s h b := by rw [hentry, holdersLeaving_eq, hwith.bank]
    have hbank := hbec.bank
    have hop := hbec.op
    rw [hl, hwith.bank] at hbank hop
    exact ⟨by rw [hbank, withHolders_queue], by rw [hop, hnow, hwith.ops, withHoldersOp_queue]⟩
  · simp only [State.port, hside]
    exact hwith.port
  · rw [hside]
    exact hwith.side
  · rw [hside]
    exact hwith.answer w hw ht

/-! ## Every bank of a host that leaves -/

/-- R34: what the leaving of one bank does not do to another. -/
structure LeaveKeeps (h : HostId) (b : Bank) (s t : State) : Prop where
  bank : t.bank b = s.bank b
  op : t.op b = s.op b
  now : t.now = s.now
  side : Withdraws (s.host h) (t.host h)

theorem LeaveKeeps.refl (h : HostId) (b : Bank) (s : State) : LeaveKeeps h b s s :=
  ⟨rfl, rfl, rfl, .refl _⟩

theorem LeaveKeeps.trans {h : HostId} {b : Bank} {s t u : State} (h₁ : LeaveKeeps h b s t)
    (h₂ : LeaveKeeps h b t u) : LeaveKeeps h b s u :=
  ⟨h₂.bank.trans h₁.bank, h₂.op.trans h₁.op, h₂.now.trans h₁.now, h₁.side.trans h₂.side⟩

theorem LeavesBank.keeps {h : HostId} {b c : Bank} {s t : State} (hl : LeavesBank h b s t)
    (hc : c ≠ b) : LeaveKeeps h c s t :=
  ⟨hl.banks c hc, hl.ops c hc, hl.changes .now (by decide), hl.side⟩

/-- R20, R34: what becomes of the tags, the waiters and the holders of a host that leaves. -/
structure LeavesAll (h : HostId) (s t : State) : Prop where
  changes : ChangesOnly [.banks, .chan, .hosts] s t
  port : t.port h = s.port h
  side : Withdraws (s.host h) (t.host h)
  waiter : ∀ b, (t.bank b).waiter h = none
  holder : ∀ b x, (t.bank b).holder h = some x → x.status ≠ .active
  answer : ∀ b w, (s.bank b).waiter h = some w →
    (s.host h).tags[w.tag.val] = some .openLease → Withdrawn (t.host h) w.tag
  record : ∀ b, UniqueHolders (s.bank b) →
    t.bank b = { withHolders (s.bank b) (holdersLeaving s h b) with
      waiters := (s.bank b).waiters.filter fun w => decide (w.host ≠ h) } ∧
    t.op b = withHoldersOp s.now (s.bank b) (holdersLeaving s h b) (s.op b)

theorem holdersLeaving_of_same {s u : State} {h : HostId} {b : Bank} (hb : u.bank b = s.bank b)
    (hx : u.xfer = s.xfer) : holdersLeaving u h b = holdersLeaving s h b := by
  have hn : u.noTransferOn h b = s.noTransferOn h b := by simp only [State.noTransferOn, hx]
  have he : leavingEntry u h b = leavingEntry s h b := by
    funext x
    rw [leavingEntry, leavingEntry, hn, hb]
  rw [holdersLeaving_eq, holdersLeaving_eq, he, hb]

theorem withdrawAndClose_leaves (h : HostId) (s : State) :
    LeavesAll h s (withdrawAndClose h s) := by
  rw [withdrawAndClose_eq]
  have hall := foldl_rel (R := fun s t => ChangesOnly [.banks, .chan, .hosts] s t ∧
      t.port h = s.port h ∧ Withdraws (s.host h) (t.host h))
    (fun s => ⟨.refl _ s, rfl, .refl _⟩)
    (fun _ _ _ h k => ⟨h.1.trans k.1, k.2.1.trans h.2.1, h.2.2.trans k.2.2⟩)
    (f := fun s b => leaveBank h b s)
    (fun s b => ⟨(leaveBank_leaves h b s).changes, (leaveBank_leaves h b s).port,
      (leaveBank_leaves h b s).side⟩) allBanks s
  have hown : ∀ b, ∃ u, u.xfer = s.xfer ∧ LeaveKeeps h b s u ∧
      LeaveKeeps h b (leaveBank h b u) (allBanks.foldl (fun s b => leaveBank h b s) s) := fun b => by
    obtain ⟨u, hx, hsu, hut⟩ := (foldl_own (act := fun b s => leaveBank h b s)
      (Other := LeaveKeeps h) (Inv := fun u => u.xfer = s.xfer) (LeaveKeeps.refl h)
      (fun _ _ _ _ => LeaveKeeps.trans)
      (fun c u hu => ((leaveBank_leaves h c u).changes .xfer (by decide)).trans hu)
      (fun c j u _ hj => (leaveBank_leaves h c u).keeps hj) (l := allBanks) (by decide) rfl b).2
      (mem_allBanks b)
    exact ⟨u, hx, hsu, hut⟩
  revert hall hown
  generalize allBanks.foldl (fun s b => leaveBank h b s) s = t
  rintro ⟨hch, hport, hside⟩ hown
  refine ⟨hch, hport, hside, fun b => ?_, fun b => ?_, fun b w hw ht => ?_, fun b hu => ?_⟩ <;>
    obtain ⟨u, hx, hsu, hut⟩ := hown b <;> have hl := leaveBank_leaves h b u
  · rw [hut.bank]
    exact hl.waiter
  · rw [hut.bank]
    exact hl.holder
  · refine ((hsu.side w.tag).1 ht).elim (fun hopen => ?_) fun hdone => ?_
    · exact (hut.side w.tag).2 (hl.answer w (by rwa [hsu.bank]) hopen)
    · exact (hut.side w.tag).2 ((hl.side w.tag).2 hdone)
  · obtain ⟨hb, ho⟩ := hl.record (by rwa [hsu.bank])
    rw [hut.bank, hb, hut.op, ho, hsu.bank, hsu.op, hsu.now, holdersLeaving_of_same hsu.bank hx]
    exact ⟨rfl, rfl⟩

/-- R34: a host that has nothing on any bank leaves nothing. -/
theorem withdrawAndClose_nothing {h : HostId} {s : State}
    (hn : ∀ b, s.holds h b = false ∧ s.waits h b = false) : withdrawAndClose h s = s := by
  rw [withdrawAndClose_eq]
  refine List.foldl_fixed' (fun b => ?_) allBanks
  have hw : (s.bank b).waiter h = none := by simpa [State.waits] using (hn b).2
  have hx : (s.bank b).holder h = none := by simpa [State.holds] using (hn b).1
  simp [leaveBank, closeActive, withdrawWaiter, hw, hx]

/-! ## The completion of a LEAVE (R160) -/

theorem leaveReady_iff (s : State) (h : HostId) :
    s.leaveReady h = true ↔ s.port h = .leaving ∧
      (∀ b, s.holds h b = false ∧ s.waits h b = false) ∧
      (∀ e ∈ s.xfer.list, e.host ≠ h) ∧ ∀ q ∈ s.xfer.intake, q.host ≠ h := by
  simp only [State.leaveReady, Bool.and_eq_true, decide_eq_true_eq, idleOnBanks_iff, noTransfer_iff,
    and_assoc]

/-- R157: the only request of its kind is found. -/
theorem tagOfKind_only {s : State} {h : HostId} {k : ReqKind} {tag : Tag}
    (ho : OnlyTag s h k tag) : s.tagOfKind h k = some tag := by
  cases hf : s.tagOfKind h k with
  | none =>
    have := List.find?_eq_none.mp hf tag (List.mem_finRange tag)
    simp [(ho tag).mpr rfl] at this
  | some i =>
    have := List.find?_some hf
    rw [(ho i).mp (by simpa using this)]

/-- R160, R170: the side of a host whose LEAVE has completed and been answered. -/
def sideLeft (p : HostSide) (tag : Tag) : HostSide :=
  { p with
    port := .linked
    tags := p.tags.set tag.val none
    notes := { p.notes with entries := [], overflow := false }
    link := { p.link with
      sendQueue := (p.link.sendQueue.filter fun m => !m.isNote) ++
        [.response (plain tag .leave .ok)] } }

/-- R160: the side of a host whose port has gone LINKED again. -/
def sideLinked (p : HostSide) : HostSide := { p.dropNotes with port := .linked }

theorem completeLeave_eq {s : State} {h : HostId} (hr : s.leaveReady h = true) :
    completeLeave h s = notifyAttached (.hostLeft h false)
      (s.setHost h (answeredOptSide (s.tagOfKind h .leave) .ok (sideLinked (s.host h)))) := by
  have e := answerOpt_eq h (s.tagOfKind h .leave) .ok (s.setHost h (sideLinked (s.host h)))
  rw [State.setHost_host_same, State.setHost_setHost] at e
  rw [completeLeave, if_pos hr, ← e]
  rfl

/-- R160: the host that has left is in the attached set no more, and is not told of its own leaving. -/
theorem completeLeave_host {s : State} {h : HostId} (hr : s.leaveReady h = true) :
    (completeLeave h s).host h =
        answeredOptSide (s.tagOfKind h .leave) .ok (sideLinked (s.host h)) ∧
      ∀ g, g ≠ h →
        (completeLeave h s).host g = sideNotified (inSet s g) (.hostLeft h false) (s.host g) := by
  rw [completeLeave_eq hr]
  refine ⟨?_, fun g hg => ?_⟩
  · have hout : inSet (s.setHost h
        (answeredOptSide (s.tagOfKind h .leave) .ok (sideLinked (s.host h)))) h = false := by
      simp [inSet, State.port, sideLinked]
    rw [notifyAttached_host, hout, sideNotified_false, State.setHost_host_same]
  · have hin : inSet (s.setHost h
        (answeredOptSide (s.tagOfKind h .leave) .ok (sideLinked (s.host h)))) g = inSet s g := by
      rw [inSet, inSet, State.setHost_port_other _ _ hg]
    rw [notifyAttached_host, hin, State.setHost_host_other _ _ hg]

theorem completeLeave_changes (h : HostId) (s : State) :
    ChangesOnly [.hosts] s (completeLeave h s) := by
  cases hr : s.leaveReady h with
  | false =>
    rw [completeLeave, if_neg (by simp [hr])]
    exact .refl _ s
  | true =>
    rw [completeLeave_eq hr]
    exact (changesOnly_setHost s h _).trans (changesOnly_notifyEach _ _)

/-- R160: a LEAVE that completes is answered. -/
theorem completeLeave_answers {s : State} {h : HostId} {tag : Tag} (hr : s.leaveReady h = true)
    (ho : OnlyTag s h .leave tag) : (completeLeave h s).host h = sideLeft (s.host h) tag := by
  have ht : (s.host h).tags[tag.val] = some .leave := (ho tag).mpr rfl
  rw [(completeLeave_host hr).1, tagOfKind_only ho, answeredOptSide,
    answeredSide_plain (x := sideLinked (s.host h)) (kind := .leave) .ok ht]
  rfl

/-- R160: what has been withdrawn stays in the send queue, whether the LEAVE completes or not. -/
theorem completeLeave_keeps (h : HostId) (s : State) :
    ((completeLeave h s).port h = s.port h ∨ (completeLeave h s).port h = .linked) ∧
      ∀ i, Withdrawn (s.host h) i → Withdrawn ((completeLeave h s).host h) i := by
  cases hr : s.leaveReady h with
  | false =>
    rw [completeLeave, if_neg (by simp [hr])]
    exact ⟨.inl rfl, fun _ hi => hi⟩
  | true =>
    rw [State.port, (completeLeave_host hr).1]
    refine ⟨.inr (by simp [sideLinked]), fun i hi => ?_⟩
    have hlinked : Withdrawn (sideLinked (s.host h)) i :=
      ⟨hi.1, List.mem_filter.mpr ⟨hi.2, rfl⟩⟩
    cases s.tagOfKind h .leave with
    | none => exact hlinked
    | some tag => exact hlinked.answered tag _ _

/-! ## LEAVE (R159) -/

/-- R159: the state that a LEAVE hands to the lease table. -/
def leaving (s : State) (h : HostId) (f : FrameHdr) (tag : Tag) : State :=
  s.setHost h { sideTaken s h f tag .leave with port := .leaving }

theorem exec_leave {s : State} {h : HostId} {f : FrameHdr} {tag : Tag}
    (ha : RequestArrives s h f tag) (hp : s.port h = .attached) :
    exec (.leave h f tag) s = .next (completeLeave h (leavePark h
      (detachAgreement h (withdrawAndClose h (leaving s h f tag))))) := by
  rw [exec_leave_arrives ha hp, takeLeave]
  have : (s.setHost h (sideTaken s h f tag .leave)).setPort h .leaving = leaving s h f tag := by
    simp [State.setPort, leaving]
  rw [this]

/-- R159: a LEAVE of a host that may hold, wait and have transfers. -/
theorem leave_withdraws {s : State} {h : HostId} {f : FrameHdr} {tag : Tag}
    (ha : RequestArrives s h f tag) (hp : s.port h = .attached) :
    ∃ t, exec (.leave h f tag) s = .next t ∧ (t.port h = .leaving ∨ t.port h = .linked) ∧
      t.standby.park.get h = false ∧ DetachedUnit h s.agree t.agree ∧ t.xfer = s.xfer ∧
      (∀ b, (t.bank b).waiter h = none ∧
        ∀ x, (t.bank b).holder h = some x → x.status ≠ .active) ∧
      (∀ (b : Bank) (w : Waiter), (s.bank b).waiter h = some w →
        (s.host h).tags[w.tag.val] = some .openLease → Withdrawn (t.host h) w.tag) ∧
      ∀ b, BankListsSound (s.bank b) → (s.agree.state = .ballot → s.gate.config = false) →
        t.bank b = { withHolders (s.bank b) (holdersLeaving s h b) with
          waiters := (s.bank b).waiters.filter fun w => decide (w.host ≠ h) } ∧
        t.op b = withHoldersOp s.now (s.bank b) (holdersLeaving s h b) (s.op b) := by
  have hv := withdrawAndClose_leaves h (leaving s h f tag)
  have hfirst : ChangesOnly [.hosts] s (leaving s h f tag) := changesOnly_setHost s h _
  refine ⟨_, exec_leave ha hp, ?_⟩
  revert hv
  generalize withdrawAndClose h (leaving s h f tag) = v
  intro hv
  have hvs : ChangesOnly [.banks, .chan, .hosts] s v :=
    hfirst.trans' hv.changes (by decide) (by decide)
  have hunit := unitMoves_detachAgreement h v
  have hnew := noNewLease_detachAgreement h h v
  have hdet := detachAgreement_detached h v
  have hsame := sameLeases_detachAgreement (h := h) (s := v)
  revert hunit hnew hdet hsame
  generalize detachAgreement h v = w
  intro hunit hnew hdet hsame
  have hchanges := completeLeave_changes h (leavePark h w)
  obtain ⟨hport, hkept⟩ := completeLeave_keeps h (leavePark h w)
  have hleases := sameLeases_completeLeave h (leavePark h w)
  revert hchanges hport hkept hleases
  generalize completeLeave h (leavePark h w) = t
  intro hchanges hport hkept hleases
  have hbank : ∀ b, t.bank b = w.bank b := hleases.bank
  have hagree : v.agree = s.agree := hvs .agree (by decide)
  have hgate : v.gate = s.gate := hvs .gate (by decide)
  have htags : ∀ i : Tag, (s.host h).tags[i.val] = some .openLease →
      ((leaving s h f tag).host h).tags[i.val] = some .openLease := fun i hi => by
    have hne : tag ≠ i := by
      rintro rfl
      simp [ha.2.2] at hi
    have hne' : tag.val ≠ i.val := fun e => hne (Fin.ext e)
    simpa [leaving, sideTaken, hne'] using hi
  refine ⟨?_, ?_, ?_, ?_, fun b => ?_, fun b x hx ht => hkept _ ?_, fun b hl hg => ?_⟩
  · have : (leavePark h w).port h = .leaving := by
      rw [show (leavePark h w).port h = w.port h from rfl, hunit.port, hv.port]
      simp [leaving, State.port]
    rwa [this] at hport
  · have : t.standby = (leavePark h w).standby := hchanges .standby (by decide)
    rw [this]
    simp [leavePark, HostSet.without]
  · have : t.agree = w.agree := hchanges .agree (by decide)
    rw [this, ← hagree]
    exact hdet
  · have ht : t.xfer = w.xfer := hchanges .xfer (by decide)
    rw [ht, hunit.1 .xfer (by decide), hvs .xfer (by decide)]
  · rw [hbank]
    exact ⟨(hnew b (hv.waiter b)).1, fun x hx => hv.holder b x ((hnew b (hv.waiter b)).2 x hx)⟩
  · have hw : Withdrawn (v.host h) x.tag := hv.answer b x hx (htags x.tag ht)
    have hside : Withdrawn (w.host h) x.tag :=
      ⟨by rw [(hunit.2 h).tags]; exact hw.1, by rw [(hunit.2 h).link]; exact hw.2⟩
    exact hside
  · have hsv := hsame (by rwa [hagree, hgate])
    rw [hbank, hsv.bank, hleases.op, show (leavePark h w).op b = w.op b from rfl, hsv.op]
    exact hv.record b (uniqueHolders_of_sound hl)

/-- Settles O53: what the host has is given up and the unit hears of the detach; with nothing left the
LEAVE completes. -/
theorem leaveAndItsCompletion : Obligations.LeaveAndItsCompletion := by
  refine fun s h tag => ⟨fun f ha hp => ⟨leave_withdraws ha hp, fun hnone hlist hintake hidle hfree =>
    ?_⟩, fun hp hnone hlist hintake ho => ?_⟩
  · let u := leaving s h f tag
    have hready : (leavePark h u).leaveReady h = true :=
      (leaveReady_iff _ _).mpr ⟨by simp [leavePark, u, leaving, State.port], hnone, hlist, hintake⟩
    have honly : OnlyTag (leavePark h u) h .leave tag := fun i => by
      by_cases e : i = tag
      · simp [e, leavePark, u, leaving, sideTaken]
      · have hne : tag.val ≠ i.val := fun e' => e (Fin.ext e'.symm)
        simpa [e, leavePark, u, leaving, sideTaken, hne] using hfree i
    refine ⟨completeLeave h (leavePark h u), ?_, ?_, ?_, ?_, fun g hg => ?_⟩
    · rw [exec_leave ha hp, withdrawAndClose_nothing (s := leaving s h f tag) hnone,
        detachAgreement_idle (s := leaving s h f tag) h hidle]
    · exact ((changesOnly_setHost s h _).trans' (changesOnly_setStandby _ _)
        (m := [.standby, .hosts]) (by decide) (by decide)).trans
        ((completeLeave_changes h _).mono (by decide))
    · exact (completeLeave_changes h (leavePark h u)) .standby (by decide)
    · rw [completeLeave_answers hready honly]
      have hside : (leavePark h u).host h = { sideTaken s h f tag .leave with port := .leaving } := by
        simp [leavePark, u, leaving]
      have hset : ((s.host h).tags.set tag.val (some ReqKind.leave)).set tag.val none =
          (s.host h).tags := by
        rw [Vector.set_set, ← ha.2.2, Vector.set_getElem_self]
      rw [hside]
      simp [sideLeft, sideTaken, hset, linkAfter, Link.takeValid, Link.accept]
    · rw [(completeLeave_host hready).2 g hg]
      have hg' : (leavePark h u).host g = s.host g := by simp [leavePark, u, leaving, hg]
      rw [inSet, inSet, State.port, State.port, hg']
  · have hready : s.leaveReady h = true := (leaveReady_iff _ _).mpr ⟨hp, hnone, hlist, hintake⟩
    exact ⟨_, rfl, completeLeave_changes h s, completeLeave_answers hready ho,
      (completeLeave_host hready).2⟩

end Sys2Proof.Leases
end

section
/-! PROOFS. The teardown of a lost host (R34, R63) and the silence deadline that brings it (O54). -/

namespace Sys2Proof.Leases

open Sys2Proof Sys2Proof.Machine Sys2Proof.Safety

/-! ## One bank of a lost host -/

/-- R34: the waiter of a lost host is dropped, and its holder revoked. -/
def loseBank (h : HostId) (b : Bank) (s : State) : State := revoke b h .hostLost (dropWaiter b h s)

theorem tearDown_eq (h : HostId) (s : State) :
    tearDown h s = allBanks.foldl (fun s b => loseBank h b s)
      (s.setIntake (s.xfer.intake.filter fun e => !decide (e.host = h))) := rfl

/-- R34: a lost host waits on the bank no more; nothing else but the place at the bus is touched. -/
theorem dropWaiter_drops (h : HostId) (b : Bank) (s : State) :
    ChangesOnly [.banks, .chan] s (dropWaiter b h s) ∧ OtherBanksSame b s (dropWaiter b h s) ∧
      ((dropWaiter b h s).bank b).waiter h = none ∧
      ((dropWaiter b h s).bank b).holders = (s.bank b).holders := by
  unfold dropWaiter
  split
  · rw [removeWaiter_eq]
    refine ⟨(changesOnly_keepPlace s).trans' (changesOnly_setBank _ b _) (by decide) (by decide),
      fun c hc => by simp [hc], ?_, by simp⟩
    rw [waiter_none_iff, State.setBank_bank_same]
    intro w hw
    simpa using (List.mem_filter.mp hw).2
  next hw =>
    exact ⟨.refl _ s, fun _ _ => rfl, by simpa [State.waits] using hw, rfl⟩

/-- R63: the transfers that a lost host has left on a bank have begun and are cancelled; those of the
other banks are as they were. -/
theorem mem_lostTransfers (s : State) (h : HostId) (b : Bank) (e : Transfer) :
    (e ∈ lostTransfers s h b → e.host = h → e.bank = b → 0 < e.issued ∧ e.cancelled = true) ∧
      (e.bank ≠ b → (e ∈ lostTransfers s h b ↔ e ∈ s.xfer.list)) := by
  simp only [lostTransfers, markCancelled, keptTransfers, List.mem_map, List.mem_filter]
  refine ⟨?_, fun hb => ⟨?_, fun he => ⟨e, ⟨he, by simp [Transfer.unbegunOf, hb]⟩, if_neg fun c =>
    hb c.2⟩⟩⟩
  · rintro ⟨x, ⟨-, hx⟩, rfl⟩ hh hb
    by_cases c : x.host = h ∧ x.bank = b
    · rw [if_pos c]
      refine ⟨Nat.pos_of_ne_zero fun h0 => ?_, rfl⟩
      simp [Transfer.unbegunOf, c, show x.issued = 0 by simpa [c] using h0] at hx
    · rw [if_neg c] at hh hb
      exact absurd ⟨hh, hb⟩ c
  · rintro ⟨x, ⟨hx, -⟩, rfl⟩
    by_cases c : x.host = h ∧ x.bank = b
    · rw [if_pos c] at hb
      exact absurd c.2 hb
    · rwa [if_neg c]

/-- R34, R63: what the teardown of one bank does. -/
structure LosesBank (h : HostId) (b : Bank) (s t : State) : Prop where
  changes : ChangesOnly [.banks, .chan, .xfer] s t
  banks : OtherBanksSame b s t
  intake : t.xfer.intake = s.xfer.intake
  list : ∀ e, e.bank ≠ b → (e ∈ t.xfer.list ↔ e ∈ s.xfer.list)
  waiter : (t.bank b).waiter h = none
  holder : ∀ x, (t.bank b).holder h = some x → x.status = .revoking .hostLost
  cancelled : s.holds h b = true →
    ∀ e ∈ t.xfer.list, e.host = h → e.bank = b → 0 < e.issued ∧ e.cancelled = true

/-- R34: a revocation for HOST_LOST leaves the queue as it is. -/
theorem revoke_lost_loses {h : HostId} {b : Bank} {s : State} (hw : (s.bank b).waiter h = none) :
    LosesBank h b s (revoke b h .hostLost s) := by
  cases hx : (s.bank b).holder h with
  | none =>
    rw [revoke_none .hostLost hx]
    exact ⟨.refl _ s, fun _ _ => rfl, rfl, fun _ _ => Iff.rfl, hw, by simp [hx],
      by simp [State.holds, hx]⟩
  | some x =>
    have hl := mem_lostTransfers s h b
    have hgone := holderGone_become hx
    have hset := setHolder_holder (y := revoked .hostLost x) hx (holder_host hx).1
    rcases revoke_lost hx with e | e <;> rw [e]
    · refine ⟨(changesOnly_setHolder b h _ s).trans' (changesOnly_setList _ _) (by decide)
        (by decide), fun c hc => by simp [setHolder, hc], by simp, fun e he => (hl e).2 he, ?_,
        fun y hy => ?_, fun _ e he hh hb => (hl e).1 he hh hb⟩
      · rw [State.setList_bank, setHolder_bank]
        exact hw
      · rw [State.setList_bank] at hy
        obtain rfl := Option.some.inj (hset.symm.trans hy)
        rfl
    · refine ⟨(changesOnly_holderGone b h s).trans' (changesOnly_setList _ _) (by decide)
        (by decide), hgone.banks, by simp, fun e he => (hl e).2 he, ?_, fun y hy => ?_,
        fun _ e he hh hb => (hl e).1 he hh hb⟩
      · rw [State.setList_bank, waiter_none_iff, hgone.waiters]
        exact waiter_none_iff.mp hw
      · rw [State.setList_bank, holder_holderGone hx] at hy
        cases hy

theorem loseBank_loses (h : HostId) (b : Bank) (s : State) :
    LosesBank h b s (loseBank h b s) := by
  obtain ⟨hch, hbanks, hw, hhold⟩ := dropWaiter_drops h b s
  have hl := revoke_lost_loses hw
  have hx : (dropWaiter b h s).xfer = s.xfer := hch .xfer (by decide)
  refine ⟨hch.trans' hl.changes (by decide) (by decide), fun c hc => (hl.banks c hc).trans (hbanks c hc),
    hl.intake.trans (by rw [hx]), fun e he => by rw [← hx]; exact hl.list e he, hl.waiter, hl.holder,
    fun hh => hl.cancelled ?_⟩
  rwa [State.holds, BankRecord.holder, hhold]

/-! ## Every bank of a lost host -/

/-- R34: what the teardown of one bank does not do to another. -/
structure LoseKeeps (b : Bank) (s t : State) : Prop where
  bank : t.bank b = s.bank b
  list : ∀ e, e.bank = b → (e ∈ t.xfer.list ↔ e ∈ s.xfer.list)

theorem LoseKeeps.refl (b : Bank) (s : State) : LoseKeeps b s s := ⟨rfl, fun _ _ => Iff.rfl⟩

theorem LoseKeeps.trans {b : Bank} {s t u : State} (h : LoseKeeps b s t) (k : LoseKeeps b t u) :
    LoseKeeps b s u :=
  ⟨k.bank.trans h.bank, fun e he => (k.list e he).trans (h.list e he)⟩

/-- R34, R63: what has become of a host that is lost. -/
structure TornDown (h : HostId) (s t : State) : Prop where
  changes : ChangesOnly [.banks, .chan, .xfer] s t
  intake : ∀ q ∈ t.xfer.intake, q.host ≠ h
  waiter : ∀ b, (t.bank b).waiter h = none
  holder : ∀ b x, (t.bank b).holder h = some x → x.status = .revoking .hostLost
  cancelled : ∀ e ∈ t.xfer.list, e.host = h → s.holds h e.bank = true →
    0 < e.issued ∧ e.cancelled = true

theorem tearDown_tornDown (h : HostId) (s : State) : TornDown h s (tearDown h s) := by
  rw [tearDown_eq]
  let v := s.setIntake (s.xfer.intake.filter fun e => !decide (e.host = h))
  have hall := foldl_rel (R := fun s t => ChangesOnly [.banks, .chan, .xfer] s t ∧
      t.xfer.intake = s.xfer.intake) (fun s => ⟨.refl _ s, rfl⟩)
    (fun _ _ _ h k => ⟨h.1.trans k.1, k.2.trans h.2⟩) (f := fun s b => loseBank h b s)
    (fun s b => ⟨(loseBank_loses h b s).changes, (loseBank_loses h b s).intake⟩) allBanks v
  have hown : ∀ b, ∃ u, LoseKeeps b v u ∧
      LoseKeeps b (loseBank h b u) (allBanks.foldl (fun s b => loseBank h b s) v) := fun b => by
    obtain ⟨u, -, hvu, hut⟩ := (foldl_own (act := fun b s => loseBank h b s) (Other := LoseKeeps)
      (Inv := fun _ => True) LoseKeeps.refl (fun _ _ _ _ => LoseKeeps.trans) (fun _ _ _ => trivial)
      (fun c j u _ hj => ⟨(loseBank_loses h c u).banks j hj,
        fun e he => (loseBank_loses h c u).list e (by rwa [he])⟩) (l := allBanks) (by decide)
      trivial b).2 (mem_allBanks b)
    exact ⟨u, hvu, hut⟩
  revert hall hown
  change _ → _ → TornDown h s (allBanks.foldl (fun s b => loseBank h b s) v)
  generalize allBanks.foldl (fun s b => loseBank h b s) v = t
  rintro ⟨hch, hintake⟩ hown
  refine ⟨(changesOnly_setIntake s _).trans' hch (by decide) (by decide), fun q hq => ?_,
    fun b => ?_, fun b => ?_, fun e he hh hold => ?_⟩
  · rw [hintake] at hq
    simpa using (List.mem_filter.mp hq).2
  · obtain ⟨u, -, hut⟩ := hown b
    rw [hut.bank]
    exact (loseBank_loses h b u).waiter
  · obtain ⟨u, -, hut⟩ := hown b
    rw [hut.bank]
    exact (loseBank_loses h b u).holder
  · obtain ⟨u, hvu, hut⟩ := hown e.bank
    refine (loseBank_loses h e.bank u).cancelled ?_ e ((hut.list e rfl).mp he) hh rfl
    rw [State.holds, hvu.bank]
    exact hold

/-! ## The silence deadline (R148, R154) -/

section Lost

variable {s : State} {h : HostId} {gone : HostSide}

theorem exec_silenceDeadlineExpiry (hup : (s.link h).state = .up)
    (hd : due s.now (s.link h).silence = true) :
    exec (.silenceDeadlineExpiry h) s = .next (linkDown h s) := if_pos ⟨hup, hd⟩

/-- R161: a host of the attached set is told that another is lost, which is in the set no more. -/
theorem notifyLost_host {u : State} (hp : (u.host h).port = .down) (g : HostId) :
    (notifyAttached (.hostLeft h true) u).host g =
      if g = h then u.host h else sideNotified (inSet u g) (.hostLeft h true) (u.host g) := by
  rw [notifyAttached_host]
  split
  next e =>
    subst e
    simp [sideNotified, hp]
  · rfl

/-- R34, R154: the loss of an ATTACHED or LEAVING host, whatever the units make of it. -/
theorem lost_tornDown {u w t : State} (hgone : gone.port = .down)
    (hu : TornDown h (s.setHost h gone) u) (hw : UnitMoves u w) (hn : NoNewLease h u w)
    (ht : t.hosts = (notifyAttached (.hostLeft h true) w).hosts) (hb : t.banks = w.banks)
    (hx : t.xfer = w.xfer) :
    t.host h = gone ∧ (∀ q ∈ t.xfer.intake, q.host ≠ h) ∧
      (∀ b, (t.bank b).waiter h = none ∧
        ∀ x, (t.bank b).holder h = some x → x.status = .revoking .hostLost) ∧
      ∀ e ∈ t.xfer.list, e.host = h → s.holds h e.bank = true →
        0 < e.issued ∧ e.cancelled = true := by
  have huh : u.host h = gone := by
    have : u.hosts = (s.setHost h gone).hosts := hu.changes .hosts (by decide)
    simp only [State.host, this]
    exact State.setHost_host_same s h gone
  have hwh : w.host h = gone := ((hw.2 h).down (by rwa [huh])).trans huh
  have hwx : w.xfer = u.xfer := hw.1 .xfer (by decide)
  have htb : ∀ b, t.bank b = w.bank b := fun b => by simp [State.bank, hb]
  refine ⟨?_, ?_, fun b => ?_, ?_⟩
  · have := notifyLost_host (h := h) (u := w) (by rwa [hwh]) h
    rw [if_pos rfl, hwh] at this
    rw [← this]
    simp [State.host, ht]
  · rw [hx, hwx]
    exact hu.intake
  · rw [htb]
    exact ⟨(hn b (hu.waiter b)).1, fun x hx => hu.holder b x ((hn b (hu.waiter b)).2 x hx)⟩
  · rw [hx, hwx]
    exact hu.cancelled

/-- R161: where no unit moves, the other hosts of the attached set are told, and nothing else. -/
theorem lost_tells {u t : State} (hu : TornDown h (s.setHost h gone) u)
    (hgone : gone.port = .down) (ht : t.hosts = (notifyAttached (.hostLeft h true) u).hosts)
    {g : HostId} (hg : g ≠ h) :
    t.host g = sideNotified (inSet s g) (.hostLeft h true) (s.host g) := by
  have huh : ∀ g, u.host g = (s.setHost h gone).host g := fun g => by
    have : u.hosts = (s.setHost h gone).hosts := hu.changes .hosts (by decide)
    simp [State.host, this]
  have hug : u.host g = s.host g := by rw [huh, State.setHost_host_other _ _ hg]
  have hin : inSet u g = inSet s g := by rw [inSet, inSet, State.port, State.port, hug]
  have := notifyLost_host (h := h) (u := u) (by rw [huh]; simpa using hgone) g
  rw [if_neg hg, hin, hug] at this
  rw [← this]
  simp [State.host, ht]

end Lost

theorem notifyAttached_leavePark (n : Notification) (h : HostId) (s : State) :
    (notifyAttached n (leavePark h s)).hosts = (notifyAttached n s).hosts ∧
      (notifyAttached n (leavePark h s)).banks = s.banks ∧
      (notifyAttached n (leavePark h s)).xfer = s.xfer := ⟨rfl, rfl, rfl⟩

/-- Settles O54: the host's port says how much of it there is to tear down. -/
theorem lostHostIsTornDown : Obligations.LostHostIsTornDown := by
  intro s h gone hup hd hgone
  have hexec := exec_silenceDeadlineExpiry hup hd
  have hdown : gone.port = .down := by rw [hgone]; rfl
  have hside : HostSide.down (some (s.now + Config.quietTime)) = gone := hgone.symm
  refine ⟨fun hp => ?_, fun hp => ?_⟩
  · rw [hexec]
    rcases hp with hp | hp <;> simp only [linkDown, hp, hside]
  · have hu := tearDown_tornDown h (s.setHost h gone)
    obtain ⟨u, hudef⟩ : ∃ u, u = tearDown h (s.setHost h gone) := ⟨_, rfl⟩
    rw [← hudef] at hu
    have huagree : u.agree = s.agree := hu.changes .agree (by decide)
    have hugate : u.gate = s.gate := hu.changes .gate (by decide)
    have hframe : ChangesOnly [.banks, .chan, .xfer, .hosts] s u :=
      (changesOnly_setHost s h gone).trans' hu.changes (by decide) (by decide)
    by_cases hat : s.port h = .attached
    · have hw := unitMoves_detachAgreement h u
      have he : exec (.silenceDeadlineExpiry h) s =
          .next (takeIntake (notifyAttached (.hostLeft h true)
            (leavePark h (detachAgreement h u)))) := by
        rw [hexec, hudef]
        simp only [linkDown, hat, hside]
      obtain ⟨hhosts, hbanks, hxfer⟩ :=
        notifyAttached_leavePark (.hostLeft h true) h (detachAgreement h u)
      obtain ⟨hh, hi, hb, hl⟩ := lost_tornDown hdown hu hw
        (noNewLease_detachAgreement h h u) hhosts hbanks hxfer
      refine ⟨_, he, hh, fun _ => ⟨?_, ?_⟩, fun hle => ?_, hi, hb, hl, fun hidle => ?_⟩
      · rw [notifyAttached_changes]
        simp [leavePark, HostSet.without]
      · have := detachAgreement_detached h u
        rwa [huagree] at this
      · rw [hat] at hle
        cases hle
      · have hwu : detachAgreement h u = u :=
          detachAgreement_idle h (by rw [huagree]; exact hidle)
        rw [hwu] at hhosts ⊢
        exact ⟨huagree, hugate, fun g hg => lost_tells hu hdown hhosts hg⟩
    · have hle : s.port h = .leaving := hp.resolve_left hat
      have he : exec (.silenceDeadlineExpiry h) s =
          .next (takeIntake (notifyAttached (.hostLeft h true) u)) := by
        rw [hexec, hudef]
        simp only [linkDown, hle, hside]
      obtain ⟨hh, hi, hb, hl⟩ := lost_tornDown (s := s)
        (t := notifyAttached (.hostLeft h true) u) hdown hu (.refl u) (.refl h u) rfl rfl rfl
      have htells := fun g hg =>
        lost_tells (g := g) hu hdown (t := notifyAttached (.hostLeft h true) u) rfl hg
      exact ⟨_, he, hh, fun e => absurd e hat,
        fun _ => ⟨hframe.trans ((changesOnly_notifyEach _ u).mono (by decide)), htells⟩, hi, hb, hl,
        fun _ => ⟨huagree, hugate, htells⟩⟩

end Sys2Proof.Leases
end

section
/-! PROOFS. What a window grants a host, and how the strongest grant is found (R38, R39, O20). -/

namespace Sys2Proof.Configuration

open Sys2Proof Sys2Proof.Machine Sys2Proof.Safety

/-! ## The stronger of two rights (R38) -/

theorem strongest_rank (x y : Right) : (x.strongest y).rank = max x.rank y.rank := by
  unfold Right.strongest
  split <;> omega

theorem strongest_cases (x y : Right) : x.strongest y = x ∨ x.strongest y = y := by
  unfold Right.strongest
  split <;> simp

/-- R38: the strongest of a list of grants is above each of them, and is the right begun with or one
of them. -/
theorem foldl_strongest {α : Type} {grant : α → Right} {l : List α} {first r : Right}
    (hr : l.foldl (fun r w => r.strongest (grant w)) first = r) :
    first.rank ≤ r.rank ∧ (∀ w ∈ l, (grant w).rank ≤ r.rank) ∧
      (r = first ∨ ∃ w ∈ l, grant w = r) := by
  induction l generalizing first with
  | nil => simp [← hr]
  | cons w l ih =>
    obtain ⟨hfirst, hall, hone⟩ := ih hr
    rw [strongest_rank] at hfirst
    refine ⟨by omega, ?_, ?_⟩
    · rintro v (_ | ⟨_, hv⟩)
      · omega
      · exact hall v hv
    · rcases hone with rfl | ⟨v, hv, hone⟩
      · exact (strongest_cases first (grant w)).imp id fun e => ⟨w, List.mem_cons_self, e.symm⟩
      · exact .inr ⟨v, List.mem_cons_of_mem w hv, hone⟩

/-! ## Windows (R36) -/

theorem covers_iff (w : Window) (b : Bank) (row : Row) :
    w.covers b row = true ↔ w.banks.getLsbD b.val = true ∧ w.rowLow.toNat ≤ row.toNat ∧
      row.toNat ≤ w.rowHigh.toNat := by
  simp [Window.covers, and_assoc]

/-- R38: a record grants what its window says where that covers the bank and row, and nothing
elsewhere. -/
theorem windowRight_cases (o : Option Window) (h : HostId) (b : Bank) (row : Row) :
    windowRight o h b row = .none ∨
      ∃ w, o = some w ∧ w.covers b row = true ∧ windowRight o h b row = w.rights.get h := by
  cases o with
  | none => exact .inl rfl
  | some w => by_cases hc : w.covers b row = true <;> simp [windowRight, hc]

theorem mem_windows (c : SharedConfig) (o : Option Window) :
    o ∈ c.windows.toList ↔ ∃ i : Fin 16, c.windows[i.val] = o := by
  rw [Vector.mem_toList_iff, Vector.mem_iff_getElem]
  exact ⟨fun ⟨i, hi, e⟩ => ⟨⟨i, hi⟩, e⟩, fun ⟨i, e⟩ => ⟨i.val, i.isLt, e⟩⟩

/-- R38: the fold over the window table finds the strongest grant. -/
theorem rightOf_strongest (c : SharedConfig) (h : HostId) (b : Bank) (row : Row) :
    (∀ i : Fin 16, (windowRight c.windows[i.val] h b row).rank ≤ (rightOf c h b row).rank) ∧
      (rightOf c h b row = .none ∨
        ∃ i : Fin 16, windowRight c.windows[i.val] h b row = rightOf c h b row) := by
  obtain ⟨-, hall, hone⟩ := foldl_strongest (grant := fun w => windowRight w h b row)
    (l := c.windows.toList) (first := .none) rfl
  refine ⟨fun i => hall _ ((mem_windows c _).mpr ⟨i, rfl⟩), hone.imp id fun ⟨o, ho, hgr⟩ => ?_⟩
  obtain ⟨i, rfl⟩ := (mem_windows c o).mp ho
  exact ⟨i, hgr⟩

/-- Settles O20: a covering window's grant is one of those the right is the strongest of, and the right
is measured against the modes case by case. -/
theorem rightIsStrongestOfWindows : Obligations.RightIsStrongestOfWindows := by
  refine ⟨by decide, by decide, fun c h b row r hr => ?_⟩
  obtain ⟨hall, hone⟩ := rightOf_strongest c h b row
  rw [← hr] at hall hone
  refine ⟨fun i w hw hb hlo hhi => ?_, ?_, ?_, ?_⟩
  · simpa [hw, windowRight, (covers_iff w b row).mpr ⟨hb, hlo, hhi⟩] using hall i
  · rcases hone with hnone | ⟨i, hi⟩
    · exact .inl hnone
    · rcases windowRight_cases c.windows[i.val] h b row with hnone | ⟨w, hw, hc, hgr⟩
      · exact .inl (hi.symm.trans hnone)
      · obtain ⟨hb, hlo, hhi⟩ := (covers_iff w b row).mp hc
        exact .inr ⟨i, w, hw, hb, hlo, hhi, hgr.symm.trans hi⟩
  · cases r <;> simp [Right.enough]
  · cases r <;> simp [Right.enough]

end Sys2Proof.Configuration
end

section
/-! PROOFS. Which change items are valid, which are heavy, and what each sets (R42, R43, R105, R107,
R189, O44). -/

namespace Sys2Proof.Configuration

open Sys2Proof Sys2Proof.Machine Sys2Proof.Safety

/-! ## The fields of a change item (R185, R189) -/

/-- The first two bits of a byte, as the statements cut them out. -/
theorem setWidth_two_toNat (y : Byte) : (y.setWidth 2).toNat = (y &&& 3#8).toNat := by
  simp only [BitVec.toNat_setWidth, BitVec.toNat_and, BitVec.toNat_ofNat]
  exact (Nat.and_two_pow_sub_one_eq_mod y.toNat 2).symm

theorem rightOfPair_some (y : BitVec 2) (r : Right) :
    rightOfPair y = some r ↔ r.rank = y.toNat := by
  cases r <;> revert y <;> decide

/-- R42, R189: the four rights of a byte, host A's in bits 0 and 1. -/
def RightsRead (y : Byte) (p : PerHost Right) : Prop :=
  p.a.rank = (y &&& 3#8).toNat ∧ p.b.rank = ((y >>> 2) &&& 3#8).toNat ∧
    p.c.rank = ((y >>> 4) &&& 3#8).toNat ∧ p.d.rank = ((y >>> 6) &&& 3#8).toNat

theorem rightsOfByte_some (y : Byte) (p : PerHost Right) :
    rightsOfByte y = some p ↔ RightsRead y p := by
  simp only [RightsRead, ← setWidth_two_toNat, ← rightOfPair_some, rightsOfByte]
  obtain ⟨a, b, c, d⟩ := p
  split
  next ha hb hc hd => simp [ha, hb, hc, hd]
  next hno => exact ⟨by simp, fun ⟨ha, hb, hc, hd⟩ => (hno a b c d ha hb hc hd).elim⟩

/-- R42: a pair reads as a right unless it is 3. -/
theorem exists_rank (y : Byte) : (∃ r : Right, r.rank = (y &&& 3#8).toNat) ↔ y &&& 3#8 ≠ 3#8 := by
  have hlt : (y &&& 3#8).toNat < 4 := by
    rw [← setWidth_two_toNat]
    exact (y.setWidth 2).isLt
  rw [ne_eq, ← BitVec.toNat_inj]
  constructor
  · rintro ⟨r, hr⟩
    rw [← hr]
    cases r <;> decide
  · intro hne
    obtain h | h | h : (y &&& 3#8).toNat = 0 ∨ (y &&& 3#8).toNat = 1 ∨ (y &&& 3#8).toNat = 2 := by
      change (y &&& 3#8).toNat ≠ 3 at hne
      omega
    · exact ⟨.none, h.symm⟩
    · exact ⟨.read, h.symm⟩
    · exact ⟨.readWrite, h.symm⟩

theorem exists_rightsRead (y : Byte) :
    (∃ p, RightsRead y p) ↔ ∀ i : Fin 4, (y >>> (2 * i.val)) &&& 3#8 ≠ 3#8 := by
  simp only [← exists_rank]
  constructor
  · rintro ⟨p, ha, hb, hc, hd⟩ i
    match i with
    | 0 => exact ⟨p.a, ha⟩
    | 1 => exact ⟨p.b, hb⟩
    | 2 => exact ⟨p.c, hc⟩
    | 3 => exact ⟨p.d, hd⟩
  · intro h
    obtain ⟨a, ha⟩ := h 0
    obtain ⟨b, hb⟩ := h 1
    obtain ⟨c, hc⟩ := h 2
    obtain ⟨d, hd⟩ := h 3
    exact ⟨⟨a, b, c, d⟩, ha, hb, hc, hd⟩

theorem rowOfField_some (x : BitVec 16) (r : Row) : rowOfField x = some r ↔ r.toNat = x.toNat := by
  unfold rowOfField
  split
  · rw [Option.some_inj, ← BitVec.toNat_inj, BitVec.toNat_setWidth]
    omega
  · have hlt := r.isLt
    exact iff_of_false (by simp) (by omega)

theorem windowIndex_some (y : Byte) (n : Fin 16) : windowIndex y = some n ↔ n.val = y.toNat := by
  unfold windowIndex
  split
  · rw [Option.some_inj, ← Fin.val_inj]
    exact eq_comm
  · have hlt := n.isLt
    exact iff_of_false (by simp) (by omega)

theorem hostOfPort_some (y : Byte) (h : HostId) : hostOfPort y = some h ↔ portByte h = y := by
  cases h <;> revert y <;> decide

theorem exists_port (y : Byte) : (∃ h, portByte h = y) ↔ y.toNat ≤ 3 := by
  constructor
  · rintro ⟨h, rfl⟩
    cases h <;> decide
  · intro hle
    obtain h | h | h | h : y.toNat = 0 ∨ y.toNat = 1 ∨ y.toNat = 2 ∨ y.toNat = 3 := by omega
    · exact ⟨.a, BitVec.eq_of_toNat_eq h.symm⟩
    · exact ⟨.b, BitVec.eq_of_toNat_eq h.symm⟩
    · exact ⟨.c, BitVec.eq_of_toNat_eq h.symm⟩
    · exact ⟨.d, BitVec.eq_of_toNat_eq h.symm⟩

/-- R42, R189: the window that the fields of an item give. -/
structure WindowRead (x : RawItem) (w : Window) : Prop where
  bankSet : x.bankSet ≠ 0#8
  ordered : x.valueA.toNat ≤ x.valueB.toNat
  banks : w.banks = x.bankSet
  rowLow : w.rowLow.toNat = x.valueA.toNat
  rowHigh : w.rowHigh.toNat = x.valueB.toNat
  rights : RightsRead x.rights w.rights

theorem windowOfItem_some (x : RawItem) (w : Window) :
    windowOfItem x = some w ↔ WindowRead x w := by
  constructor
  · intro h
    unfold windowOfItem at h
    split at h
    next lo hi rights hlo hhi hrights =>
      rw [rowOfField_some] at hlo hhi
      split at h
      next hc =>
        cases h
        exact ⟨hc.1, by omega, rfl, hlo, hhi, (rightsOfByte_some _ _).mp hrights⟩
      next => cases h
    next => cases h
  · obtain ⟨banks, lo, hi, rights⟩ := w
    rintro ⟨hne, hle, rfl, hlo, hhi, hrights⟩
    simp [windowOfItem, (rowOfField_some _ _).mpr hlo, (rowOfField_some _ _).mpr hhi,
      (rightsOfByte_some _ _).mpr hrights, hne, hlo, hhi, hle]

/-- R42: the checks on the fields of a window. -/
theorem exists_windowRead (x : RawItem) :
    (∃ w, WindowRead x w) ↔ x.bankSet ≠ 0#8 ∧ x.valueA.toNat ≤ x.valueB.toNat ∧
      x.valueB.toNat ≤ 16383 ∧ ∀ i : Fin 4, (x.rights >>> (2 * i.val)) &&& 3#8 ≠ 3#8 := by
  constructor
  · rintro ⟨w, h⟩
    have hlt := w.rowHigh.isLt
    have hhi := h.rowHigh
    exact ⟨h.bankSet, h.ordered, by omega, (exists_rightsRead _).mp ⟨_, h.rights⟩⟩
  · rintro ⟨hne, hle, hhi, hpairs⟩
    obtain ⟨rights, hrights⟩ := (exists_rightsRead _).mpr hpairs
    refine ⟨⟨x.bankSet, x.valueA.setWidth 14, x.valueB.setWidth 14, rights⟩,
      hne, hle, rfl, ?_, ?_, hrights⟩ <;> simp only [BitVec.toNat_setWidth] <;> omega

/-! ## The nine kinds (R42, R43, R107) -/

/-- R107, R189: an item is what the fields of a raw item say, each field valid. -/
def ItemRead (x : RawItem) : ChangeItem → Prop
  | .setWindow n w => x.kind = 1#8 ∧ n.val = x.target.toNat ∧ WindowRead x w
  | .clearWindow n => x.kind = 2#8 ∧ n.val = x.target.toNat
  | .setHoldLimit h limit => x.kind = 3#8 ∧ portByte h = x.target ∧ limit = x.valueA
  | .setRefreshRate r =>
    x.kind = 4#8 ∧ x.valueA.toNat ≤ 1 ∧ r = if x.valueA = 0#16 then .normal else .fast
  | .setThreshold t => x.kind = 5#8 ∧ 1 ≤ x.valueA.toNat ∧ x.valueA.toNat ≤ 4 ∧ t = x.valueA.toNat
  | .setBallotTimeout t =>
    x.kind = 6#8 ∧ 1 ≤ x.valueA.toNat ∧ x.valueA.toNat ≤ 255 ∧ t = x.valueA.setWidth 8
  | .setDrainTimeout t => x.kind = 7#8 ∧ x.valueA ≠ 0#16 ∧ t = x.valueA
  | .setBurstOrder o =>
    x.kind = 8#8 ∧ x.valueA.toNat ≤ 1 ∧ o = if x.valueA = 0#16 then .linearWrap else .xorWrap
  | .retrain => x.kind = 9#8

theorem itemRead_of_parse {x : RawItem} {i : ChangeItem} (h : parseItem x = some i) :
    ItemRead x i := by
  have hkind : ∀ k : Nat, x.kind.toNat = k → x.kind = BitVec.ofNat 8 k := fun k hk => by
    rw [← hk, BitVec.ofNat_toNat, BitVec.setWidth_eq]
  have hval : ∀ k : Nat, x.valueA.toNat = k → x.valueA = BitVec.ofNat 16 k := fun k hk => by
    rw [← hk, BitVec.ofNat_toNat, BitVec.setWidth_eq]
  unfold parseItem at h
  split at h
  next hk =>
    split at h
    next hn hw =>
      cases h
      exact ⟨hkind 1 hk, (windowIndex_some _ _).mp hn, (windowOfItem_some _ _).mp hw⟩
    next => cases h
  next hk =>
    obtain ⟨n, hn, rfl⟩ := Option.map_eq_some_iff.mp h
    exact ⟨hkind 2 hk, (windowIndex_some _ _).mp hn⟩
  next hk =>
    obtain ⟨g, hg, rfl⟩ := Option.map_eq_some_iff.mp h
    exact ⟨hkind 3 hk, (hostOfPort_some _ _).mp hg, rfl⟩
  next hk =>
    split at h
    next hv => cases h; exact ⟨hkind 4 hk, by omega, by simp [hval 0 hv]⟩
    next hv => cases h; exact ⟨hkind 4 hk, by omega, by simp [hval 1 hv]⟩
    next => cases h
  next hk =>
    split at h
    next hv => cases h; exact ⟨hkind 5 hk, hv.1, hv.2, rfl⟩
    next => cases h
  next hk =>
    split at h
    next hv => cases h; exact ⟨hkind 6 hk, hv.1, hv.2, rfl⟩
    next => cases h
  next hk =>
    split at h
    next => cases h
    next hv => cases h; exact ⟨hkind 7 hk, hv, rfl⟩
  next hk =>
    split at h
    next hv => cases h; exact ⟨hkind 8 hk, by omega, by simp [hval 0 hv]⟩
    next hv => cases h; exact ⟨hkind 8 hk, by omega, by simp [hval 1 hv]⟩
    next => cases h
  next hk => cases h; exact hkind 9 hk
  next => cases h

/-- R43: a field that is 0 or 1. -/
theorem valueA_cases {x : RawItem} (h : x.valueA.toNat ≤ 1) :
    x.valueA = 0#16 ∨ x.valueA = 1#16 := by
  simp only [← BitVec.toNat_inj, BitVec.toNat_ofNat]
  omega

theorem parse_of_itemRead {x : RawItem} {i : ChangeItem} (h : ItemRead x i) :
    parseItem x = some i := by
  cases i with
  | setWindow n w =>
    obtain ⟨hk, hn, hw⟩ := h
    simp [parseItem, hk, (windowIndex_some _ _).mpr hn, (windowOfItem_some _ _).mpr hw]
  | clearWindow n =>
    obtain ⟨hk, hn⟩ := h
    simp [parseItem, hk, (windowIndex_some _ _).mpr hn]
  | setHoldLimit g l =>
    obtain ⟨hk, hg, rfl⟩ := h
    simp [parseItem, hk, (hostOfPort_some _ _).mpr hg]
  | setRefreshRate r =>
    obtain ⟨hk, hv, rfl⟩ := h
    rcases valueA_cases hv with hv | hv <;> simp [parseItem, hk, hv]
  | setThreshold t =>
    obtain ⟨hk, hlo, hhi, rfl⟩ := h
    simp [parseItem, hk, hlo, hhi]
  | setBallotTimeout t =>
    obtain ⟨hk, hlo, hhi, rfl⟩ := h
    simp [parseItem, hk, hlo, hhi]
  | setDrainTimeout t =>
    obtain ⟨hk, hv, rfl⟩ := h
    simp [parseItem, hk, hv]
  | setBurstOrder o =>
    obtain ⟨hk, hv, rfl⟩ := h
    rcases valueA_cases hv with hv | hv <;> simp [parseItem, hk, hv]
  | retrain => simp [parseItem, show x.kind = 9#8 from h]

/-- R42, R43, R107, R189: an item is read from its fields as `ItemRead` says. -/
theorem parseItem_some (x : RawItem) (i : ChangeItem) : parseItem x = some i ↔ ItemRead x i :=
  ⟨itemRead_of_parse, parse_of_itemRead⟩

/-! ## What is valid, heavy and set (R105, R107) -/

/-- R42, R43, R107: the checks on the fields of an item, by its kind. -/
def ItemValid (x : RawItem) : Prop :=
  (x.kind = 1#8 ∧ x.target.toNat ≤ 15 ∧ x.bankSet ≠ 0#8 ∧ x.valueA.toNat ≤ x.valueB.toNat ∧
    x.valueB.toNat ≤ 16383 ∧ ∀ i : Fin 4, (x.rights >>> (2 * i.val)) &&& 3#8 ≠ 3#8) ∨
  (x.kind = 2#8 ∧ x.target.toNat ≤ 15) ∨ (x.kind = 3#8 ∧ x.target.toNat ≤ 3) ∨
  (x.kind = 4#8 ∧ x.valueA.toNat ≤ 1) ∨
  (x.kind = 5#8 ∧ 1 ≤ x.valueA.toNat ∧ x.valueA.toNat ≤ 4) ∨
  (x.kind = 6#8 ∧ 1 ≤ x.valueA.toNat ∧ x.valueA.toNat ≤ 255) ∨
  (x.kind = 7#8 ∧ x.valueA ≠ 0#16) ∨ (x.kind = 8#8 ∧ x.valueA.toNat ≤ 1) ∨ x.kind = 9#8

theorem ItemRead.valid {x : RawItem} {i : ChangeItem} (h : ItemRead x i) : ItemValid x := by
  unfold ItemValid
  cases i with
  | setWindow n w =>
    obtain ⟨hk, hn, hw⟩ := h
    exact .inl ⟨hk, by omega, (exists_windowRead x).mp ⟨w, hw⟩⟩
  | clearWindow n =>
    obtain ⟨hk, hn⟩ := h
    simp only [hk, true_and]
    omega
  | setHoldLimit g l =>
    obtain ⟨hk, hg, -⟩ := h
    simp [hk, (exists_port x.target).mp ⟨g, hg⟩]
  | setRefreshRate r =>
    obtain ⟨hk, hv, -⟩ := h
    simp [hk, hv]
  | setThreshold t =>
    obtain ⟨hk, hlo, hhi, -⟩ := h
    simp [hk, hlo, hhi]
  | setBallotTimeout t =>
    obtain ⟨hk, hlo, hhi, -⟩ := h
    simp [hk, hlo, hhi]
  | setDrainTimeout t =>
    obtain ⟨hk, hv, -⟩ := h
    simp [hk, hv]
  | setBurstOrder o =>
    obtain ⟨hk, hv, -⟩ := h
    simp [hk, hv]
  | retrain => simp [show x.kind = 9#8 from h]

theorem ItemValid.exists_read {x : RawItem} (h : ItemValid x) : ∃ i, ItemRead x i := by
  rcases h with ⟨hk, hn, hw⟩ | ⟨hk, hn⟩ | ⟨hk, hp⟩ | ⟨hk, hv⟩ | ⟨hk, hlo, hhi⟩ | ⟨hk, hlo, hhi⟩ |
    ⟨hk, hv⟩ | ⟨hk, hv⟩ | hk
  · obtain ⟨w, hw⟩ := (exists_windowRead x).mpr hw
    exact ⟨.setWindow ⟨x.target.toNat, by omega⟩ w, hk, rfl, hw⟩
  · exact ⟨.clearWindow ⟨x.target.toNat, by omega⟩, hk, rfl⟩
  · obtain ⟨g, hg⟩ := (exists_port x.target).mpr hp
    exact ⟨.setHoldLimit g x.valueA, hk, hg, rfl⟩
  · exact ⟨.setRefreshRate _, hk, hv, rfl⟩
  · exact ⟨.setThreshold _, hk, hlo, hhi, rfl⟩
  · exact ⟨.setBallotTimeout _, hk, hlo, hhi, rfl⟩
  · exact ⟨.setDrainTimeout _, hk, hv, rfl⟩
  · exact ⟨.setBurstOrder _, hk, hv, rfl⟩
  · exact ⟨.retrain, hk⟩

theorem parseItem_valid (x : RawItem) : parseItem x ≠ none ↔ ItemValid x := by
  simp only [Option.ne_none_iff_exists', parseItem_some]
  exact ⟨fun ⟨_, h⟩ => h.valid, ItemValid.exists_read⟩

/-- Settles O44: each kind of item, read from its fields, is heavy or light and carried out as its
case says. -/
theorem changeItemsReadAndCarriedOut : Obligations.ChangeItemsReadAndCarriedOut := by
  refine fun x => ⟨parseItem_valid x, fun i hi => ?_⟩
  rw [parseItem_some] at hi
  cases i with
  | setWindow n w =>
    obtain ⟨hk, hn, hw⟩ := hi
    obtain ⟨ha, hb, hc, hd⟩ := hw.rights
    refine ⟨by simp [hk, ChangeItem.heavy], fun c => ?_⟩
    simp only [hk, BitVec.reduceEq, false_implies, true_implies, and_true]
    exact ⟨n, w, hn, rfl, hw.banks, hw.rowLow, hw.rowHigh, ha, hb, hc, hd⟩
  | clearWindow n =>
    obtain ⟨hk, hn⟩ := hi
    refine ⟨by simp [hk, ChangeItem.heavy], fun c => ?_⟩
    simp only [hk, BitVec.reduceEq, false_implies, true_implies, and_true, true_and]
    exact ⟨n, hn, rfl⟩
  | setHoldLimit g l =>
    obtain ⟨hk, hg, rfl⟩ := hi
    refine ⟨by simp [hk, ChangeItem.heavy], fun c => ?_⟩
    simp only [hk, BitVec.reduceEq, false_implies, true_implies, and_true, true_and]
    exact ⟨g, hg, rfl⟩
  | setRefreshRate r =>
    obtain ⟨hk, -, rfl⟩ := hi
    simp [hk, ChangeItem.heavy, applyItem]
  | setThreshold t =>
    obtain ⟨hk, -, -, rfl⟩ := hi
    simp [hk, ChangeItem.heavy, applyItem]
  | setBallotTimeout t =>
    obtain ⟨hk, -, -, rfl⟩ := hi
    simp [hk, ChangeItem.heavy, applyItem]
  | setDrainTimeout t =>
    obtain ⟨hk, -, rfl⟩ := hi
    simp [hk, ChangeItem.heavy, applyItem]
  | setBurstOrder o =>
    obtain ⟨hk, -, rfl⟩ := hi
    simp [hk, ChangeItem.heavy, applyItem]
  | retrain => simp [show x.kind = 9#8 from hi, ChangeItem.heavy, applyItem]

end Sys2Proof.Configuration
end

section
/-! PROOFS. The end of a drain and the commit of a proposal (R44, R123, R125, R128, O48): how an
apply begins, which waiters a new record leaves in their queues, and what the commit makes of the
state. -/

namespace Sys2Proof.Configuration

open Sys2Proof Sys2Proof.Machine Sys2Proof.Safety Sys2Proof.Leases

/-! ## How an apply begins (R125, R183) -/

/-- R179, R180: the sweep's next step is offered, or the sweep yields. -/
theorem offerStep_eq {s : State} {w : Sweep} (hw : s.seq.sweep = some w) {press : Bool}
    (hp : press = true ↔ presses s s.agree.live.threshold s.account.owed) :
    offerStep s = (s.setSeq (seqOffers press s.seq)).setChan
      { s.chan with offers := s.chan.offers ++ stepOffers press w.lane w.delay } := by
  cases press with
  | true =>
    rw [offerStep_yields hw (hp.mp rfl)]
    simp [seqOffers, stepOffers, State.setChan, State.setSeq]
  | false =>
    rw [offerStep_offers hw fun h => by simpa using hp.mpr h]
    rfl

/-- R125: the unit as its apply begins at a step. -/
def applyingUnit (a : Agreement) (p : Proposal) (step : ApplyStep) : Agreement :=
  { a with
    state := .applying, proposal := some { p with drainDeadline := none }, applyStep := some step }

/-- R183: the sequencer as a retraining begins, its first step still to be offered. -/
def retraining (q : Sequencer) : Sequencer :=
  { q with
    staged := some ((Vector.replicate 4 ⟨none, .untrained, 0⟩).set 0 ⟨none, .untrained, 1⟩)
    sweep := some (firstStep 0 1 .retrain) }

section BeginApply

variable {s : State} {p : Proposal} (hp : s.agree.proposal = some p)
include hp

theorem beginApply_commits (hr : ChangeItem.retrain ∉ p.items)
    (hb : s.agree.staged.burstOrder = s.agree.live.burstOrder) :
    beginApply s = s.setAgree (applyingUnit s.agree p .commit) := by
  simp only [beginApply, hp, if_neg hr, applyBurstOrder]
  exact if_pos hb

theorem beginApply_loads (hr : ChangeItem.retrain ∉ p.items)
    (hb : s.agree.staged.burstOrder ≠ s.agree.live.burstOrder) :
    beginApply s = offer (.modeLoad (.burst s.agree.staged.burstOrder)) .agreement
      (s.setAgree (applyingUnit s.agree p .load)) := by
  simp only [beginApply, hp, if_neg hr, applyBurstOrder]
  exact if_neg hb

theorem beginApply_retrains (hr : ChangeItem.retrain ∈ p.items) :
    beginApply s = offerStep
      ((s.setAgree (applyingUnit s.agree p .retrain)).setSeq (retraining s.seq)) := by
  simp only [beginApply, hp, if_pos hr]
  rfl

/-- R125, R183: the first step of an apply. -/
theorem beginApply_begun : ApplyBegun s (beginApply s) s.agree p := by
  refine ⟨fun hr hb => ?_, fun hr hb => ?_, fun hr press hpress => ?_⟩
  · rw [beginApply_commits hp hr hb]
    exact ⟨rfl, rfl, rfl⟩
  · rw [beginApply_loads hp hr hb]
    exact ⟨rfl, rfl, rfl⟩
  · rw [beginApply_retrains hp hr, offerStep_eq (w := firstStep 0 1 .retrain)
      (s := (s.setAgree (applyingUnit s.agree p .retrain)).setSeq (retraining s.seq)) rfl hpress]
    exact ⟨rfl, rfl, rfl⟩

end BeginApply

theorem changesOnly_offerStep (s : State) : ChangesOnly [.seq, .chan] s (offerStep s) := by
  unfold offerStep
  split
  · exact .refl _ s
  · split
    · exact (changesOnly_setSeq s _).mono (by decide)
    · exact (changesOnly_setSeq s _).trans' (changesOnly_setChan _ _) (by decide) (by decide)

theorem changesOnly_beginApply (s : State) :
    ChangesOnly [.agree, .chan, .seq] s (beginApply s) := by
  cases hp : s.agree.proposal with
  | none =>
    simp only [beginApply, hp]
    exact .refl _ s
  | some p =>
    by_cases hr : ChangeItem.retrain ∈ p.items
    · rw [beginApply_retrains hp hr]
      exact ((changesOnly_setAgree s _).trans' (changesOnly_setSeq _ _) (by decide)
        (by decide)).trans ((changesOnly_offerStep _).mono (by decide))
    · by_cases hb : s.agree.staged.burstOrder = s.agree.live.burstOrder
      · rw [beginApply_commits hp hr hb]
        exact (changesOnly_setAgree s _).mono (by decide)
      · rw [beginApply_loads hp hr hb]
        exact (changesOnly_setAgree s _).trans' (changesOnly_setChan _ _) (by decide) (by decide)

/-! ## An OPEN that a waiter's removal answers (R20, R157) -/

/-- R157: the tag is FREE, and the answer of the OPEN that had it is in the send queue. -/
def OpenAnswered (st : Status) (p : HostSide) (i : Tag) : Prop :=
  p.tags[i.val] = none ∧ .response (plain i .openLease st) ∈ p.link.sendQueue

/-- R157: the tag is that of an OUTSTANDING OPEN, or of one that has been answered so. -/
def OpenStands (st : Status) (p : HostSide) (i : Tag) : Prop :=
  p.tags[i.val] = some .openLease ∨ OpenAnswered st p i

theorem OpenAnswered.answered {st : Status} {p : HostSide} {i : Tag} (h : OpenAnswered st p i)
    (tag : Tag) (st' : Status) (x : Payload) : OpenAnswered st (answeredSide tag st' x p) i := by
  unfold answeredSide
  split
  · exact h
  next kind hk =>
    have hne : i ≠ tag := by
      rintro rfl
      simp [h.1] at hk
    exact ⟨by rw [sideAnswers_tags_other _ _ hne, h.1], List.mem_append_left _ h.2⟩

theorem OpenStands.answered_self {st : Status} {p : HostSide} {i : Tag} (h : OpenStands st p i) :
    OpenAnswered st (answeredSide i st .none p) i := by
  rcases h with h | h
  · rw [answeredSide_plain st h]
    exact ⟨by simp [sideAnswers], List.mem_append_right _ (List.mem_singleton.mpr rfl)⟩
  · exact h.answered i st .none

theorem OpenStands.answered {st : Status} {p : HostSide} {i : Tag} (h : OpenStands st p i)
    (tag : Tag) : OpenStands st (answeredSide tag st .none p) i := by
  by_cases e : i = tag
  · exact e ▸ .inr h.answered_self
  · refine h.imp (fun h => ?_) fun h => h.answered tag st .none
    unfold answeredSide
    split
    · exact h
    · rw [sideAnswers_tags_other _ _ e, h]

theorem OpenAnswered.notesOnly {st : Status} {p q : HostSide} {i : Tag} (h : OpenAnswered st p i)
    (hpq : NotesOnly p q) : OpenAnswered st q i := by
  unfold OpenAnswered
  rwa [hpq.tags, hpq.link]

/-! ## The waiter recheck (R44) -/

/-- R44: what the recheck of a bank may do: to its record, and to the answers of OPENs. -/
structure Rechecks (b : Bank) (s t : State) : Prop where
  changes : ChangesOnly [.banks, .chan, .hosts] s t
  banks : OtherBanksSame b s t
  ops : t.chan.ops = s.chan.ops
  stands : ∀ g i, OpenStands .noRight (s.host g) i → OpenStands .noRight (t.host g) i
  answered : ∀ g i, OpenAnswered .noRight (s.host g) i → OpenAnswered .noRight (t.host g) i

namespace Rechecks

theorem refl (b : Bank) (s : State) : Rechecks b s s :=
  ⟨.refl _ s, fun _ _ => rfl, rfl, fun _ _ => id, fun _ _ => id⟩

theorem trans {b : Bank} {s t u : State} (h : Rechecks b s t) (k : Rechecks b t u) :
    Rechecks b s u :=
  ⟨h.changes.trans k.changes, fun c hc => (k.banks c hc).trans (h.banks c hc), k.ops.trans h.ops,
    fun g i => k.stands g i ∘ h.stands g i, fun g i => k.answered g i ∘ h.answered g i⟩

end Rechecks

theorem withdrawWaiter_rechecks (b : Bank) (h : HostId) (s : State) :
    Rechecks b s (withdrawWaiter b h .noRight s) := by
  cases hw : (s.bank b).waiter h with
  | none =>
    simp only [withdrawWaiter, hw]
    exact .refl b s
  | some w =>
    rw [withdrawWaiter_eq .noRight hw]
    refine ⟨((changesOnly_keepPlace s).trans' (changesOnly_setBank _ b _)
      (m := [.banks, .chan, .hosts]) (by decide) (by decide)).trans
      ((changesOnly_setHost _ h _).mono (by decide)), fun c hc => by simp [hc], rfl,
      fun g i hi => ?_, fun g i hi => ?_⟩ <;> by_cases hg : g = h
    · subst hg
      simpa using hi.answered w.tag
    · simpa [hg] using hi
    · subst hg
      simpa using hi.answered w.tag .noRight .none
    · simpa [hg] using hi

/-- R44: one waiter is judged by the live record. -/
def recheckWaiter (b : Bank) (s : State) (w : Waiter) : State :=
  if waiterShort s.agree.live b w then withdrawWaiter b w.host .noRight s else s

/-- R44: the waiters of one bank are judged in their order. -/
def recheckBank (b : Bank) (s : State) : State := (s.bank b).waiters.foldl (recheckWaiter b) s

theorem recheckWaiters_eq (s : State) :
    recheckWaiters s = allBanks.foldl (fun s b => recheckBank b s) s := rfl

theorem recheckWaiter_rechecks (b : Bank) (s : State) (w : Waiter) :
    Rechecks b s (recheckWaiter b s w) := by
  unfold recheckWaiter
  split
  · exact withdrawWaiter_rechecks b w.host s
  · exact .refl b s

theorem foldl_recheckWaiter_rechecks (b : Bank) (l : List Waiter) (s : State) :
    Rechecks b s (l.foldl (recheckWaiter b) s) :=
  foldl_rel (Rechecks.refl b) (fun _ _ _ => Rechecks.trans) (recheckWaiter_rechecks b) l s

/-- Where each host waits at most once, the entry of a waiter's host is that waiter. -/
theorem waiter_eq_of_nodup {r : BankRecord} (hn : (r.waiters.map fun w => w.host).Nodup)
    {w : Waiter} (hw : w ∈ r.waiters) : r.waiter w.host = some w := by
  cases hf : r.waiter w.host with
  | none => exact absurd rfl (waiter_none_iff.mp hf w hw)
  | some y =>
    obtain ⟨hh, hm⟩ := waiter_host hf
    rw [List.inj_on_of_nodup_map hn hm hw hh]

theorem filter_host_ne {stayed l : List Waiter} {w : Waiter}
    (hn : ((stayed ++ w :: l).map fun w => w.host).Nodup) :
    ((stayed ++ w :: l).filter fun y => decide (y.host ≠ w.host)) = stayed ++ l := by
  rw [List.map_append, List.map_cons, List.nodup_middle, ← List.map_append, List.nodup_cons] at hn
  have hall : ∀ y ∈ stayed ++ l, decide (y.host ≠ w.host) = true := fun y hy => by
    simpa using fun e => hn.1 (List.mem_map.mpr ⟨y, hy, e⟩)
  rw [← List.filter_eq_self.mpr hall]
  simp

/-- R44: a waiter whose right is not enough leaves the queue, those before and behind it staying, and
its OPEN is answered. -/
theorem recheckWaiter_short {b : Bank} {s : State} {stayed l : List Waiter} {w : Waiter}
    (hs : waiterShort s.agree.live b w = true) (hw : (s.bank b).waiters = stayed ++ w :: l)
    (hn : ((stayed ++ w :: l).map fun w => w.host).Nodup) :
    recheckWaiter b s w =
      ((keepPlace s).setBank b { s.bank b with waiters := stayed ++ l }).setHost w.host
        (answeredSide w.tag .noRight .none (s.host w.host)) := by
  have hfind := waiter_eq_of_nodup (r := s.bank b) (by rwa [hw]) (w := w) (by simp [hw])
  rw [recheckWaiter, if_pos hs, withdrawWaiter_eq .noRight hfind, hw, filter_host_ne hn]

/-- R44: the waiters of a bank that are still to be judged, behind those that stay. -/
theorem foldl_recheckWaiter {b : Bank} {l stayed : List Waiter} {s : State}
    (hw : (s.bank b).waiters = stayed ++ l) (hn : ((stayed ++ l).map fun w => w.host).Nodup) :
    (l.foldl (recheckWaiter b) s).bank b = { s.bank b with
        waiters := stayed ++ l.filter fun x => !waiterShort s.agree.live b x } ∧
      ∀ x ∈ l, waiterShort s.agree.live b x = true → OpenStands .noRight (s.host x.host) x.tag →
        OpenAnswered .noRight ((l.foldl (recheckWaiter b) s).host x.host) x.tag := by
  induction l generalizing stayed s with
  | nil => simp [← hw]
  | cons w l ih =>
    have hone := recheckWaiter_rechecks b s w
    have hrest := foldl_recheckWaiter_rechecks b l (recheckWaiter b s w)
    have hagree : (recheckWaiter b s w).agree = s.agree := hone.changes .agree (by decide)
    rw [List.foldl_cons]
    by_cases hs : waiterShort s.agree.live b w = true
    · have hgoes := recheckWaiter_short hs hw hn
      rw [List.map_append, List.map_cons, List.nodup_middle, ← List.map_append] at hn
      obtain ⟨hbank, hans⟩ := ih (stayed := stayed) (s := recheckWaiter b s w) (by simp [hgoes])
        hn.of_cons
      rw [hagree] at hbank hans
      refine ⟨by rw [hbank]; simp [hgoes, hs], ?_⟩
      rintro x (_ | ⟨_, hx⟩) hshort hx'
      · refine hrest.answered _ _ ?_
        simpa [hgoes] using hx'.answered_self
      · exact hans x hx hshort (hone.stands _ _ hx')
    · have hstays : recheckWaiter b s w = s := if_neg hs
      obtain ⟨hbank, hans⟩ := ih (stayed := stayed ++ [w]) (s := s) (by simp [hw])
        (by simpa using hn)
      rw [hstays]
      refine ⟨by simp [hbank, hs], ?_⟩
      rintro x (_ | ⟨_, hx⟩) hshort
      · exact absurd hshort hs
      · exact hans x hx hshort

/-! ## Every queue (R44) -/

/-- R44: what the recheck of other banks does not do to one. -/
structure RecheckKeeps (b : Bank) (s t : State) : Prop where
  bank : t.bank b = s.bank b
  stands : ∀ g i, OpenStands .noRight (s.host g) i → OpenStands .noRight (t.host g) i
  answered : ∀ g i, OpenAnswered .noRight (s.host g) i → OpenAnswered .noRight (t.host g) i

theorem RecheckKeeps.refl (b : Bank) (s : State) : RecheckKeeps b s s :=
  ⟨rfl, fun _ _ => id, fun _ _ => id⟩

theorem RecheckKeeps.trans {b : Bank} {s t u : State} (h : RecheckKeeps b s t)
    (k : RecheckKeeps b t u) : RecheckKeeps b s u :=
  ⟨k.bank.trans h.bank, fun g i => k.stands g i ∘ h.stands g i,
    fun g i => k.answered g i ∘ h.answered g i⟩

theorem Rechecks.keeps {b c : Bank} {s t : State} (h : Rechecks b s t) (hc : c ≠ b) :
    RecheckKeeps c s t := ⟨h.banks c hc, h.stands, h.answered⟩

theorem recheckBank_rechecks (b : Bank) (s : State) : Rechecks b s (recheckBank b s) :=
  foldl_recheckWaiter_rechecks b _ s

theorem recheckWaiters_frame (s : State) :
    ChangesOnly [.banks, .chan, .hosts] s (recheckWaiters s) ∧
      (recheckWaiters s).chan.ops = s.chan.ops := by
  rw [recheckWaiters_eq]
  exact foldl_rel (R := fun s t => ChangesOnly [.banks, .chan, .hosts] s t ∧
      t.chan.ops = s.chan.ops) (fun s => ⟨.refl _ s, rfl⟩)
    (fun _ _ _ h k => ⟨h.1.trans k.1, k.2.trans h.2⟩)
    (fun s b => ⟨(recheckBank_rechecks b s).changes, (recheckBank_rechecks b s).ops⟩) allBanks s

/-- R44: on a sound bank the waiters whose right is enough stay in their places, and the OPEN of
each other one is answered NO_RIGHT. -/
theorem recheckWaiters_bank {s : State} {b : Bank} (hb : BankListsSound (s.bank b)) :
    (recheckWaiters s).bank b = { s.bank b with
        waiters := (s.bank b).waiters.filter fun x => !waiterShort s.agree.live b x } ∧
      ∀ x ∈ (s.bank b).waiters, waiterShort s.agree.live b x = true →
        OpenStands .noRight (s.host x.host) x.tag →
        OpenAnswered .noRight ((recheckWaiters s).host x.host) x.tag := by
  obtain ⟨u, hagree, hsu, hut⟩ := (foldl_own (act := recheckBank) (Other := RecheckKeeps)
    (Inv := fun u => u.agree = s.agree) RecheckKeeps.refl (fun _ _ _ _ => RecheckKeeps.trans)
    (fun c u hu => ((recheckBank_rechecks c u).changes .agree (by decide)).trans hu)
    (fun c j u _ hj => (recheckBank_rechecks c u).keeps hj) (l := allBanks) (by decide) rfl b).2
    (mem_allBanks b)
  rw [← recheckWaiters_eq] at hut
  obtain ⟨hbank, hans⟩ := foldl_recheckWaiter (s := u) (b := b) (stayed := []) rfl (by
    rw [List.nil_append, hsu.bank]
    exact (List.nodup_append.mp hb.1).2.1)
  rw [hagree, hsu.bank] at hbank hans
  refine ⟨hut.bank.trans (by rw [recheckBank, hsu.bank, hbank]; rfl), fun x hx hshort hstands => ?_⟩
  refine hut.answered _ _ ?_
  rw [recheckBank, hsu.bank]
  exact hans x hx hshort (hsu.stands _ _ hstands)

theorem recheckWaiters_noWaiters {s : State} (h : noWaiters s) : recheckWaiters s = s := by
  rw [recheckWaiters_eq]
  exact List.foldl_fixed' (fun b => by simp [recheckBank, h b]) allBanks

/-! ## The commit (R128) -/

/-- R128: the staged record has become live. -/
def stagedLive (s : State) : State := s.setAgree { s.agree with live := s.agree.staged }

/-- R128: the staged record is live, the waiters have been judged by it, and the epoch has risen. -/
def recordTaken (s : State) : State :=
  (recheckWaiters (stagedLive s)).setAgree
    { s.agree with live := s.agree.staged, epoch := s.agree.epoch + 1#16 }

theorem commitProposal_eq (s : State) : commitProposal s =
    judgeAccount (resolveProposal .applied (removeReason .config (recordTaken s))) := by
  have h : (recheckWaiters (stagedLive s)).agree = { s.agree with live := s.agree.staged } :=
    (recheckWaiters_frame (stagedLive s)).1 .agree (by decide)
  simp only [recordTaken, commitProposal]
  rw [← stagedLive, h]

theorem recordTaken_agree (s : State) : (recordTaken s).agree =
    { s.agree with live := s.agree.staged, epoch := s.agree.epoch + 1#16 } := by
  simp only [recordTaken, State.setAgree_agree]

theorem recordTaken_frame (s : State) :
    ChangesOnly [.agree, .banks, .chan, .hosts] s (recordTaken s) ∧
      (recordTaken s).chan.ops = s.chan.ops := by
  obtain ⟨hch, hops⟩ := recheckWaiters_frame (stagedLive s)
  simp only [recordTaken, State.setAgree_chan]
  exact ⟨((changesOnly_setAgree s _).trans' hch (by decide) (by decide)).trans
    ((changesOnly_setAgree _ _).mono (by decide)), hops⟩

/-- R44, R128: a sound bank's record when the waiters have been judged by the staged record. -/
theorem recordTaken_bank {s : State} {b : Bank} (hb : BankListsSound (s.bank b)) :
    (recordTaken s).bank b = { s.bank b with
        waiters := (s.bank b).waiters.filter fun x =>
          (rightOf s.agree.staged x.host b x.row).enough x.mode } ∧
      ∀ x ∈ (s.bank b).waiters, (rightOf s.agree.staged x.host b x.row).enough x.mode = false →
        (s.host x.host).tags[x.tag.val] = some .openLease →
        OpenAnswered .noRight ((recordTaken s).host x.host) x.tag := by
  obtain ⟨hbank, hans⟩ := recheckWaiters_bank (s := stagedLive s) (b := b) hb
  simp only [waiterShort, Bool.not_not, Bool.not_eq_true'] at hbank hans
  simp only [recordTaken, State.setAgree_bank, State.setAgree_host]
  exact ⟨hbank, fun x hx hshort htag => hans x hx hshort (.inl htag)⟩

theorem commitProposal_agree {s : State} {p : Proposal} (hp : s.agree.proposal = some p) :
    (commitProposal s).agree = appliedUnit s.agree := by
  have ha := (removeReason_agree .config (recordTaken s)).trans (recordTaken_agree s)
  rw [commitProposal_eq, judgeAccount_agree,
    resolveProposal_agree (p := p) _ (by rw [ha]; exact hp), ha]
  rfl

/-- R106, R128: with no waiter to judge and no pressure hold to begin, the commit is the
resolution. -/
theorem commitProposal_calm {s : State} {p : Proposal} (hp : s.agree.proposal = some p)
    (hn : noWaiters s) (hc : calm s s.agree.staged.threshold s.account.owed) :
    commitProposal s =
      ((notifyAttached (.proposalResolved p.number .applied (s.agree.epoch + 1#16)) s).setGate
        (s.gate.put .config false)).setAgree (appliedUnit s.agree) := by
  have htaken : recordTaken s = s.setAgree
      { s.agree with live := s.agree.staged, epoch := s.agree.epoch + 1#16 } := by
    rw [recordTaken, recheckWaiters_noWaiters (s := stagedLive s) hn]
    rfl
  have hleft : removeReason .config (recordTaken s) =
      (recordTaken s).setGate (s.gate.put .config false) := by
    rw [htaken]
    exact removeReason_noWaiters .config hn
  have hresolved : resolveProposal .applied (removeReason .config (recordTaken s)) =
      ((notifyAttached (.proposalResolved p.number .applied (s.agree.epoch + 1#16)) s).setGate
        (s.gate.put .config false)).setAgree (appliedUnit s.agree) := by
    rw [hleft, htaken]
    simp only [resolveProposal, State.setGate_agree, State.setAgree_agree, hp]
    rfl
  rw [commitProposal_eq, hresolved]
  exact judgeAccount_calm hc

/-- R11, R128: a bank's record and operation record are left as taking CONFIG out of the gate leaves
them. -/
theorem commitProposal_leases (s : State) :
    SameLeases (removeReason .config (recordTaken s)) (commitProposal s) := by
  rw [commitProposal_eq]
  exact (sameLeases_resolveProposal _ _).trans (sameLeases_judgeAccount _)

/-- R128: once the waiters have been judged, the commit takes back no answer. -/
theorem commitProposal_notes (s : State) (g : HostId) :
    NotesOnly ((recordTaken s).host g) ((commitProposal s).host g) := by
  rw [commitProposal_eq]
  exact (((unitMoves_removeReason .config _).trans (unitMoves_resolveProposal _ _)).trans
    (unitMoves_judgeAccount _)).2 g

/-- R11, R44: with the gate then empty a bank is served from the queue that is left. -/
theorem commitProposal_serves {s : State} {b : Bank} (hc : s.gate.config = true)
    (hg : s.gate.put .config false = ⟨false, false, false, false⟩) :
    ServedTo s.now ((recordTaken s).bank b) (s.op b) ((commitProposal s).bank b)
      ((commitProposal s).op b) := by
  obtain ⟨hframe, hops⟩ := recordTaken_frame s
  have hgate : (recordTaken s).gate = s.gate := hframe .gate (by decide)
  have hnow : (recordTaken s).now = s.now := hframe .now (by decide)
  have hop : (recordTaken s).op b = s.op b := by simp only [State.op, hops]
  have hne : s.gate ≠ ⟨false, false, false, false⟩ := fun e => by simp [e] at hc
  obtain ⟨-, -, -, hserved⟩ := removeReason_serves (s := recordTaken s) (r := .config)
    (by rw [hgate]; exact hne) (by rw [hgate]; exact hg)
  simpa only [(commitProposal_leases s).bank, (commitProposal_leases s).op, hnow, hop]
    using hserved b

/-- R11, R44: with another reason left in the gate no queue is served. -/
theorem commitProposal_keeps {s : State} {b : Bank}
    (hg : s.gate.put .config false ≠ ⟨false, false, false, false⟩) :
    (commitProposal s).bank b = (recordTaken s).bank b ∧ (commitProposal s).op b = s.op b := by
  obtain ⟨hframe, hops⟩ := recordTaken_frame s
  have hgate : (recordTaken s).gate = s.gate := hframe .gate (by decide)
  have hop : (recordTaken s).op b = s.op b := by simp only [State.op, hops]
  have hleft := removeReason_stays (s := recordTaken s) .config (by rw [hgate]; exact hg)
  simp only [(commitProposal_leases s).bank, (commitProposal_leases s).op, hleft,
    State.setGate_bank, State.setGate_op, hop, and_self]

/-- Settles O48: an apply begins at its first step; the commit is the resolution where nobody waits,
and judges and serves the queues bank by bank where somebody does. -/
theorem applyBeginsAndCommits : Obligations.ApplyBeginsAndCommits := by
  intro s p hp
  refine ⟨fun hs hb => ⟨beginApply s, ?_, changesOnly_beginApply s, beginApply_begun hp⟩,
    fun hs hstep => ?_⟩
  · have hr : s.drainReady = true := by simp [State.drainReady, hs, (allClosed_iff s).mpr hb]
    simp [exec, execDrainComplete, hr]
  have hexec : exec .commit s = .next (commitProposal s) := by
    have hr : s.commitReady = true := by simp [State.commitReady, hs, hstep]
    simp [exec, execCommit, hr]
  refine ⟨fun hn hc => ⟨_, hexec, ?_⟩,
    ⟨_, hexec, commitProposal_agree hp, fun b stay hb hstay => ?_⟩⟩
  · rw [commitProposal_calm hp hn hc]
    exact ⟨((changesOnly_notifyEach _ s).trans' (changesOnly_setGate _ _) (by decide)
      (by decide)).trans ((changesOnly_setAgree _ _).mono (by decide)), rfl, rfl,
      fun g => notifyAttached_host _ s g⟩
  · obtain ⟨hbank, hans⟩ := recordTaken_bank hb
    rw [← hstay] at hbank
    refine ⟨fun hc hg => hbank ▸ commitProposal_serves hc hg,
      fun hg => hbank ▸ commitProposal_keeps hg, fun x hx hgone htag => ?_⟩
    have hshort : (rightOf s.agree.staged x.host b x.row).enough x.mode = false := by
      simpa [hstay, hx] using hgone
    exact (hans x hx hshort htag).notesOnly (commitProposal_notes s x.host)

end Sys2Proof.Configuration
end

section
/-! PROOFS. The operations that leave the transfer list, the intake and the bytes of the DRAM alone:
those of every block beside the transfer engine, but for the cancellations of a revocation. -/

namespace Sys2Proof.Transfers

open Sys2Proof Sys2Proof.Machine Sys2Proof.Safety Sys2Proof.Leases
  Sys2Proof.Configuration

/-- The transfer list, the intake and the bytes of the DRAM are the same. -/
def SameTransfers (s t : State) : Prop := t.xfer = s.xfer ∧ t.dram = s.dram

namespace SameTransfers

theorem refl (s : State) : SameTransfers s s := ⟨rfl, rfl⟩

theorem trans {s t u : State} (h : SameTransfers s t) (k : SameTransfers t u) :
    SameTransfers s u := ⟨k.1.trans h.1, k.2.trans h.2⟩

/-- An operation that follows an update of other parts. -/
theorem after {s t u : State} (k : SameTransfers t u) (h : SameTransfers s t) :
    SameTransfers s u := h.trans k

theorem of_changes {l : List Part} {s t : State} (h : ChangesOnly l s t)
    (hx : Part.xfer ∉ l) (hd : Part.dram ∉ l) : SameTransfers s t :=
  ⟨h .xfer hx, h .dram hd⟩

theorem of_unit {s t : State} (h : UnitMoves s t) : SameTransfers s t := 
  of_changes h.1 (by decide) (by decide)

theorem foldl {ι : Type} {f : State → ι → State} (hf : ∀ s i, SameTransfers s (f s i))
    (l : List ι) (s : State) : SameTransfers s (l.foldl f s) :=
  foldl_rel refl (fun _ _ _ => trans) hf l s

end SameTransfers

/-! ## Answers, offers and gate reasons -/

theorem sameTransfers_answer (h : HostId) (tag : Tag) (st : Status) (p : Payload) (s : State) :
    SameTransfers s (answer h tag st p s) := by
  rw [answer_eq]
  exact ⟨rfl, rfl⟩

theorem sameTransfers_answerStatus (h : HostId) (tag : Tag) (st : Status) (s : State) :
    SameTransfers s (answerStatus h tag st s) := sameTransfers_answer h tag st .none s

theorem sameTransfers_answerOpt (h : HostId) (tag : Option Tag) (st : Status) (s : State) :
    SameTransfers s (answerOpt h tag st s) := by
  rw [answerOpt_eq]
  exact ⟨rfl, rfl⟩

theorem sameTransfers_notifyAttached (n : Notification) (s : State) :
    SameTransfers s (notifyAttached n s) := ⟨rfl, rfl⟩

theorem sameTransfers_removeReason (r : GateReason) (s : State) :
    SameTransfers s (removeReason r s) := .of_unit (unitMoves_removeReason r s)

theorem sameTransfers_judgeAccount (s : State) : SameTransfers s (judgeAccount s) :=
  .of_unit (unitMoves_judgeAccount s)

theorem sameTransfers_makeAccountOffer (s : State) : SameTransfers s (makeAccountOffer s) := by
  unfold makeAccountOffer
  split <;> exact ⟨rfl, rfl⟩

theorem sameTransfers_afterAccountOp (s : State) : SameTransfers s (afterAccountOp s) := by
  unfold afterAccountOp
  split
  · exact sameTransfers_makeAccountOffer s
  · split
    · split
      · exact sameTransfers_makeAccountOffer s
      · exact .after (sameTransfers_removeReason .refresh _) ⟨rfl, rfl⟩
    · exact sameTransfers_removeReason .refresh s

theorem sameTransfers_endLock (s : State) : SameTransfers s (endLock s) := by
  have hj : ∀ q a, SameTransfers s
      (judgeAccount ((offer .longCal .sequencer (s.setSeq q)).setAccount a)) := fun q a =>
    .after (sameTransfers_judgeAccount _) ⟨rfl, rfl⟩
  unfold endLock
  dsimp only
  split
  · exact (hj _ _).trans (sameTransfers_makeAccountOffer _)
  · exact hj _ _

/-! ## Holders and waiters -/

theorem sameTransfers_removeHolder (b : Bank) (h : HostId) (s : State) :
    SameTransfers s (removeHolder b h s) := by
  rw [removeHolder_eq]
  exact .of_changes (changesOnly_holderGone b h s) (by decide) (by decide)

theorem sameTransfers_withdrawWaiter (b : Bank) (h : HostId) (st : Status) (s : State) :
    SameTransfers s (withdrawWaiter b h st s) := by
  unfold withdrawWaiter
  split
  · exact .refl s
  · exact .after (sameTransfers_answerStatus _ _ _ _) ⟨rfl, rfl⟩

theorem sameTransfers_dropWaiter (b : Bank) (h : HostId) (s : State) :
    SameTransfers s (dropWaiter b h s) := by
  unfold dropWaiter
  split
  · exact ⟨rfl, rfl⟩
  · exact .refl s

theorem sameTransfers_finishHolder (b : Bank) (h : HostId) (s : State) :
    SameTransfers s (finishHolder b h s) := by
  have hr := sameTransfers_removeHolder b h s
  unfold finishHolder
  split
  · exact .refl s
  · split
    · split
      · exact .refl s
      · exact hr.trans (sameTransfers_answerOpt _ _ _ _)
      · exact hr
      · exact hr.trans (.after (sameTransfers_answerOpt _ _ _ _) ⟨rfl, rfl⟩)
    · exact .refl s

theorem sameTransfers_closeHolder (b : Bank) (h : HostId) (tag : Option Tag) (s : State) :
    SameTransfers s (closeHolder b h tag s) := by
  unfold closeHolder
  split
  · exact .refl s
  · exact .after (sameTransfers_finishHolder b h _) ⟨rfl, rfl⟩

theorem sameTransfers_withdrawAndClose (h : HostId) (s : State) :
    SameTransfers s (withdrawAndClose h s) := by
  refine .foldl (fun u b => ?_) allBanks s
  have hw := sameTransfers_withdrawWaiter b h .withdrawn u
  dsimp only
  split
  · exact hw
  · split
    · exact hw.trans (sameTransfers_closeHolder b h none _)
    · exact hw

theorem sameTransfers_settleHolder (b : Bank) (h : HostId) (s : State) :
    SameTransfers s (settleHolder b h s) := by
  have hset : ∀ x st tag, SameTransfers s (answerStatus h tag st (setHolder b h x s)) :=
    fun x st tag => .after (sameTransfers_answerStatus _ _ _ _) ⟨rfl, rfl⟩
  have hr := sameTransfers_removeHolder b h s
  unfold settleHolder
  split
  · exact .refl s
  · split
    · exact hset _ _ _
    · exact (hset _ _ _).trans (sameTransfers_finishHolder b h _)
    · exact hr
    · exact (hr.trans (sameTransfers_answerStatus _ _ _ _)).trans (sameTransfers_answerOpt _ _ _ _)

theorem sameTransfers_landActivate (b : Bank) (row : Row) (s : State) :
    SameTransfers s (landActivate b row s) :=
  .after (.foldl (fun u (x : Holder) => sameTransfers_settleHolder b x.host u) _ _) ⟨rfl, rfl⟩

theorem sameTransfers_serveBank (b : Bank) (s : State) : SameTransfers s (serveBank b s) :=
  .of_changes (serveBank_frame b s).1 (by decide) (by decide)

theorem sameTransfers_landPrecharge (b : Bank) (s : State) :
    SameTransfers s (landPrecharge b s) := .after (sameTransfers_serveBank b _) ⟨rfl, rfl⟩

/-! ## Ports, standby and the agreement unit -/

theorem sameTransfers_completeJoins (s : State) : SameTransfers s (completeJoins s) := by
  unfold completeJoins attachJoining
  split
  · refine .after (.foldl (fun t h => ?_) _ _) ⟨rfl, rfl⟩
    split
    · exact (sameTransfers_answer _ _ _ _ _).trans ⟨rfl, rfl⟩
    · exact ⟨rfl, rfl⟩
  · exact .refl s

theorem sameTransfers_refuseJoining (s : State) : SameTransfers s (refuseJoining s) := by
  refine .foldl (fun u h => ?_) allHosts s
  split
  · exact (sameTransfers_answerOpt _ _ _ _).trans ⟨rfl, rfl⟩
  · exact .refl u

theorem sameTransfers_completeLeave (h : HostId) (s : State) :
    SameTransfers s (completeLeave h s) :=
  .of_changes (completeLeave_changes h s) (by decide) (by decide)

theorem sameTransfers_offerExit (s : State) : SameTransfers s (offerExit s) := by
  unfold offerExit
  split <;> exact ⟨rfl, rfl⟩

theorem sameTransfers_exitCause (s : State) : SameTransfers s (exitCause s) := by
  unfold exitCause
  split
  · exact .refl s
  · exact .refl s
  · split
    · exact .after (sameTransfers_offerExit _) ⟨rfl, rfl⟩
    · exact .after (sameTransfers_removeReason .standby _) ⟨rfl, rfl⟩
  · exact sameTransfers_offerExit s

theorem sameTransfers_detachAgreement (h : HostId) (s : State) :
    SameTransfers s (detachAgreement h s) := .of_unit (unitMoves_detachAgreement h s)

theorem sameTransfers_landEnter (s : State) : SameTransfers s (landEnter s) := by
  have hstop : ∀ u, SameTransfers u (notifyAttached .standbyEntered (stopAccount u)) := fun u =>
    .after (sameTransfers_notifyAttached _ _)
      (.after (sameTransfers_removeReason .refresh _) ⟨rfl, rfl⟩)
  unfold landEnter
  dsimp only
  split
  · exact .after (sameTransfers_offerExit _) (.after (hstop _) ⟨rfl, rfl⟩)
  · exact .after (hstop _) ⟨rfl, rfl⟩

theorem sameTransfers_landExit (s : State) : SameTransfers s (landExit s) := by
  have hgate : ∀ x, SameTransfers s (removeReason .standby ((landMaint .active s).setStandby x)) :=
    fun x => .after (sameTransfers_removeReason .standby _) ⟨rfl, rfl⟩
  have hjudge : ∀ u, SameTransfers u
      (notifyAttached .standbyLeft (judgeAccount (restartInterval u))) := fun u =>
    .after (sameTransfers_notifyAttached _ _) (.after (sameTransfers_judgeAccount _) ⟨rfl, rfl⟩)
  exact (hgate _).trans (hjudge _)

theorem sameTransfers_commitProposal (s : State) : SameTransfers s (commitProposal s) := by
  have hr : SameTransfers s (recordTaken s) :=
    .of_changes (recordTaken_frame s).1 (by decide) (by decide)
  rw [commitProposal_eq]
  exact hr.trans (.of_unit (((unitMoves_removeReason .config _).trans
    (unitMoves_resolveProposal _ _)).trans (unitMoves_judgeAccount _)))

/-! ## Start-up and lane training -/

theorem sameTransfers_laneTrained (w : Sweep) (s : State) : SameTransfers s (laneTrained w s) := by
  have hatt : ∀ lane kind q, SameTransfers s (beginAttempt lane kind (s.setSeq q)) :=
    fun lane kind q => .after (.of_unit (unitMoves_beginAttempt lane kind _)) ⟨rfl, rfl⟩
  unfold laneTrained
  split
  · dsimp only
    split
    · exact .after (sameTransfers_completeJoins _)
        (.after (sameTransfers_removeReason .startup _) ⟨rfl, rfl⟩)
    · exact hatt _ _ _
  · split
    · exact .refl s
    · dsimp only
      split
      · exact .after (.of_unit (unitMoves_applyBurstOrder _)) ⟨rfl, rfl⟩
      · exact hatt _ _ _

theorem sameTransfers_attemptEnds (w : Sweep) (s : State) : SameTransfers s (attemptEnds w s) := by
  have hatt : ∀ kind, SameTransfers s (beginAttempt w.lane kind s) := fun kind =>
    .of_unit (unitMoves_beginAttempt w.lane kind s)
  unfold attemptEnds
  split
  · split
    · exact hatt _
    · exact .after (sameTransfers_refuseJoining _) ⟨rfl, rfl⟩
  · split
    · exact .refl s
    · split
      · exact hatt _
      · exact .after (.of_unit (unitMoves_abandon _ _)) ⟨rfl, rfl⟩

theorem sameTransfers_actOnSample (sample : Bool) (w : Sweep) (s : State) :
    SameTransfers s (actOnSample sample w s) := by
  unfold actOnSample
  split
  · exact sameTransfers_laneTrained w s
  · split
    · exact sameTransfers_attemptEnds w s
    · exact .after (.of_unit (unitMoves_offerStep _)) ⟨rfl, rfl⟩

theorem sameTransfers_landTrainStep (lane : Lane) (sample : Bool) (s : State) :
    SameTransfers s (landTrainStep lane sample s) := by
  have hl : ∀ q, SameTransfers s ((landMaint .active s).setSeq q) := fun q => ⟨rfl, rfl⟩
  have hr : ∀ u, SameTransfers s u → SameTransfers s (restoreCapture lane u) := fun u hu => hu
  refine hr _ ?_
  split
  · exact hl _
  · exact (hl _).trans (sameTransfers_actOnSample sample _ _)

theorem sameTransfers_landModeLoad (m : ModeSetting) (by_ : Requester) (s : State) :
    SameTransfers s (landModeLoad m by_ s) := by
  have hl : SameTransfers s (loadSetting m (landMaint .active s)) := by cases m <;> exact ⟨rfl, rfl⟩
  unfold landModeLoad countModeLoad
  dsimp only
  split
  · split <;> exact hl
  · exact hl

/-! ## Requests and frames -/

theorem sameTransfers_discardFrame (h : HostId) (f : FrameHdr) (s : State) :
    SameTransfers s (discardFrame h f s) := by
  unfold discardFrame
  split <;> exact ⟨rfl, rfl⟩

theorem sameTransfers_takeClose (h : HostId) (tag : Tag) (bank : Byte) (s : State) :
    SameTransfers s (takeClose h tag bank s) := by
  have hans := fun st => sameTransfers_answerStatus h tag st s
  unfold takeClose closeAsHolder closeAsWaiter
  split
  · exact hans _
  · split
    · split
      · exact sameTransfers_closeHolder _ h (some tag) s
      · exact ⟨rfl, rfl⟩
      · exact hans _
      · exact hans _
    · split
      · exact (sameTransfers_withdrawWaiter _ h .withdrawn s).trans
          (sameTransfers_answerStatus _ _ _ _)
      · exact hans _

theorem sameTransfers_takeJoin (h : HostId) (tag : Tag) (s : State) :
    SameTransfers s (takeJoin h tag s) := by
  have hans := fun st => sameTransfers_answerStatus h tag st s
  unfold takeJoin
  split
  · split
    · exact hans _
    · exact .after (sameTransfers_completeJoins _) (.after (sameTransfers_exitCause _) ⟨rfl, rfl⟩)
  all_goals exact hans _

theorem sameTransfers_takeLeave (h : HostId) (s : State) : SameTransfers s (takeLeave h s) := by
  have hw : SameTransfers s (withdrawAndClose h (s.setPort h .leaving)) :=
    .after (sameTransfers_withdrawAndClose h _) ⟨rfl, rfl⟩
  have hpark : ∀ u, SameTransfers u (completeLeave h (leavePark h u)) := fun u =>
    .after (sameTransfers_completeLeave h _) ⟨rfl, rfl⟩
  exact (hw.trans (sameTransfers_detachAgreement h _)).trans (hpark _)

theorem sameTransfers_takePropose (h : HostId) (tag : Tag) (base : BitVec 16)
    (items : List RawItem) (s : State) : SameTransfers s (takePropose h tag base items s) := by
  have hans := fun st => sameTransfers_answerStatus h tag st s
  have hans' : ∀ a p, SameTransfers s (answer h tag .ok p (s.setAgree a)) := fun a p =>
    .after (sameTransfers_answer h tag .ok p _) ⟨rfl, rfl⟩
  have hjudge : ∀ l n u, SameTransfers u (judgeBallot (notifySet l n u)) := fun l n u =>
    .after (.of_unit (unitMoves_judgeBallot _)) ⟨rfl, rfl⟩
  have hpost : ∀ l, SameTransfers s (postProposal h tag l s) := fun l =>
    (hans' _ _).trans (hjudge _ _ _)
  unfold takePropose
  split
  · exact hans _
  · split
    · exact hans _
    · split
      · exact hans _
      · split
        · exact sameTransfers_answer _ _ _ _ s
        · exact hpost _

theorem sameTransfers_takeVote (h : HostId) (tag : Tag) (number : Seq) (accept : Bool) (s : State) :
    SameTransfers s (takeVote h tag number accept s) := by
  have hans := fun st => sameTransfers_answerStatus h tag st s
  unfold takeVote castVote
  split
  · split
    · exact hans _
    · dsimp only
      split
      · exact .trans (hans .ok) (.after (.of_unit (unitMoves_judgeBallot _)) ⟨rfl, rfl⟩)
      · exact (hans _).trans (.of_unit (unitMoves_abandon _ _))
  · exact hans _

theorem sameTransfers_takePark (h : HostId) (tag : Tag) (s : State) :
    SameTransfers s (takePark h tag s) := by
  unfold takePark
  split
  · exact sameTransfers_answerStatus _ _ _ s
  · exact .after (sameTransfers_answerStatus _ _ _ _) ⟨rfl, rfl⟩

theorem sameTransfers_takeUnpark (h : HostId) (tag : Tag) (s : State) :
    SameTransfers s (takeUnpark h tag s) := by
  have hans := sameTransfers_answerStatus h tag .ok s
  unfold takeUnpark
  dsimp only
  split
  · exact (hans.trans (u := leavePark h _) ⟨rfl, rfl⟩).trans (sameTransfers_exitCause _)
  · exact hans

theorem sameTransfers_takeQueryBank (h : HostId) (tag : Tag) (bank : Byte) (s : State) :
    SameTransfers s (takeQueryBank h tag bank s) := by
  unfold takeQueryBank
  split <;> exact sameTransfers_answer _ _ _ _ s

theorem sameTransfers_takeNoteAck (h : HostId) (n : Seq) (s : State) :
    SameTransfers s (takeNoteAck h n s) := by
  unfold takeNoteAck
  dsimp only
  split <;> exact ⟨rfl, rfl⟩

theorem sameTransfers_countIdle (h : HostId) (s : State) : SameTransfers s (countIdle h s) := by
  unfold countIdle
  dsimp only
  split <;> exact ⟨rfl, rfl⟩

theorem sameTransfers_clearDrainDeadline (s : State) :
    SameTransfers s (clearDrainDeadline s) := by
  unfold clearDrainDeadline
  split <;> exact ⟨rfl, rfl⟩

end Sys2Proof.Transfers
end

section
/-! PROOFS. The laws of the transfer list and the intake (R50, R55, R56, R59), kept by every operation of
the transfer engine and by every revocation. In the middle of an event the intake may wait while the list
has room: `EntriesSound` leaves that law out, and the intake that is taken from restores it. -/

namespace Sys2Proof.Transfers

open Sys2Proof Sys2Proof.Machine Sys2Proof.Safety Sys2Proof.Leases

/-! ## What a step keeps -/

/-- R50, R55, R56: the laws of the transfers, less the one that no request waits while there is room. -/
def EntriesSound (s : State) : Prop :=
  s.xfer.list.length ≤ 64 ∧ (∀ e ∈ s.xfer.list, TransferSound e) ∧
    ∀ q ∈ s.xfer.intake, q.data.length = dataLength q.kind q.bursts.toNat 0

theorem transfersSound_iff (s : State) :
    TransfersSound s ↔ EntriesSound s ∧ (s.xfer.list.length < 64 → s.xfer.intake = []) := by
  simp only [TransfersSound, EntriesSound, and_assoc]

/-- A step that leaves the DRAM alone and keeps the transfers sound but for the room in the list. -/
def KeepsEntries (s t : State) : Prop := t.dram = s.dram ∧ (EntriesSound s → EntriesSound t)

/-- A step that keeps the laws of the DRAM and of the transfer engine. -/
def Keeps (s t : State) : Prop :=
  (MemorySound s → MemorySound t) ∧ (TransfersSound s → TransfersSound t)

theorem KeepsEntries.refl (s : State) : KeepsEntries s s := ⟨rfl, id⟩

theorem KeepsEntries.trans {s t u : State} (h : KeepsEntries s t) (k : KeepsEntries t u) :
    KeepsEntries s u := ⟨k.1.trans h.1, fun hs => k.2 (h.2 hs)⟩

theorem KeepsEntries.foldl {ι : Type} {f : State → ι → State} (hf : ∀ s i, KeepsEntries s (f s i))
    (l : List ι) (s : State) : KeepsEntries s (l.foldl f s) :=
  foldl_rel KeepsEntries.refl (fun _ _ _ => KeepsEntries.trans) hf l s

theorem Keeps.refl (s : State) : Keeps s s := ⟨id, id⟩

theorem Keeps.trans {s t u : State} (h : Keeps s t) (k : Keeps t u) : Keeps s u :=
  ⟨fun hs => k.1 (h.1 hs), fun hs => k.2 (h.2 hs)⟩

theorem SameTransfers.entries {s t : State} (h : SameTransfers s t) : KeepsEntries s t :=
  ⟨h.2, by simp only [EntriesSound, h.1]; exact id⟩

theorem SameTransfers.keeps {s t : State} (h : SameTransfers s t) : Keeps s t :=
  ⟨by simp only [MemorySound, h.2]; exact id, by simp only [TransfersSound, h.1]; exact id⟩

/-- An operation that follows an update of other parts. -/
theorem Keeps.after {s t u : State} (k : Keeps t u) (h : SameTransfers s t) : Keeps s u :=
  h.keeps.trans k

/-! ## The checks of a request (R50, R53) -/

theorem rangeError_iff (n : Byte) (col : BitVec 16) : rangeError n col = true ↔ ¬InRange n col := by
  simp only [rangeError, InRange, Bool.or_eq_true, decide_eq_true_eq]
  omega

/-- R53: the checks pass for an ACTIVE holder, in a mode that allows the kind, and in range. -/
theorem transferRefusal_none_iff (q : TransferReq) (r : BankRecord) :
    transferRefusal q r = none ↔
      (∃ x, r.holder q.host = some x ∧ x.status = .active) ∧
        ¬(q.kind = .write ∧ r.mode = some .shared) ∧ InRange q.bursts q.col := by
  unfold transferRefusal
  split
  next hn => simp [hn]
  next x hx =>
    split
    next hs => simp [hx, hs]
    next hs => simp [hx, hs]
    next hs =>
      have hr := rangeError_iff q.bursts q.col
      split
      next hm => simp [hm]
      next hm =>
        split
        next he => simp [hr.mp he]
        next he =>
          have hin : InRange q.bursts q.col := not_not.mp fun hn => he (hr.mpr hn)
          simpa only [hx, hin, hm, true_iff, not_false_eq_true, and_true] using ⟨x, rfl, hs⟩

/-- R55: a request that passes its checks makes a sound entry. -/
theorem transferSound_entry {q : TransferReq} (b : Bank) (row : Row) (hr : InRange q.bursts q.col)
    (hd : q.data.length = dataLength q.kind q.bursts.toNat 0) : TransferSound (q.entry b row) := by
  obtain ⟨h1, h8, hcol, hblock⟩ := hr
  refine ⟨h1, h8, ?_, Nat.le_refl 0, Nat.zero_le _, hd⟩
  have hlow : (q.col.setWidth 10).toNat = q.col.toNat := by
    rw [BitVec.toNat_setWidth, Nat.mod_eq_of_lt (by omega)]
  simpa only [TransferReq.entry, firstBlock, hlow] using hblock

/-- R53: a request that is checked while there is room is refused or makes a sound entry. -/
theorem entriesSound_checkTransfer {q : TransferReq} {s : State} (hl : s.xfer.list.length < 64)
    (hd : q.data.length = dataLength q.kind q.bursts.toNat 0) (hs : EntriesSound s) :
    EntriesSound (checkTransfer q s) := by
  have hans := fun st => (sameTransfers_answerStatus q.host q.tag st s).entries.2 hs
  unfold checkTransfer
  split
  · exact hans _
  next b _ =>
    split
    · exact hans _
    next hn =>
      obtain ⟨-, -, hr⟩ := (transferRefusal_none_iff q (s.bank b)).mp hn
      obtain ⟨-, he, hi⟩ := hs
      refine ⟨?_, fun e hm => ?_, hi⟩
      · simp only [State.setList_xfer, List.length_append, List.length_singleton]
        omega
      · rcases List.mem_append.mp hm with hm | hm
        · exact he e hm
        · rw [List.mem_singleton.mp hm]
          exact transferSound_entry b _ hr hd

theorem changesOnly_answerStatus (h : HostId) (tag : Tag) (st : Status) (s : State) :
    ChangesOnly [.hosts] s (answerStatus h tag st s) := by
  rw [answerStatus_eq]
  exact changesOnly_setHost s h _

theorem changesOnly_checkTransfer (q : TransferReq) (s : State) :
    ChangesOnly [.xfer, .hosts] s (checkTransfer q s) := by
  have hans := fun st => (changesOnly_answerStatus q.host q.tag st s).mono
    (m := [.xfer, .hosts]) (by decide)
  unfold checkTransfer
  split
  · exact hans _
  · split
    · exact hans _
    · exact (changesOnly_setList s _).mono (by decide)

/-! ## The intake (R56) -/

theorem changesOnly_takeFromIntake (s : State) :
    ChangesOnly [.xfer, .hosts] s (takeFromIntake s) := by
  unfold takeFromIntake
  split
  · split
    · exact .refl _ s
    · exact ((changesOnly_setIntake s _).mono (by decide)).trans (changesOnly_checkTransfer _ _)
  · exact .refl _ s

theorem changesOnly_takeIntake (s : State) : ChangesOnly [.xfer, .hosts] s (takeIntake s) :=
  foldl_rel (ChangesOnly.refl _) (fun _ _ _ => ChangesOnly.trans)
    (fun s _ => changesOnly_takeFromIntake s) s.xfer.intake s

theorem entriesSound_takeFromIntake {s : State} (hs : EntriesSound s) :
    EntriesSound (takeFromIntake s) := by
  by_cases hstay : 64 ≤ s.xfer.list.length ∨ s.xfer.intake = []
  · rwa [takeFromIntake_stays hstay]
  · obtain ⟨hl, hne⟩ := not_or.mp hstay
    obtain ⟨q, rest, hi⟩ := List.exists_cons_of_ne_nil hne
    obtain ⟨hlen, he, hdata⟩ := hs
    rw [takeFromIntake_takes (not_le.mp hl) hi]
    exact entriesSound_checkTransfer (s := s.setIntake rest) (not_le.mp hl) (hdata q (by simp [hi]))
      ⟨hlen, he, fun r hr => hdata r (by simp [hi, show r ∈ rest from hr])⟩

theorem keepsEntries_takeIntake (s : State) : KeepsEntries s (takeIntake s) :=
  KeepsEntries.foldl
    (fun s _ => ⟨changesOnly_takeFromIntake s .dram (by decide), entriesSound_takeFromIntake⟩)
    s.xfer.intake s

/-- R56: the intake is taken from until the list is full or the intake is empty. -/
theorem takeIntake_fills (s : State) :
    (takeIntake s).xfer.list.length < 64 → (takeIntake s).xfer.intake = [] := by
  induction hi : s.xfer.intake generalizing s with
  | nil => simp [takeIntake_stays (.inr hi), hi]
  | cons q rest ih =>
    by_cases hl : s.xfer.list.length < 64
    · rw [takeIntake_takes hl hi]
      exact ih _ (by simp)
    · rw [takeIntake_stays (.inl (not_lt.mp hl))]
      exact fun h => absurd h hl

/-- R56 (log 35): an event that ends with the intake taken from restores the law of the intake. -/
theorem KeepsEntries.thenIntake {s t : State} (h : KeepsEntries s t) : Keeps s (takeIntake t) := by
  have hk := h.trans (keepsEntries_takeIntake t)
  exact ⟨by simp only [MemorySound, hk.1]; exact id, fun hs =>
    (transfersSound_iff _).mpr ⟨hk.2 ((transfersSound_iff s).mp hs).1, takeIntake_fills t⟩⟩

theorem keeps_takeIntake (s : State) : Keeps s (takeIntake s) := (KeepsEntries.refl s).thenIntake

/-- R56: a request handed over joins the list through its checks, or waits while there is no room. -/
theorem keeps_handTransfer {q : TransferReq} (s : State)
    (hd : q.data.length = dataLength q.kind q.bursts.toNat 0) : Keeps s (handTransfer q s) := by
  unfold handTransfer
  split
  next hroom =>
    obtain ⟨hl, hi⟩ := hroom
    have hdram : (checkTransfer q s).dram = s.dram :=
      changesOnly_checkTransfer q s .dram (by decide)
    refine ⟨by simp only [MemorySound, hdram]; exact id, fun hs => (transfersSound_iff _).mpr
      ⟨entriesSound_checkTransfer hl hd ((transfersSound_iff s).mp hs).1, fun _ => ?_⟩⟩
    rw [checkTransfer_intake, hi]
  next hfull =>
    refine ⟨id, fun ⟨hlen, he, hdata, hempty⟩ => ⟨hlen, he, fun r hr => ?_, fun hl => ?_⟩⟩
    · rcases List.mem_append.mp hr with hr | hr
      · exact hdata r hr
      · rw [List.mem_singleton.mp hr]
        exact hd
    · exact absurd ⟨hl, hempty hl⟩ hfull

theorem keeps_transferRequest {q : TransferReq} (s : State)
    (hd : q.data.length = dataLength q.kind q.bursts.toNat 0) : Keeps s (transferRequest q s) := by
  unfold transferRequest
  split
  · exact keeps_handTransfer s hd
  · exact keeps_handTransfer s hd
  all_goals exact (sameTransfers_answerStatus _ _ _ s).keeps

/-! ## Cancellations and revocations (R29, R30, R62, R63) -/

/-- Entries that leave the list. -/
theorem keepsEntries_sublist {s : State} {l : List Transfer} (hl : l.Sublist s.xfer.list) :
    KeepsEntries s (s.setList l) :=
  ⟨rfl, fun ⟨hlen, he, hi⟩ => ⟨hl.length_le.trans hlen, fun e hm => he e (hl.subset hm), hi⟩⟩

/-- R63: the mark on a cancelled entry is no matter of its soundness. -/
theorem keepsEntries_markCancelled (h : HostId) (b : Bank) (s : State) :
    KeepsEntries s (s.setList (markCancelled s.xfer.list h b)) := by
  refine ⟨rfl, fun ⟨hlen, he, hi⟩ => ⟨?_, fun e hm => ?_, hi⟩⟩
  · simpa only [State.setList_xfer, markCancelled, List.length_map] using hlen
  · obtain ⟨e', he', rfl⟩ := List.mem_map.mp hm
    have hs : TransferSound e' := he e' he'
    split <;> exact hs

theorem keepsEntries_cancelUnbegun (b : Bank) (h : HostId) (s : State) :
    KeepsEntries s (cancelUnbegun b h s) := by
  rw [cancelUnbegun_eq]
  exact (keepsEntries_sublist List.filter_sublist).trans (SameTransfers.entries ⟨rfl, rfl⟩)

theorem keepsEntries_cancelLost (b : Bank) (h : HostId) (s : State) :
    KeepsEntries s (cancelLost b h s) :=
  (keepsEntries_sublist List.filter_sublist).trans
    (keepsEntries_markCancelled h b (s.setList (s.xfer.list.filter fun e => !e.unbegunOf h b)))

theorem keepsEntries_revoke (b : Bank) (h : HostId) (r : RevokeReason) (s : State) :
    KeepsEntries s (revoke b h r s) := by
  have hset : ∀ x, KeepsEntries s (setHolder b h x s) := fun x => SameTransfers.entries ⟨rfl, rfl⟩
  have hfin := fun u => (sameTransfers_finishHolder b h u).entries
  unfold revoke
  split
  · exact .refl s
  · split
    · exact ((hset _).trans (keepsEntries_cancelLost b h _)).trans (hfin _)
    · exact .refl s
    · exact ((hset _).trans (keepsEntries_cancelUnbegun b h _)).trans (hfin _)

theorem keeps_revokeOverstayed (b : Bank) (s : State) : Keeps s (revokeOverstayed b s) := by
  unfold revokeOverstayed
  dsimp only
  split
  · exact .refl s
  · exact (KeepsEntries.foldl
      (fun u (x : Holder) => keepsEntries_revoke b x.host .holdExpired u) _ s).thenIntake

theorem keeps_massRevoke (r : RevokeReason) (s : State) : Keeps s (massRevoke r s) :=
  (KeepsEntries.foldl (fun u b => KeepsEntries.foldl
    (fun v (x : Holder) => keepsEntries_revoke b x.host r v) _ u) allBanks s).thenIntake

/-- Requests that leave the intake. -/
theorem keepsEntries_setIntake {s : State} {l : List TransferReq}
    (hl : ∀ q ∈ l, q ∈ s.xfer.intake) : KeepsEntries s (s.setIntake l) :=
  ⟨rfl, fun ⟨hlen, he, hi⟩ => ⟨hlen, he, fun q hq => hi q (hl q hq)⟩⟩

theorem keepsEntries_tearDown (h : HostId) (s : State) : KeepsEntries s (tearDown h s) :=
  (keepsEntries_setIntake fun _ hq => List.mem_of_mem_filter hq).trans
    (KeepsEntries.foldl (fun u b => (sameTransfers_dropWaiter b h u).entries.trans
      (keepsEntries_revoke b h .hostLost _)) allBanks _)

/-- R161: with the link goes what the host had in the list and in the intake. -/
theorem keeps_linkDown (h : HostId) (s : State) : Keeps s (linkDown h s) := by
  have hdown : ∀ x, KeepsEntries s (tearDown h (s.setHost h x)) := fun x =>
    (SameTransfers.entries (s := s) (t := s.setHost h x) ⟨rfl, rfl⟩).trans
      (keepsEntries_tearDown h _)
  have htell : ∀ u, KeepsEntries u (notifyAttached (.hostLeft h true) u) := fun u =>
    SameTransfers.entries ⟨rfl, rfl⟩
  have hpark : ∀ u, KeepsEntries u (leavePark h u) := fun u => SameTransfers.entries ⟨rfl, rfl⟩
  unfold linkDown
  dsimp only
  split
  · exact ((((hdown _).trans (sameTransfers_detachAgreement h _).entries).trans (hpark _)).trans
      (htell _)).thenIntake
  · exact ((hdown _).trans (htell _)).thenIntake
  all_goals exact SameTransfers.keeps ⟨rfl, rfl⟩

/-! ## Bursts (R58, R59) -/

/-- R58: the entry of a burst that is issued. -/
def issuedEntry (e : Transfer) : Transfer := { e with issued := e.issued + 1 }

/-- R58, R72: the state once the next burst of an entry has been issued, before a WRITE is answered. -/
def burstIssued (i : Nat) (e : Transfer) (s : State) : State :=
  { s with
    xfer := { s.xfer with list := s.xfer.list.set i (issuedEntry e) }
    chan := (bankOpIssued s e.bank { s.op e.bank with
      inFlight := match e.kind with | .read => .readBurst | .write => .writeBurst } 10).chan
    dram := match e.kind with
      | .read => s.dram
      | .write => writeBurstBytes s.placingOrder e e.issued s.dram }

/-- R58: the burst is issued, and the last burst of a WRITE that is not cancelled answers it. -/
theorem issueBurst_eq {i : Nat} {e : Transfer} {s : State} (he : s.xfer.list[i]? = some e) :
    issueBurst i s =
      if e.kind = .write ∧ e.issued + 1 = e.bursts ∧ e.cancelled = false then
        answerStatus e.host e.tag .ok (burstIssued i e s)
      else burstIssued i e s := by
  obtain ⟨host, tag, kind, bank, row, col, bursts, issued, completed, cancelled, data, enables⟩ := e
  simp only [issueBurst, he]
  cases kind with
  | read => rfl
  | write =>
    by_cases hlast : issued + 1 = bursts ∧ cancelled = false
    · rw [if_pos hlast, if_pos ⟨rfl, hlast⟩]
      rfl
    · rw [if_neg hlast, if_neg fun h => hlast h.2]
      rfl

/-- An entry of the list that becomes another sound one. -/
theorem transfersSound_setEntry {s t : State} {i : Nat} {e e' : Transfer} (hs : TransfersSound s)
    (he : s.xfer.list[i]? = some e) (hsound : TransferSound e → TransferSound e')
    (ht : t.xfer = { s.xfer with list := s.xfer.list.set i e' }) : TransfersSound t := by
  obtain ⟨hlen, hall, hdata, hempty⟩ := hs
  unfold TransfersSound
  simp only [ht, List.length_set]
  refine ⟨hlen, fun x hx => ?_, hdata, hempty⟩
  rcases List.mem_or_eq_of_mem_set hx with hx | rfl
  · exact hall x hx
  · exact hsound (hall e (List.mem_of_getElem? he))

theorem transferSound_issued {e : Transfer} (hlt : e.issued < e.bursts) (hs : TransferSound e) :
    TransferSound (issuedEntry e) := by
  obtain ⟨h1, h8, hblock, hci, -, hd⟩ := hs
  exact ⟨h1, h8, hblock, hci.trans (Nat.le_succ _), hlt, hd⟩

/-- R57: a burst that is ready to be issued is one that its entry has left. -/
theorem burstReadyAt_unissued {s : State} {i : Nat} {e : Transfer} (hr : s.burstReadyAt i = true)
    (he : s.xfer.list[i]? = some e) : e.issued < e.bursts := by
  simp only [State.burstReadyAt, he, State.burstCandidate, Transfer.unissued, Bool.and_eq_true,
    decide_eq_true_eq] at hr
  exact hr.1.1.1.1

theorem keeps_issueBurst {i : Nat} {s : State} (hr : s.burstReadyAt i = true) :
    Keeps s (issueBurst i s) := by
  cases he : s.xfer.list[i]? with
  | none =>
    rw [issueBurst, he]
    exact .refl s
  | some e =>
    have hissue : Keeps s (burstIssued i e s) := by
      refine ⟨fun hm => ?_, fun hs =>
        transfersSound_setEntry hs he (transferSound_issued (burstReadyAt_unissued hr he)) rfl⟩
      unfold MemorySound burstIssued
      cases e.kind with
      | read => exact hm
      | write => exact writeBurstBytes_wf _ _ _ _ hm
    rw [issueBurst_eq he]
    split
    · exact hissue.trans (sameTransfers_answerStatus _ _ _ _).keeps
    · exact hissue

theorem readBurstBytes_length (s : State) (e : Transfer) (n : Nat) :
    (readBurstBytes s e n).length = 32 := by
  simp [readBurstBytes, burstBytes]

/-- R55, R59: the entry counts the burst, and a READ gathers its 32 bytes. -/
theorem transferSound_completed {e : Transfer} {data : List Byte} (hlt : e.completed < e.issued)
    (hd : data.length = match e.kind with
      | .read => e.data.length + 32
      | .write => e.data.length)
    (hs : TransferSound e) : TransferSound (completedEntry e data) := by
  obtain ⟨h1, h8, hblock, -, hib, hlen⟩ := hs
  refine ⟨h1, h8, hblock, hlt, hib, ?_⟩
  unfold completedEntry dataLength at *
  dsimp only
  cases hk : e.kind <;> simp only [hk] at hd hlen ⊢ <;> omega

theorem keeps_retireEntry (i : Nat) (e : Transfer) (s : State) : Keeps s (retireEntry i e s) := by
  have hlist : KeepsEntries s (s.setList (s.xfer.list.eraseIdx i)) :=
    keepsEntries_sublist (List.eraseIdx_sublist _ _)
  have hfin := fun u => (sameTransfers_finishHolder e.bank e.host u).entries
  unfold retireEntry
  dsimp only
  split
  · split
    · exact (hlist.trans (hfin _)).thenIntake
    · exact ((hlist.trans (sameTransfers_answer _ _ _ _ _).entries).trans (hfin _)).thenIntake
  · exact (hlist.trans (hfin _)).thenIntake

theorem keeps_countBurst {i : Nat} {s : State}
    (hf : ∀ e, s.xfer.list[i]? = some e → e.completed < e.issued) : Keeps s (countBurst i s) := by
  unfold countBurst
  split
  · exact .refl s
  next e he =>
    dsimp only
    split
    · exact keeps_retireEntry i _ s
    · refine ⟨id, fun hs => transfersSound_setEntry hs he
        (transferSound_completed (hf e he) ?_) rfl⟩
      cases e.kind with
      | read => rw [List.length_append, readBurstBytes_length]
      | write => rfl

/-- Log 21: the entry found has a burst in flight. -/
theorem flyingEntry_flies {s : State} {b : Bank} {i : Nat} (h : s.flyingEntry b = some i) :
    ∀ e, s.xfer.list[i]? = some e → e.completed < e.issued := by
  obtain ⟨hlt, hp, -⟩ := List.findIdx?_eq_some_iff_getElem.mp h
  rintro e he
  obtain ⟨_, rfl⟩ := List.getElem?_eq_some_iff.mp he
  simp only [Bool.and_eq_true, decide_eq_true_eq] at hp
  exact hp.2

theorem keeps_completeBurst (b : Bank) (s : State) : Keeps s (completeBurst b s) := by
  unfold completeBurst
  dsimp only
  split
  · exact SameTransfers.keeps ⟨rfl, rfl⟩
  next i hi => exact .after (keeps_countBurst (s := s.setOp b _) (flyingEntry_flies hi)) ⟨rfl, rfl⟩

end Sys2Proof.Transfers
end

section
/-! PROOFS. The commands one by one: each keeps the bytes of the DRAM in canonical form (O5) and the laws
of the transfer list and the intake (O7). -/

namespace Sys2Proof.Transfers

open Sys2Proof Sys2Proof.Machine Sys2Proof.Safety Sys2Proof.Leases

/-! ## Requests and deadlines that may revoke or hand on a transfer -/

theorem keeps_deliver (h : HostId) (f : FrameHdr) (tagged : Bool) {act : State → State}
    (ha : ∀ u, Keeps u (act u)) (s : State) : Keeps s (deliver h f tagged act s) := by
  unfold deliver
  split
  · exact .after (ha _) ⟨rfl, rfl⟩
  · exact (sameTransfers_discardFrame h f s).keeps

theorem keeps_request (h : HostId) (f : FrameHdr) (tag : Tag) (kind : ReqKind)
    {act : State → State} (ha : ∀ u, Keeps u (act u)) (s : State) :
    Keeps s (request h f tag kind act s) := by
  refine keeps_deliver h f true (fun u => ?_) s
  unfold takeRequest
  split
  · exact .refl u
  · split
    · exact SameTransfers.keeps ⟨rfl, rfl⟩
    · exact .after (ha _) ⟨rfl, rfl⟩

theorem keeps_requestAttached (h : HostId) (f : FrameHdr) (tag : Tag) (kind : ReqKind)
    {act : State → State} (ha : ∀ u, Keeps u (act u)) (s : State) :
    Keeps s (request h f tag kind (attachedOnly h tag act) s) := by
  refine keeps_request h f tag kind (fun u => ?_) s
  unfold attachedOnly
  split
  · exact ha u
  · exact (sameTransfers_answerStatus _ _ _ _).keeps

theorem keeps_takeOpen (h : HostId) (tag : Tag) (bank : Byte) (row : BitVec 16) (mode : LeaseMode)
    (wait : BitVec 16) (s : State) : Keeps s (takeOpen h tag bank row mode wait s) := by
  have hans := fun st => (sameTransfers_answerStatus h tag st s).keeps
  have hjoin : ∀ b, Keeps s (joinBank h tag b s) := fun b => by
    unfold joinBank
    split
    · exact SameTransfers.keeps (.after (sameTransfers_answerStatus _ _ _ _) ⟨rfl, rfl⟩)
    · exact SameTransfers.keeps ⟨rfl, rfl⟩
  unfold takeOpen
  split
  · split
    · exact hans _
    · unfold admitOpen
      split
      · exact hjoin _
      · split
        · exact SameTransfers.keeps ⟨rfl, rfl⟩
        · exact .after (keeps_revokeOverstayed _ _) ⟨rfl, rfl⟩
  · exact hans _

theorem keeps_takeNak (h : HostId) (n : Seq) (s : State) : Keeps s (takeNak h n s) := by
  unfold takeNak
  dsimp only
  split
  · split
    · exact keeps_linkDown h s
    · exact SameTransfers.keeps ⟨rfl, rfl⟩
  · split <;> exact SameTransfers.keeps ⟨rfl, rfl⟩

theorem keeps_expireInterval (s : State) : Keeps s (expireInterval s) := by
  have hraise : ∀ u, Keeps u (raiseOwed u) := fun u => by
    have hj : SameTransfers u
        (judgeAccount (u.setAccount { u.account with owed := u.account.owed + 1 })) :=
      .after (sameTransfers_judgeAccount _) ⟨rfl, rfl⟩
    unfold raiseOwed
    dsimp only
    split
    · exact hj.keeps.trans (keeps_massRevoke .refresh _)
    · exact hj.keeps
  unfold expireInterval
  dsimp only
  split
  · exact .after (hraise _) ⟨rfl, rfl⟩
  · exact SameTransfers.keeps ⟨rfl, rfl⟩

theorem keeps_expireHold (b : Bank) (h : HostId) (x : Holder) (s : State) :
    Keeps s (expireHold b h x s) := by
  unfold expireHold
  split
  · exact SameTransfers.keeps ⟨rfl, rfl⟩
  · exact (keepsEntries_revoke b h .holdExpired s).thenIntake

/-- R51: a WRITE carries 32 bytes for each of its bursts. -/
theorem payloadData_length (p : List WriteBurst) : (payloadData p).length = 32 * p.length := by
  induction p with
  | nil => rfl
  | cons w p ih =>
    simp only [payloadData, List.flatMap_cons, List.length_append, Vector.length_toList,
      List.length_cons] at ih ⊢
    omega

/-! ## Commands -/

/-- Every next state of an outcome keeps the laws. -/
def OutcomeKeeps (s : State) (o : Host.Outcome State Fault Refusal) : Prop :=
  ∀ t, o = .next t → Keeps s t

theorem outcomeKeeps_next {s t : State} (h : Keeps s t) : OutcomeKeeps s (.next t) := by
  rintro u ⟨⟩
  exact h

theorem outcomeKeeps_same {s t : State} (h : SameTransfers s t) : OutcomeKeeps s (.next t) :=
  outcomeKeeps_next h.keeps

theorem outcomeKeeps_refl (s : State) : OutcomeKeeps s (.next s) := outcomeKeeps_next (.refl s)

/-- Log 3: an event acts where its condition holds, and leaves the state as it is otherwise. -/
theorem outcomeKeeps_ite {p : Prop} [Decidable p] {s t : State} (h : Keeps s t) :
    OutcomeKeeps s (if p then .next t else .next s) := by
  split
  · exact outcomeKeeps_next h
  · exact outcomeKeeps_refl s

theorem outcomeKeeps_iteSame {p : Prop} [Decidable p] {s t : State} (h : SameTransfers s t) :
    OutcomeKeeps s (if p then .next t else .next s) := outcomeKeeps_ite h.keeps

section Commands

variable (s : State)

/-- An offer that the arbiter takes and that is of the kind the command names is issued. -/
theorem issueTaken_keeps {f : Offer → State} (hf : ∀ o, SameTransfers s (f o)) (op : MaintOp) :
    OutcomeKeeps s (match s.maintTaken with
      | none => .next s
      | some o => if o.op = op then .next (f o) else .next s) := by
  split
  · exact outcomeKeeps_refl s
  · exact outcomeKeeps_iteSame (hf _)

theorem execResetNRelease_keeps : OutcomeKeeps s (execResetNRelease s) := by
  unfold execResetNRelease
  split
  · exact outcomeKeeps_refl s
  · exact outcomeKeeps_same ⟨rfl, rfl⟩

theorem execModeLoadIssue_keeps : OutcomeKeeps s (execModeLoadIssue s) := by
  unfold execModeLoadIssue
  split
  · exact outcomeKeeps_refl s
  · split
    · split <;> exact outcomeKeeps_same ⟨rfl, rfl⟩
    all_goals exact outcomeKeeps_refl s

theorem execTrainStepIssue_keeps : OutcomeKeeps s (execTrainStepIssue s) := by
  unfold execTrainStepIssue
  split
  · exact outcomeKeeps_refl s
  · split
    · exact outcomeKeeps_same ⟨rfl, rfl⟩
    all_goals exact outcomeKeeps_refl s

theorem execModeLoadCompletion_keeps : OutcomeKeeps s (execModeLoadCompletion s) := by
  unfold execModeLoadCompletion
  split
  · exact outcomeKeeps_refl s
  · split
    · exact outcomeKeeps_same (sameTransfers_landModeLoad _ _ s)
    all_goals exact outcomeKeeps_refl s

theorem execTrainStepCompletion_keeps (sample : Bool) :
    OutcomeKeeps s (execTrainStepCompletion sample s) := by
  unfold execTrainStepCompletion
  split
  · exact outcomeKeeps_refl s
  · split
    · exact outcomeKeeps_same (sameTransfers_landTrainStep _ sample s)
    all_goals exact outcomeKeeps_refl s

theorem execActivateIssue_keeps : OutcomeKeeps s (execActivateIssue s) := by
  unfold execActivateIssue issueActivate
  split
  · split
    · exact outcomeKeeps_same ⟨rfl, rfl⟩
    all_goals exact outcomeKeeps_refl s
  all_goals exact outcomeKeeps_refl s

theorem execPrechargeIssue_keeps : OutcomeKeeps s (execPrechargeIssue s) := by
  unfold execPrechargeIssue
  split
  · exact outcomeKeeps_same ⟨rfl, rfl⟩
  all_goals exact outcomeKeeps_refl s

/-- R57, R79: the arbiter takes a burst only of an entry that has one left. -/
theorem execBurstIssue_keeps : OutcomeKeeps s (execBurstIssue s) := by
  unfold execBurstIssue
  split
  next i hi => exact outcomeKeeps_next (keeps_issueBurst (arbiter_ready hi))
  all_goals exact outcomeKeeps_refl s

theorem execActivateCompletion_keeps (b : Bank) :
    OutcomeKeeps s (execActivateCompletion b s) := by
  unfold execActivateCompletion
  split
  · exact outcomeKeeps_iteSame (.after (sameTransfers_landActivate b _ (keepPlace s)) ⟨rfl, rfl⟩)
  all_goals exact outcomeKeeps_refl s

theorem execPrechargeCompletion_keeps (b : Bank) :
    OutcomeKeeps s (execPrechargeCompletion b s) := by
  unfold execPrechargeCompletion
  split
  · exact outcomeKeeps_iteSame (sameTransfers_landPrecharge b s)
  all_goals exact outcomeKeeps_refl s

theorem execHoldDeadlineExpiry_keeps (b : Bank) (h : HostId) :
    OutcomeKeeps s (execHoldDeadlineExpiry b h s) := by
  unfold execHoldDeadlineExpiry
  split
  · exact outcomeKeeps_refl s
  · exact outcomeKeeps_ite (keeps_expireHold b h _ s)

theorem execWaitDeadlineExpiry_keeps (b : Bank) (h : HostId) :
    OutcomeKeeps s (execWaitDeadlineExpiry b h s) := by
  unfold execWaitDeadlineExpiry
  split
  · exact outcomeKeeps_refl s
  · exact outcomeKeeps_iteSame (sameTransfers_withdrawWaiter b h .timedOut s)

theorem execReceiveIdleFrame_keeps (h : HostId) (f : FrameHdr) :
    OutcomeKeeps s (execReceiveIdleFrame h f s) := by
  unfold execReceiveIdleFrame
  split
  · exact outcomeKeeps_refl s
  · exact outcomeKeeps_same (sameTransfers_countIdle h s)
  · exact outcomeKeeps_same ⟨rfl, rfl⟩

theorem execReceiveNakFrame_keeps (h : HostId) (f : FrameHdr) (n : Seq) :
    OutcomeKeeps s (execReceiveNakFrame h f n s) := by
  unfold execReceiveNakFrame
  split
  · exact outcomeKeeps_refl s
  · exact outcomeKeeps_same ⟨rfl, rfl⟩
  · exact outcomeKeeps_next (.after (keeps_takeNak h n _) ⟨rfl, rfl⟩)

theorem execReceiveCorruptedFrame_keeps (h : HostId) :
    OutcomeKeeps s (execReceiveCorruptedFrame h s) := by
  unfold execReceiveCorruptedFrame
  split
  · exact outcomeKeeps_refl s
  all_goals exact outcomeKeeps_same ⟨rfl, rfl⟩

theorem execMessageFrameDiscarded_keeps (h : HostId) (f : FrameHdr) (tagged : Bool) :
    OutcomeKeeps s (execMessageFrameDiscarded h f tagged s) := by
  unfold execMessageFrameDiscarded
  split
  · exact outcomeKeeps_refl s
  · exact outcomeKeeps_same (sameTransfers_discardFrame h f s)

theorem deliverMalformed_keeps (h : HostId) (f : FrameHdr) (tagged : Bool) :
    OutcomeKeeps s (.next (deliver h f tagged (malformed h) s)) :=
  outcomeKeeps_next (keeps_deliver h f tagged
    (fun u => SameTransfers.keeps (t := malformed h u) ⟨rfl, rfl⟩) s)

/-- R51: a READ is handed on with no data, a WRITE with that of all its bursts. -/
theorem transferRequest_keeps (h : HostId) (f : FrameHdr) (tag : Tag) (kind : ReqKind)
    {q : TransferReq} (hd : q.data.length = dataLength q.kind q.bursts.toNat 0) :
    OutcomeKeeps s (.next (request h f tag kind (transferRequest q) s)) :=
  outcomeKeeps_next (keeps_request h f tag kind (fun u => keeps_transferRequest u hd) s)

theorem execWrite_keeps (h : HostId) (f : FrameHdr) (tag : Tag) (bank bursts : Byte)
    (col : BitVec 16) (payload : List WriteBurst) :
    OutcomeKeeps s (execWrite h f tag bank bursts col payload s) := by
  unfold execWrite
  split
  next hlen =>
    refine transferRequest_keeps s h f tag .write ?_
    rw [payloadData_length, hlen]
    rfl
  · exact deliverMalformed_keeps s h f true

theorem execPropose_keeps (h : HostId) (f : FrameHdr) (tag : Tag) (base : BitVec 16)
    (items : List RawItem) : OutcomeKeeps s (execPropose h f tag base items s) := by
  unfold execPropose
  split
  · exact outcomeKeeps_next (keeps_requestAttached h f tag .propose
      (fun u => (sameTransfers_takePropose h tag base items u).keeps) s)
  · exact deliverMalformed_keeps s h f true

end Commands

/-- R75: the DRAM is reset with the part, and the list and the intake are emptied. -/
theorem keeps_assertReset (s : State) : Keeps s (assertReset s) :=
  ⟨fun _ => rfl, fun _ => ⟨Nat.zero_le _, by simp [assertReset, State.reset],
    by simp [assertReset, State.reset], fun _ => rfl⟩⟩

/-- Every command keeps the laws of the DRAM and of the transfer engine. -/
theorem exec_keeps (c : Instr) (s : State) : OutcomeKeeps s (exec c s) := by
  cases c with
  | resetNAssert => exact outcomeKeeps_next (keeps_assertReset s)
  | resetNRelease => exact execResetNRelease_keeps s
  | holdPhaseEnd => exact outcomeKeeps_iteSame ⟨rfl, rfl⟩
  | settlePhaseEnd => exact outcomeKeeps_iteSame ⟨rfl, rfl⟩
  | lockPhaseEnd => exact outcomeKeeps_iteSame (sameTransfers_endLock s)
  | intervalExpiry =>
    exact outcomeKeeps_ite (.after (keeps_expireInterval (keepPlace s)) ⟨rfl, rfl⟩)
  | holdDeadlineExpiry b h => exact execHoldDeadlineExpiry_keeps s b h
  | waitDeadlineExpiry b h => exact execWaitDeadlineExpiry_keeps s b h
  | ballotDeadlineExpiry => exact outcomeKeeps_iteSame (.of_unit (unitMoves_abandon .timeout s))
  | drainDeadlineExpiry =>
    exact outcomeKeeps_ite
      ((sameTransfers_clearDrainDeadline s).keeps.trans (keeps_massRevoke .config _))
  | silenceDeadlineExpiry h => exact outcomeKeeps_ite (keeps_linkDown h s)
  | quietEnd h => exact outcomeKeeps_iteSame ⟨rfl, rfl⟩
  | sendTimerExpiry h => exact outcomeKeeps_iteSame ⟨rfl, rfl⟩
  | sendFrame h => exact outcomeKeeps_iteSame ⟨rfl, rfl⟩
  | receiveIdleFrame h f => exact execReceiveIdleFrame_keeps s h f
  | receiveNakFrame h f n => exact execReceiveNakFrame_keeps s h f n
  | receiveCorruptedFrame h => exact execReceiveCorruptedFrame_keeps s h
  | messageFrameDiscarded h f tagged => exact execMessageFrameDiscarded_keeps s h f tagged
  | malformedMessage h f tagged => exact deliverMalformed_keeps s h f tagged
  | join h f tag =>
    exact outcomeKeeps_next
      (keeps_request h f tag .join (fun u => (sameTransfers_takeJoin h tag u).keeps) s)
  | joinComplete => exact outcomeKeeps_same (sameTransfers_completeJoins s)
  | leave h f tag =>
    exact outcomeKeeps_next
      (keeps_requestAttached h f tag .leave (fun u => (sameTransfers_takeLeave h u).keeps) s)
  | leaveComplete h => exact outcomeKeeps_same (sameTransfers_completeLeave h s)
  | openLease h f tag bank row mode wait =>
    exact outcomeKeeps_next
      (keeps_requestAttached h f tag .openLease (keeps_takeOpen h tag bank row mode wait) s)
  | closeLease h f tag bank =>
    exact outcomeKeeps_next (keeps_requestAttached h f tag .closeLease
      (fun u => (sameTransfers_takeClose h tag bank u).keeps) s)
  | closeComplete b h => exact outcomeKeeps_iteSame (sameTransfers_finishHolder b h s)
  | revocationFinish b h => exact outcomeKeeps_iteSame (sameTransfers_finishHolder b h s)
  | grantFromQueue b => exact outcomeKeeps_same (sameTransfers_serveBank b s)
  | read h f tag bank bursts col => exact transferRequest_keeps s h f tag .read rfl
  | write h f tag bank bursts col payload => exact execWrite_keeps s h f tag bank bursts col payload
  | intakeTake => exact outcomeKeeps_next (keeps_takeIntake s)
  | propose h f tag base items => exact execPropose_keeps s h f tag base items
  | vote h f tag number accept =>
    exact outcomeKeeps_next (keeps_requestAttached h f tag .vote
      (fun u => (sameTransfers_takeVote h tag number accept u).keeps) s)
  | drainComplete => exact outcomeKeeps_iteSame (.of_unit (unitMoves_beginApply s))
  | commit => exact outcomeKeeps_iteSame (sameTransfers_commitProposal s)
  | park h f tag =>
    exact outcomeKeeps_next
      (keeps_requestAttached h f tag .park (fun u => (sameTransfers_takePark h tag u).keeps) s)
  | unpark h f tag =>
    exact outcomeKeeps_next
      (keeps_requestAttached h f tag .unpark (fun u => (sameTransfers_takeUnpark h tag u).keeps) s)
  | standbyEntering => exact outcomeKeeps_iteSame ⟨rfl, rfl⟩
  | standbyEnterOffer => exact outcomeKeeps_iteSame ⟨rfl, rfl⟩
  | query h f tag =>
    exact outcomeKeeps_next (keeps_request h f tag .query
      (fun u => (sameTransfers_answer h tag .ok _ u).keeps) s)
  | queryBank h f tag bank =>
    exact outcomeKeeps_next (keeps_requestAttached h f tag .queryBank
      (fun u => (sameTransfers_takeQueryBank h tag bank u).keeps) s)
  | noteAck h f n =>
    exact outcomeKeeps_next
      (keeps_deliver h f false (fun u => (sameTransfers_takeNoteAck h n u).keeps) s)
  | notificationDelivery h => exact outcomeKeeps_same ⟨rfl, rfl⟩
  | refreshRequest => exact outcomeKeeps_iteSame (sameTransfers_makeAccountOffer s)
  | setupEnd b => exact outcomeKeeps_iteSame ⟨rfl, rfl⟩
  | commandSlotEnd => exact outcomeKeeps_iteSame ⟨rfl, rfl⟩
  | writeRecoveryEnd b => exact outcomeKeeps_iteSame ⟨rfl, rfl⟩
  | activateIssue => exact execActivateIssue_keeps s
  | prechargeIssue => exact execPrechargeIssue_keeps s
  | burstIssue => exact execBurstIssue_keeps s
  | refreshIssue =>
    exact issueTaken_keeps s (f := fun o => issueMaint o s) (fun _ => ⟨rfl, rfl⟩) .refresh
  | shortCalIssue =>
    exact issueTaken_keeps s (f := fun o => issueMaint o s) (fun _ => ⟨rfl, rfl⟩) .shortCal
  | longCalIssue =>
    exact issueTaken_keeps s (f := fun o => stepUnderWay (issueMaint o s)) (fun _ => ⟨rfl, rfl⟩)
      .longCal
  | modeLoadIssue => exact execModeLoadIssue_keeps s
  | trainStepIssue => exact execTrainStepIssue_keeps s
  | standbyEnterIssue =>
    exact issueTaken_keeps s (f := fun o => issueMaint o s) (fun _ => ⟨rfl, rfl⟩) .standbyEnter
  | standbyExitIssue =>
    exact issueTaken_keeps s (f := fun o => issueExit o s) (fun _ => ⟨rfl, rfl⟩) .standbyExit
  | activateCompletion b => exact execActivateCompletion_keeps s b
  | prechargeCompletion b => exact execPrechargeCompletion_keeps s b
  | burstCompletion b =>
    exact outcomeKeeps_ite (.after (keeps_completeBurst b (keepPlace s)) ⟨rfl, rfl⟩)
  | refreshCompletion =>
    exact outcomeKeeps_iteSame (.after (sameTransfers_afterAccountOp _)
      (.after (sameTransfers_judgeAccount _) ⟨rfl, rfl⟩))
  | shortCalCompletion =>
    exact outcomeKeeps_iteSame (.after (sameTransfers_afterAccountOp _)
      (.after (sameTransfers_judgeAccount _) ⟨rfl, rfl⟩))
  | longCalCompletion =>
    exact outcomeKeeps_iteSame (.after (.of_unit (unitMoves_beginAttempt 0 .startUp _)) ⟨rfl, rfl⟩)
  | modeLoadCompletion => exact execModeLoadCompletion_keeps s
  | trainStepCompletion sample => exact execTrainStepCompletion_keeps s sample
  | standbyEnterCompletion => exact outcomeKeeps_iteSame (sameTransfers_landEnter s)
  | standbyExitCompletion => exact outcomeKeeps_iteSame (sameTransfers_landExit s)

/-! ## Every step -/

/-- The command at the front of the queue keeps the laws, and a tick moves the clock alone. -/
theorem step_keeps {s t : State} (ht : step s = .next t) : Keeps s t := by
  cases hp : s.pending with
  | nil =>
    rw [step_nil s hp] at ht
    cases ht
    unfold State.idle
    split
    · exact .refl s
    · exact SameTransfers.keeps ⟨rfl, rfl⟩
  | cons c rest =>
    rw [step_cons s c rest hp] at ht
    exact .after (exec_keeps c { s with pending := rest } t ht) ⟨rfl, rfl⟩

/-- Settles O5: only the issue of a write burst writes to the DRAM, one byte after another. -/
theorem stepKeepsMemoryCanonical : Obligations.StepKeepsMemoryCanonical :=
  fun _ _ hs ht => (step_keeps ht).1 hs

/-- Settles O7: an entry is made in range, counted by its bursts and left with its data, and an event that
makes room ends with the intake taken from. -/
theorem stepKeepsTransferLaws : Obligations.StepKeepsTransferLaws :=
  fun _ _ hs ht => (step_keeps ht).2 hs

end Sys2Proof.Transfers
end

section
/-! PROOFS. Where the bytes of a transfer lie (R48, R49, R50): the column of each beat, and that no two
bytes share an address (O16). -/

namespace Sys2Proof.Transfers

open Sys2Proof Sys2Proof.Machine

/-- R48: c mod 8 is where the first burst starts, and each later one starts at 0. -/
theorem startBeat_toNat (c : Column) (n : Nat) :
    (startBeat c n).toNat = if n = 0 then c.toNat % 8 else 0 := by
  unfold startBeat
  split
  · exact BitVec.toNat_setWidth 3 c
  · rfl

/-- A burst has 32 bytes, four to each of its eight beats. -/
theorem beat_toNat (k : Fin 32) : (BitVec.ofNat 3 (k.val / 4)).toNat = k.val / 4 := by
  rw [BitVec.toNat_ofNat, Nat.mod_eq_of_lt (by omega)]

/-- R49: the burst order as an operation on beat positions. -/
def placeOfBeat (o : BurstOrder) (start beat : Nat) : Nat :=
  match o with
  | .linearWrap => (start + beat) % 8
  | .xorWrap => start ^^^ beat

theorem beatColumn_toNat (o : BurstOrder) (s i : BitVec 3) :
    (beatColumn o s i).toNat = placeOfBeat o s.toNat i.toNat := by
  cases o with
  | linearWrap => exact BitVec.toNat_add s i
  | xorWrap => exact BitVec.toNat_xor s i

/-- R49: a burst carries each column of its block in one beat. -/
theorem beatColumn_inj (o : BurstOrder) (s : BitVec 3) {i j : BitVec 3}
    (h : beatColumn o s i = beatColumn o s j) : i = j := by
  cases o with
  | linearWrap => exact (BitVec.add_right_inj s).mp h
  | xorWrap =>
    have h' : s ^^^ (s ^^^ i) = s ^^^ (s ^^^ j) := congrArg (s ^^^ ·) h
    simpa only [← BitVec.xor_assoc, BitVec.xor_self, BitVec.zero_xor] using h'

/-- R48: in range, a beat's column lies in the block of its burst. -/
theorem transferColumn_toNat (o : BurstOrder) {c : Column} {n : Nat} (i : BitVec 3)
    (hn : c.toNat / 8 + n < 128) :
    (transferColumn o c n i).toNat =
      8 * (c.toNat / 8 + n) + (beatColumn o (startBeat c n) i).toNat := by
  have hlt := (beatColumn o (startBeat c n) i).isLt
  simp only [transferColumn, burstBlock, firstBlock, BitVec.toNat_ofNat]
  exact Nat.mod_eq_of_lt (by omega)

/-- A byte of a transfer as it is numbered in its row (log 28). -/
theorem transferAddress_eq (o : BurstOrder) (b : Bank) (row : Row) (c : Column) (n : Nat)
    (k : Fin 32) :
    transferAddress o b row c n k =
      ((b.val * 16384 + row.toNat) * 1024 +
        (transferColumn o c n (BitVec.ofNat 3 (k.val / 4))).toNat) * 4 + k.val % 4 := rfl

/-- R49: no two bytes of one burst share an address, wherever its block lies. -/
theorem transferAddress_inj (o : BurstOrder) (b : Bank) (row : Row) (c : Column) (n : Nat)
    {k k' : Fin 32} (h : transferAddress o b row c n k = transferAddress o b row c n k') :
    k = k' := by
  have hlt := (beatColumn o (startBeat c n) (BitVec.ofNat 3 (k.val / 4))).isLt
  have hlt' := (beatColumn o (startBeat c n) (BitVec.ofNat 3 (k'.val / 4))).isLt
  simp only [transferAddress_eq, transferColumn, BitVec.toNat_ofNat] at h
  have hplace : (beatColumn o (startBeat c n) (BitVec.ofNat 3 (k.val / 4))).toNat =
      (beatColumn o (startBeat c n) (BitVec.ofNat 3 (k'.val / 4))).toNat := by omega
  have hbeat := congrArg BitVec.toNat (beatColumn_inj o _ (BitVec.eq_of_toNat_eq hplace))
  rw [beat_toNat, beat_toNat] at hbeat
  exact Fin.ext (by omega)

/-- Settles O16: the address names the column and the byte in it, the column the burst and the beat. -/
theorem transferBytesLieAsLaidOut : Obligations.TransferBytesLieAsLaidOut := by
  intro o b row c bursts hrange
  refine ⟨fun n k hn => ⟨_, rfl, ?_⟩, fun n n' k k' hn hn' he => ?_⟩
  · have hcol := transferColumn_toNat o (BitVec.ofNat 3 (k.val / 4))
      (show c.toNat / 8 + n < 128 by omega)
    have hlt := (transferColumn o c n (BitVec.ofNat 3 (k.val / 4))).isLt
    rw [beatColumn_toNat, startBeat_toNat, beat_toNat] at hcol
    rw [hcol] at hlt
    rw [transferAddress_eq, hcol]
    cases o with
    | linearWrap => exact ⟨hlt, rfl⟩
    | xorWrap => exact ⟨hlt, rfl⟩
  · have hcol := transferColumn_toNat o (BitVec.ofNat 3 (k.val / 4))
      (show c.toNat / 8 + n < 128 by omega)
    have hcol' := transferColumn_toNat o (BitVec.ofNat 3 (k'.val / 4))
      (show c.toNat / 8 + n' < 128 by omega)
    have hlt := (beatColumn o (startBeat c n) (BitVec.ofNat 3 (k.val / 4))).isLt
    have hlt' := (beatColumn o (startBeat c n') (BitVec.ofNat 3 (k'.val / 4))).isLt
    have hnum := he
    rw [transferAddress_eq, transferAddress_eq, hcol, hcol'] at hnum
    obtain rfl : n = n' := by omega
    exact ⟨rfl, transferAddress_inj o b row c n he⟩

end Sys2Proof.Transfers
end

section
/-! PROOFS. READ and WRITE as they are handed to the transfer engine: the checks, the transfer list and
the intake (R50, R53, R55, R56, O32, O33). -/

namespace Sys2Proof.Transfers

open Sys2Proof Sys2Proof.Machine Sys2Proof.Safety Sys2Proof.Leases

/-! ## The checks (R53) -/

/-- R53, R55: a request that passes its checks joins the list. -/
theorem checkTransfer_passes {s : State} {q : TransferReq} {b : Bank} {row : Row}
    (h : PassesChecks s q b row) :
    checkTransfer q s = s.setList (s.xfer.list ++ [entryOf q b row]) := by
  obtain ⟨hbank, hrow, hx, hmode, hr⟩ := h
  have hn := (transferRefusal_none_iff q (s.bank b)).mpr ⟨hx, hmode, hr⟩
  simp only [checkTransfer, hbank, bankOfByte_bankByte, hn, hrow]
  rfl

/-- R53: the checks of a holder's request, in their order. -/
theorem transferRefusal_some {q : TransferReq} {r : BankRecord} {x : Holder} {st : Status}
    (hx : r.holder q.host = some x)
    (h : (st = .closing ∧ x.status = .closing) ∨
      (st = .revoked ∧ ∃ why, x.status = .revoking why) ∨
      (x.status = .active ∧
        ((st = .mode ∧ q.kind = .write ∧ r.mode = some .shared) ∨
          (st = .range ∧ ¬(q.kind = .write ∧ r.mode = some .shared) ∧ ¬InRange q.bursts q.col)))) :
    transferRefusal q r = some st := by
  rcases h with ⟨rfl, hs⟩ | ⟨rfl, _, hs⟩ | ⟨hs, ⟨rfl, hm⟩ | ⟨rfl, hm, hr⟩⟩
  · simp only [transferRefusal, hx, hs]
  · simp only [transferRefusal, hx, hs]
  · simp only [transferRefusal, hx, hs, if_pos hm]
  · simp only [transferRefusal, hx, hs, if_neg hm, if_pos ((rangeError_iff _ _).mpr hr)]

/-- R53: a request that fails a check is answered with that check's status. -/
theorem checkTransfer_refuses {s : State} {q : TransferReq} {st : Status}
    (h : RefusedWith s q st) : checkTransfer q s = answerStatus q.host q.tag st s := by
  rcases h with ⟨rfl, hbank⟩ | ⟨b, hbank, ⟨rfl, hx⟩ | ⟨x, hx, hwhy⟩⟩
  · simp only [checkTransfer, (bankOfByte_none q.bank).mpr hbank]
  · simp only [checkTransfer, hbank, bankOfByte_bankByte, transferRefusal, hx]
  · simp only [checkTransfer, hbank, bankOfByte_bankByte, transferRefusal_some hx hwhy]

/-! ## The list or the intake (R55, R56) -/

/-- R56: with room and no older request waiting, the request is checked at once, whatever its frame
has made of its host's side. -/
theorem handTransfer_checks {s : State} (q : TransferReq) (h : HostId) (x : HostSide)
    (hl : s.xfer.list.length < 64) (hi : s.xfer.intake = []) :
    handTransfer q (s.setHost h x) = checkTransfer q (s.setHost h x) := if_pos ⟨hl, hi⟩

/-- R56 (log 13): otherwise the request waits behind the older ones. -/
theorem handTransfer_waits {s : State} (q : TransferReq) (h : HostId) (x : HostSide)
    (hfull : 64 ≤ s.xfer.list.length ∨ s.xfer.intake ≠ []) :
    handTransfer q (s.setHost h x) = (s.setHost h x).setIntake (s.xfer.intake ++ [q]) := by
  refine if_neg fun ⟨hl, hi⟩ => ?_
  rcases hfull with hfull | hfull
  · exact absurd hl (not_lt.mpr hfull)
  · exact hfull hi

/-- R156: the transfer engine takes a request of an ATTACHED or LEAVING host. -/
theorem transferRequest_hands {s : State} {q : TransferReq}
    (hp : s.port q.host = .attached ∨ s.port q.host = .leaving) :
    transferRequest q s = handTransfer q s := by
  rcases hp with hp | hp <;> simp only [transferRequest, hp]

section Arrives

variable {s : State} {h : HostId} {f : FrameHdr} {tag : Tag}

theorem exec_read_arrives (bank n : Byte) (col : BitVec 16) (ha : RequestArrives s h f tag)
    (hp : s.port h = .attached ∨ s.port h = .leaving) :
    exec (.read h f tag bank n col) s =
      .next (handTransfer (readOf h tag bank n col) (s.setHost h (sideTaken s h f tag .read))) := by
  have hreq := request_arrives .read (transferRequest (readOf h tag bank n col)) ha
  rw [transferRequest_hands (by simpa [readOf] using hp)] at hreq
  exact congrArg Host.Outcome.next hreq

theorem exec_write_arrives (bank : Byte) {n : Byte} (col : BitVec 16) {p : List WriteBurst}
    (ha : RequestArrives s h f tag) (hp : s.port h = .attached ∨ s.port h = .leaving)
    (hlen : p.length = n.toNat) :
    exec (.write h f tag bank n col p) s =
      .next (handTransfer (writeOf h tag bank n col p)
        (s.setHost h (sideTaken s h f tag .write))) := by
  have hreq := request_arrives .write (transferRequest (writeOf h tag bank n col p)) ha
  rw [transferRequest_hands (by simpa [writeOf] using hp)] at hreq
  exact (if_pos hlen).trans (congrArg Host.Outcome.next hreq)

end Arrives

/-- Settles O32: with room the request is checked and joins the list, without it waits. -/
theorem transfersJoinListOrIntake : Obligations.TransfersJoinListOrIntake := by
  intro s h f tag n col p ha hp hlen
  refine ⟨fun b row hl hi => ⟨fun hpass => ?_, fun hpass => ?_⟩, fun bank hfull => ⟨?_, ?_⟩⟩
  · rw [exec_read_arrives _ n col ha hp, handTransfer_checks _ _ _ hl hi,
      checkTransfer_passes (s := s.setHost h _) hpass]
    rfl
  · rw [exec_write_arrives _ col ha hp hlen, handTransfer_checks _ _ _ hl hi,
      checkTransfer_passes (s := s.setHost h _) hpass]
    rfl
  · rw [exec_read_arrives _ n col ha hp, handTransfer_waits _ _ _ hfull]
  · rw [exec_write_arrives _ col ha hp hlen, handTransfer_waits _ _ _ hfull]

/-- Settles O33: a refusal answers the request in its own event; the intake's requests meet the same
checks one after another. -/
theorem transfersRefusedInOrder : Obligations.TransfersRefusedInOrder := by
  refine ⟨fun s h f tag bank n col p st ha hp hlen hl hi => ⟨fun hr => ?_, fun hr => ?_⟩,
    fun s => ⟨rfl, changesOnly_takeIntake s, takeIntake_fills s, takeIntake_stays,
      fun q rest hl hi => ⟨fun b row hpass => ?_, fun st kind hr htag => ?_⟩⟩⟩
  · rw [exec_read_arrives bank n col ha hp, handTransfer_checks _ _ _ hl hi,
      checkTransfer_refuses (s := s.setHost h _) hr]
    exact congrArg Host.Outcome.next (answerStatus_taken .read st ha)
  · rw [exec_write_arrives bank col ha hp hlen, handTransfer_checks _ _ _ hl hi,
      checkTransfer_refuses (s := s.setHost h _) hr]
    exact congrArg Host.Outcome.next (answerStatus_taken .write st ha)
  · rw [takeIntake_takes hl hi, checkTransfer_passes (s := s.setIntake rest) hpass]
    rfl
  · rw [takeIntake_takes hl hi, checkTransfer_refuses (s := s.setIntake rest) hr,
      answerStatus_outstanding (s := s.setIntake rest) st htag]
    rfl

end Sys2Proof.Transfers
end

section
/-! PROOFS. The issue of a burst (R52, R58, R72, O34): the bytes that a write burst stores, and what else
the issue changes. -/

namespace Sys2Proof.Transfers

open Sys2Proof Sys2Proof.Machine Sys2Proof.Safety Sys2Proof.Leases

/-! ## The bytes of a write burst (R52, R72) -/

/-- R52: an enabled byte of a write burst is stored; the bytes written after it lie elsewhere. -/
theorem writeBurstBytes_stored (o : BurstOrder) (e : Transfer) (n : Nat) (m : Memory) {k : Fin 32}
    (hk : e.enables.getD (32 * n + k.val) false = true) :
    (writeBurstBytes o e n m).read (transferAddress o e.bank e.row e.col n k) =
      some (e.data.getD (32 * n + k.val) 0#8) := by
  have hmem : k ∈ burstBytes := List.mem_finRange k
  unfold writeBurstBytes
  revert hmem
  induction burstBytes using List.reverseRecOn with
  | nil => simp
  | append_singleton l x ih =>
    intro hmem
    rw [List.foldl_append, List.foldl_cons, List.foldl_nil]
    by_cases hx : k = x
    · rw [if_pos (hx ▸ hk), hx, Memory.read_write_same]
    · have hl : k ∈ l := by simpa [hx] using hmem
      split
      · rw [Memory.read_write_other _ _ fun he => hx (transferAddress_inj o _ _ _ _ he), ih hl]
      · exact ih hl

/-! ## The issue (R58) -/

theorem changesOnly_burstIssued (i : Nat) (e : Transfer) (s : State) :
    ChangesOnly [.xfer, .chan, .dram] s (burstIssued i e s) := by
  intro p hp
  cases p <;> simp_all [Part.same, burstIssued]

/-- R58: beside the burst itself, the issue moves at most the side of the host that is answered. -/
theorem issueBurst_hostsOnly {i : Nat} {e : Transfer} {s : State} (he : s.xfer.list[i]? = some e) :
    ChangesOnly [.hosts] (burstIssued i e s) (issueBurst i s) := by
  rw [issueBurst_eq he]
  split
  · exact changesOnly_answerStatus _ _ _ _
  · exact .refl _ _

theorem exec_burstIssue {s : State} {i : Nat} (h : s.arbiter = some (.burst i)) :
    exec .burstIssue s = .next (issueBurst i s) := by
  have he : exec .burstIssue s = execBurstIssue s := rfl
  rw [he, execBurstIssue, h]

/-- A byte of the DRAM is read from the stored bytes and the DRAM's resets. -/
theorem dramByteAt_congr {s t : State} {addr : Nat} (hg : t.dramGen = s.dramGen)
    (hr : t.dram.read addr = s.dram.read addr) : t.dramByteAt addr = s.dramByteAt addr := by
  simp only [State.dramByteAt, hg, hr]

theorem dramByteAt_stored {t : State} {addr : Nat} {v : Byte} (h : t.dram.read addr = some v) :
    t.dramByteAt addr = v := by
  simp only [State.dramByteAt, h]

/-- Settles O34: the issue is that of the burst alone, and an answer for the last burst of a WRITE. -/
theorem burstIssueCountsAndStores : Obligations.BurstIssueCountsAndStores := by
  intro s i e o harb he ho
  have hrest := issueBurst_hostsOnly he
  have hdram := hrest .dram (by decide)
  have hgen := hrest .dramGen (by decide)
  have hquiet : ¬(e.kind = .write ∧ e.issued + 1 = e.bursts ∧ e.cancelled = false) →
      (issueBurst i s).hosts = s.hosts := fun hn => by
    rw [issueBurst_eq he, if_neg hn]
    rfl
  have hplace : s.placingOrder = o := by simp [State.placingOrder, ho]
  refine ⟨issueBurst i s, exec_burstIssue harb,
    (changesOnly_burstIssued i e s).trans' hrest (by decide) (by decide),
    hrest .xfer (by decide), hrest .chan (by decide), fun hk => ⟨?_, hquiet (by simp [hk])⟩,
    fun hk => ?_⟩
  · rw [hdram]
    simp only [burstIssued, hk]
  · have hstore : (issueBurst i s).dram = writeBurstBytes o e e.issued s.dram := by
      rw [hdram, ← hplace]
      simp only [burstIssued, hk]
    refine ⟨fun hlast hcan htag => ?_, fun hmore => hquiet fun hall => ?_, fun k hk => ?_,
      fun addr hother => ?_⟩
    · rw [issueBurst_eq he, if_pos ⟨hk, hlast, hcan⟩,
        answerStatus_outstanding (s := burstIssued i e s) .ok htag]
      rfl
    · rcases hmore with hmore | hmore
      · exact hmore hall.2.1
      · simp [hall.2.2] at hmore
    · exact dramByteAt_stored (hstore ▸ writeBurstBytes_stored o e e.issued s.dram hk)
    · exact dramByteAt_congr hgen (hstore ▸ writeBurstBytes_other o e e.issued s.dram addr hother)

end Sys2Proof.Transfers
end

section
/-! PROOFS. What the arbiter takes (R57, R71 to R73, R77 to R79, R81, O37): what ranks first, that what is
taken is eligible, and that it keeps its place through the events that mark a set-up or a recovery. -/

namespace Sys2Proof.Arbiter

open Sys2Proof Sys2Proof.Machine Sys2Proof.Safety

/-! ## Rising lists -/

/-- In a rising list all that is smaller than an element stands before it. -/
theorem mem_before {α : Type} [Preorder α] {l as bs : List α} {a c : α} (hs : l.Pairwise (· < ·))
    (hl : l = as ++ a :: bs) (hc : c ∈ l) (hlt : c < a) : c ∈ as := by
  subst hl
  obtain ⟨-, htail, -⟩ := List.pairwise_append.mp hs
  rcases List.mem_append.mp hc with hc | hc
  · exact hc
  · rcases List.mem_cons.mp hc with rfl | hc
    · exact absurd hlt (lt_irrefl _)
    · exact absurd ((List.pairwise_cons.mp htail).1 c hc) hlt.asymm

/-- R79: the bank found is the lowest. -/
theorem find_allBanks {p : Bank → Bool} {b : Bank} (h : allBanks.find? p = some b) :
    p b = true ∧ ∀ c, c < b → p c = false := by
  obtain ⟨hb, as, bs, hl, has⟩ := List.find?_eq_some_iff_append.mp h
  refine ⟨hb, fun c hc => ?_⟩
  simpa using has c (mem_before (by decide) hl (mem_allBanks c) hc)

theorem find_allBanks_none {p : Bank → Bool} (h : allBanks.find? p = none) (b : Bank) :
    p b = false := by
  simpa using List.find?_eq_none.mp h b (mem_allBanks b)

/-! ## Eligible bursts (R57, R72) -/

theorem mem_take_iff {α : Type} {l : List α} {i : Nat} {x : α} :
    x ∈ l.take i ↔ ∃ j : Nat, j < i ∧ l[j]? = some x := by
  simp [List.mem_iff_getElem?, List.getElem?_take]

theorem burstReadyAt_iff (s : State) (i : Nat) : s.burstReadyAt i = true ↔ BurstReady s i := by
  unfold State.burstReadyAt BurstReady
  cases he : s.xfer.list[i]? with
  | none => simp
  | some e =>
    simp only [State.burstCandidate, Transfer.unissued, BankOp.burstEligible, Bool.and_eq_true,
      List.all_eq_true, mem_take_iff, Bool.not_eq_true', Bool.and_eq_false_iff,
      decide_eq_true_eq, decide_eq_false_iff_not, Option.some.injEq]
    constructor
    · rintro ⟨⟨⟨⟨hi, hbefore⟩, ho⟩, hh⟩, ⟨hrow, hp⟩, hf⟩
      refine ⟨e, rfl, hi, fun j x hj hx hxh hxb => ?_, ho, hh, hrow, hp, hf⟩
      have := hbefore x ⟨j, hj, hx⟩
      simp only [hxh, hxb, not_true_eq_false, false_or] at this
      exact not_lt.mp this
    · rintro ⟨_, rfl, hi, hbefore, ho, hh, hrow, hp, hf⟩
      refine ⟨⟨⟨⟨hi, ?_⟩, ho⟩, hh⟩, ⟨hrow, hp⟩, hf⟩
      rintro x ⟨j, hj, hx⟩
      by_cases hxh : x.host = e.host
      · by_cases hxb : x.bank = e.bank
        · exact .inr (not_lt.mpr (hbefore j x hj hx hxh hxb))
        · exact .inl (.inr hxb)
      · exact .inl (.inl hxh)

/-- R57: one host has at most one eligible burst on a bank. -/
theorem burstReady_unique {s : State} {i j : Nat} {e x : Transfer} (hi : BurstReady s i)
    (hj : BurstReady s j) (he : s.xfer.list[i]? = some e) (hx : s.xfer.list[j]? = some x)
    (hh : x.host = e.host) (hb : x.bank = e.bank) : i = j := by
  obtain ⟨e', he', hlt, hbefore, -⟩ := hi
  obtain ⟨x', hx', hlt', hbefore', -⟩ := hj
  obtain rfl : e = e' := Option.some.inj (he.symm.trans he')
  obtain rfl : x = x' := Option.some.inj (hx.symm.trans hx')
  rcases lt_trichotomy i j with h | h | h
  · have := hbefore' i e h he hh.symm hb.symm
    omega
  · exact h
  · have := hbefore j x h hx hh hb
    omega

/-- R57: an eligible burst is found by its host and bank. -/
theorem burstOf_ready {s : State} {i : Nat} {e : Transfer} (hi : BurstReady s i)
    (he : s.xfer.list[i]? = some e) : s.burstOf e.host e.bank = some i := by
  have hfirst : ∀ j, (s.burstReadyAt j && s.xfer.list[j]?.any fun x =>
      decide (x.host = e.host) && decide (x.bank = e.bank)) = true → j = i := fun j hj => by
    simp only [Bool.and_eq_true, burstReadyAt_iff, Option.any_eq_true, decide_eq_true_eq] at hj
    obtain ⟨hjr, x, hx, hh, hb⟩ := hj
    exact (burstReady_unique hi hjr he hx hh hb).symm
  obtain ⟨hlt, -⟩ := List.getElem?_eq_some_iff.mp he
  refine List.find?_range_eq_some.mpr ⟨?_, List.mem_range.mpr hlt, fun j hj => ?_⟩
  · simp [(burstReadyAt_iff s i).mpr hi, he]
  · rw [Bool.not_eq_true', Bool.eq_false_iff]
    exact fun h => absurd (hfirst j h) hj.ne

/-! ## What may be taken (R71 to R73, R77, R78) -/

/-- R77: what the arbiter may take: an eligible offer, or a bank operation that is eligible in ACTIVE. -/
def MayTake (s : State) : BusChoice → Prop
  | .maint o => o ∈ s.chan.offers ∧ Eligible s o
  | .precharge b => s.chan.state = .active ∧ PrechargeReady s b
  | .activate b => s.chan.state = .active ∧ ActivateReady s b
  | .burst i => s.chan.state = .active ∧ BurstReady s i

theorem bankOpsAllowed_iff (s : State) : s.bankOpsAllowed = true ↔ s.chan.state = .active := by
  simp [State.bankOpsAllowed]

/-- R78: a maintenance offer is eligible only where no bank operation is. -/
theorem eligible_noBankOp {s : State} {o : Offer} (h : Eligible s o) :
    (∀ b, ¬PrechargeReady s b) ∧ (∀ b, ¬ActivateReady s b) ∧ ∀ i, ¬BurstReady s i := by
  obtain ⟨hquiet, -, -⟩ := h
  refine ⟨fun b hb => ?_, fun b hb => ?_, fun i hi => ?_⟩
  · obtain ⟨hp, -⟩ := hb
    simp [(hquiet b).2.2.1] at hp
  · obtain ⟨⟨row, hp⟩, -⟩ := hb
    simp [(hquiet b).2.2.1] at hp
  · obtain ⟨e, -, -, -, ho, -⟩ := hi
    simp [(hquiet e.bank).1] at ho

/-- R81: what may be taken is what its claim is. -/
theorem claimed_mayTake {s : State} {c : BusChoice} (h : MayTake s c) :
    ∃ k, s.claimOf c = some k ∧ s.claimed k = some c := by
  cases c with
  | maint o =>
    obtain ⟨hm, he⟩ := h
    exact ⟨_, rfl, if_pos ⟨hm, (maintEligible_iff s o).mpr he⟩⟩
  | precharge b =>
    obtain ⟨ha, hb⟩ := h
    refine ⟨_, rfl, if_pos ?_⟩
    simp [(bankOpsAllowed_iff s).mpr ha, (prechargeEligible_iff s b).mpr hb]
  | activate b =>
    obtain ⟨ha, hb⟩ := h
    refine ⟨_, rfl, if_pos ?_⟩
    simp [(bankOpsAllowed_iff s).mpr ha, (activateEligible_iff s b).mpr hb]
  | burst i =>
    obtain ⟨ha, hi⟩ := h
    obtain ⟨e, he, -⟩ := id hi
    refine ⟨.burst e.host e.bank, by simp [State.claimOf, he], ?_⟩
    simp [State.claimed, (bankOpsAllowed_iff s).mpr ha, burstOf_ready hi he]

/-- R81: a claim that is still good may be taken. -/
theorem mayTake_of_claimed {s : State} {k : Claim} {c : BusChoice} (h : s.claimed k = some c) :
    MayTake s c := by
  cases k with
  | maint o =>
    obtain ⟨⟨hm, he⟩, rfl⟩ :
        (o ∈ s.chan.offers ∧ s.maintEligible o = true) ∧ BusChoice.maint o = c := by
      simpa [State.claimed] using h
    exact ⟨hm, (maintEligible_iff s o).mp he⟩
  | precharge b =>
    obtain ⟨⟨ha, hb⟩, rfl⟩ : (s.bankOpsAllowed = true ∧ (s.op b).prechargeEligible = true) ∧
        BusChoice.precharge b = c := by simpa [State.claimed] using h
    exact ⟨(bankOpsAllowed_iff s).mp ha, (prechargeEligible_iff s b).mp hb⟩
  | activate b =>
    obtain ⟨⟨ha, hb⟩, rfl⟩ : (s.bankOpsAllowed = true ∧ (s.op b).activateEligible = true) ∧
        BusChoice.activate b = c := by simpa [State.claimed] using h
    exact ⟨(bankOpsAllowed_iff s).mp ha, (activateEligible_iff s b).mp hb⟩
  | burst h' b =>
    obtain ⟨ha, i, hi, rfl⟩ : s.bankOpsAllowed = true ∧
        ∃ i, s.burstOf h' b = some i ∧ BusChoice.burst i = c := by simpa [State.claimed] using h
    have hready := (List.find?_range_eq_some.mp hi).1
    exact ⟨(bankOpsAllowed_iff s).mp ha,
      (burstReadyAt_iff s i).mp (Bool.and_eq_true_iff.mp hready).1⟩

/-! ## What ranks first (R79) -/

/-- R79: no offer that is eligible ranks before this one, and no older one with it. -/
def OldestOfRank (s : State) (o : Offer) : Prop :=
  ∃ older newer, s.chan.offers = older ++ o :: newer ∧
    (∀ x ∈ older, Eligible s x → s.rank o < s.rank x) ∧
    ∀ x ∈ newer, Eligible s x → s.rank o ≤ s.rank x

/-- R79: of the bank operations, this one ranks first. -/
def FirstOfBanks (s : State) : BusChoice → Prop
  | .maint _ => False
  | .precharge b => ∀ c, c < b → ¬PrechargeReady s c
  | .activate b => (∀ c, ¬PrechargeReady s c) ∧ ∀ c, c < b → ¬ActivateReady s c
  | .burst i => (∀ c, ¬PrechargeReady s c) ∧ (∀ c, ¬ActivateReady s c) ∧
      ∀ j, j < i → ¬BurstReady s j

/-- R79: there are six ranks of maintenance offers. -/
def maintRanks : List Nat := [1, 2, 3, 4, 5, 6]

theorem rank_mem (s : State) (o : Offer) : s.rank o ∈ maintRanks := by
  unfold State.rank maintRanks
  split
  case h_8 => split <;> decide
  all_goals decide

theorem maintChoice_first {s : State} {o : Offer} (h : s.maintChoice = some o) :
    MayTake s (.maint o) ∧ OldestOfRank s o := by
  obtain ⟨before, r, after, hranks, hfind, hbefore⟩ := List.findSome?_eq_some_iff.mp h
  obtain ⟨ho, older, newer, hoffers, holder⟩ := List.find?_eq_some_iff_append.mp hfind
  simp only [Bool.and_eq_true, decide_eq_true_eq] at ho
  obtain ⟨hel, rfl⟩ := ho
  have hleast : ∀ x ∈ s.chan.offers, Eligible s x → s.rank o ≤ s.rank x := fun x hx hxe => by
    by_contra hlt
    have hmem := mem_before (by decide) hranks (rank_mem s x) (not_le.mp hlt)
    have hnone := List.find?_eq_none.mp (hbefore _ hmem) x hx
    simp [(maintEligible_iff s x).mpr hxe] at hnone
  have hmem : ∀ x, x ∈ older ∨ x = o ∨ x ∈ newer → x ∈ s.chan.offers := fun x hx => by
    simpa [hoffers] using hx
  refine ⟨⟨hmem o (.inr (.inl rfl)), (maintEligible_iff s o).mp hel⟩, older, newer, hoffers,
    fun x hx hxe => ?_, fun x hx hxe => hleast x (hmem x (.inr (.inr hx))) hxe⟩
  have hne : s.rank x ≠ s.rank o := by
    simpa [(maintEligible_iff s x).mpr hxe] using holder x hx
  exact lt_of_le_of_ne (hleast x (hmem x (.inl hx)) hxe) hne.symm

theorem maintChoice_none {s : State} (h : s.maintChoice = none) :
    ∀ o ∈ s.chan.offers, ¬Eligible s o := fun o ho he => by
  have hnone := List.find?_eq_none.mp (List.findSome?_eq_none_iff.mp h _ (rank_mem s o)) o ho
  simp [(maintEligible_iff s o).mpr he] at hnone

theorem not_prechargeReady {s : State} {b : Bank} (h : (s.op b).prechargeEligible = false) :
    ¬PrechargeReady s b := by
  rw [← prechargeEligible_iff, h]
  exact Bool.false_ne_true

theorem not_activateReady {s : State} {b : Bank} (h : (s.op b).activateEligible = false) :
    ¬ActivateReady s b := by
  rw [← activateEligible_iff, h]
  exact Bool.false_ne_true

theorem not_burstReady {s : State} {i : Nat} (h : (!s.burstReadyAt i) = true) :
    ¬BurstReady s i := by
  rw [← burstReadyAt_iff]
  simpa using h

theorem bankChoice_first {s : State} {c : BusChoice} (h : s.bankChoice = some c) :
    MayTake s c ∧ FirstOfBanks s c := by
  unfold State.bankChoice at h
  split at h
  next hallow =>
    have ha := (bankOpsAllowed_iff s).mp hallow
    split at h
    next b hb =>
      cases h
      obtain ⟨hp, hlow⟩ := find_allBanks hb
      exact ⟨⟨ha, (prechargeEligible_iff s b).mp hp⟩, fun c hc => not_prechargeReady (hlow c hc)⟩
    next hnp =>
      have hpre := fun c => not_prechargeReady (find_allBanks_none hnp c)
      split at h
      next b hb =>
        cases h
        obtain ⟨hact, hlow⟩ := find_allBanks hb
        exact ⟨⟨ha, (activateEligible_iff s b).mp hact⟩, hpre,
          fun c hc => not_activateReady (hlow c hc)⟩
      next hna =>
        obtain ⟨i, hi, rfl⟩ := Option.map_eq_some_iff.mp h
        obtain ⟨hready, -, holder⟩ := List.find?_range_eq_some.mp hi
        exact ⟨⟨ha, (burstReadyAt_iff s i).mp hready⟩, hpre,
          fun c => not_activateReady (find_allBanks_none hna c),
          fun j hj => not_burstReady (holder j hj)⟩
  · cases h

theorem bankChoice_none {s : State} (ha : s.chan.state = .active) (h : s.bankChoice = none) :
    (∀ c, ¬PrechargeReady s c ∧ ¬ActivateReady s c) ∧ ∀ i, ¬BurstReady s i := by
  unfold State.bankChoice at h
  rw [if_pos ((bankOpsAllowed_iff s).mpr ha)] at h
  split at h
  · cases h
  next hnp =>
    split at h
    · cases h
    next hna =>
      refine ⟨fun c => ⟨not_prechargeReady (find_allBanks_none hnp c),
        not_activateReady (find_allBanks_none hna c)⟩, fun i hi => ?_⟩
      obtain ⟨e, he, -⟩ := id hi
      obtain ⟨hlt, -⟩ := List.getElem?_eq_some_iff.mp he
      exact not_burstReady
        (List.find?_range_eq_none.mp (Option.map_eq_none_iff.mp h) i hlt) hi

theorem rankChoice_cases {s : State} {c : BusChoice} (h : s.rankChoice = some c) :
    (∃ o, c = .maint o ∧ s.maintChoice = some o) ∨ s.bankChoice = some c := by
  unfold State.rankChoice at h
  split at h
  next o ho =>
    cases h
    split at ho
    · cases ho
    · exact .inl ⟨o, rfl, ho⟩
  · exact .inr h

theorem rankChoice_none {s : State} (h : s.rankChoice = none) :
    (s.reactionOpen = false → s.maintChoice = none) ∧ s.bankChoice = none := by
  unfold State.rankChoice at h
  split at h
  · cases h
  next hm => exact ⟨fun hr => by simpa [hr] using hm, h⟩

/-! ## What the arbiter takes (R77, R81) -/

theorem busFree_iff (s : State) :
    s.busFree = true ↔ s.chan.maint = none ∧ s.chan.slotEnd = none := by
  simp [State.busFree]

theorem arbiter_cases {s : State} {c : BusChoice} (h : s.arbiter = some c) :
    s.busFree = true ∧ (s.firstChoice = some c ∨ s.firstChoice = none ∧ s.rankChoice = some c) := by
  unfold State.arbiter at h
  split at h
  next hb =>
    split at h
    next hf => exact ⟨hb, .inl (hf.trans h)⟩
    next hf => exact ⟨hb, .inr ⟨hf, h⟩⟩
  · cases h

theorem arbiter_none {s : State} (hb : s.busFree = true) (h : s.arbiter = none) :
    s.firstChoice = none ∧ s.rankChoice = none := by
  unfold State.arbiter at h
  rw [if_pos hb] at h
  split at h
  · cases h
  next hf => exact ⟨hf, h⟩

/-- R77: what the arbiter takes is eligible. -/
theorem arbiter_mayTake {s : State} {c : BusChoice} (h : s.arbiter = some c) : MayTake s c := by
  obtain ⟨-, hf | ⟨-, hr⟩⟩ := arbiter_cases h
  · unfold State.firstChoice at hf
    split at hf
    · cases hf
    · split at hf
      · exact mayTake_of_claimed hf
      · cases hf
  · rcases rankChoice_cases hr with ⟨o, rfl, ho⟩ | hbank
    · exact (maintChoice_first ho).1
    · exact (bankChoice_first hbank).1

/-- R79: with no place kept, a maintenance offer that is taken is the oldest of the first rank. -/
theorem arbiter_maint_first {s : State} {o : Offer} (hn : s.firstChoice = none)
    (h : s.arbiter = some (.maint o)) : OldestOfRank s o := by
  obtain ⟨-, hf | ⟨-, hr⟩⟩ := arbiter_cases h
  · simp [hn] at hf
  · rcases rankChoice_cases hr with ⟨_, ⟨⟩, ho⟩ | hbank
    · exact (maintChoice_first ho).2
    · exact (bankChoice_first hbank).2.elim

/-- R79: with no place kept, a bank operation that is taken is the first of them. -/
theorem arbiter_bank_first {s : State} {c : BusChoice} (hn : s.firstChoice = none)
    (hc : ∀ o, c ≠ .maint o) (h : s.arbiter = some c) : FirstOfBanks s c := by
  obtain ⟨-, hf | ⟨-, hr⟩⟩ := arbiter_cases h
  · simp [hn] at hf
  · rcases rankChoice_cases hr with ⟨o, ho, -⟩ | hbank
    · exact absurd ho (hc o)
    · exact (bankChoice_first hbank).2

/-! ## The place kept (R81) -/

/-- A step that changes the place kept at the bus and sets marks that an end has been taken. -/
structure OnlyMarks (s t : State) : Prop where
  rest : t = s.setChan { s.chan with first := t.chan.first, ops := t.chan.ops }
  op : ∀ b, t.op b = { s.op b with
    setupDone := (t.op b).setupDone, recoveryDone := (t.op b).recoveryDone }
  setup : ∀ b, (s.op b).setupDone = true → (t.op b).setupDone = true
  recovery : ∀ b, (s.op b).recoveryDone = true → (t.op b).recoveryDone = true

theorem onlyMarks_keepPlace (s : State) : OnlyMarks s (keepPlace s) :=
  ⟨rfl, fun _ => rfl, fun _ h => h, fun _ h => h⟩

theorem onlyMarks_setOp {s : State} {b : Bank} {o : BankOp}
    (ho : o = { s.op b with setupDone := o.setupDone, recoveryDone := o.recoveryDone })
    (hs : (s.op b).setupDone = true → o.setupDone = true)
    (hr : (s.op b).recoveryDone = true → o.recoveryDone = true) :
    OnlyMarks s ((keepPlace s).setOp b o) := by
  have hop : ∀ c, ((keepPlace s).setOp b o).op c = if c = b then o else s.op c := fun c => by
    by_cases hc : c = b
    · simp [hc]
    · simp [hc]
  refine ⟨rfl, fun c => ?_, fun c => ?_, fun c => ?_⟩ <;> rw [hop] <;> split
  · rename_i hc
    exact hc ▸ ho
  · rfl
  · rename_i hc
    exact hc ▸ hs
  · exact id
  · rename_i hc
    exact hc ▸ hr
  · exact id

namespace OnlyMarks

variable {s t : State}

theorem bank (h : OnlyMarks s t) (b : Bank) : t.bank b = s.bank b := by rw [h.rest]; rfl

theorem xfer (h : OnlyMarks s t) : t.xfer = s.xfer := by rw [h.rest]; rfl

theorem gate (h : OnlyMarks s t) : t.gate = s.gate := by rw [h.rest]; rfl

theorem now (h : OnlyMarks s t) : t.now = s.now := by rw [h.rest]; rfl

theorem state (h : OnlyMarks s t) : t.chan.state = s.chan.state := by rw [h.rest]; rfl

theorem offers (h : OnlyMarks s t) : t.chan.offers = s.chan.offers := by rw [h.rest]; rfl

theorem busFree (h : OnlyMarks s t) : t.busFree = s.busFree := by rw [h.rest]; rfl

theorem openRow (h : OnlyMarks s t) (b : Bank) : (t.op b).openRow = (s.op b).openRow := by
  rw [h.op b]

theorem inFlight (h : OnlyMarks s t) (b : Bank) : (t.op b).inFlight = (s.op b).inFlight := by
  rw [h.op b]

theorem pending (h : OnlyMarks s t) (b : Bank) : (t.op b).pending = (s.op b).pending := by
  rw [h.op b]

theorem recoveryEnd (h : OnlyMarks s t) (b : Bank) :
    (t.op b).recoveryEnd = (s.op b).recoveryEnd := by rw [h.op b]

/-- A mark takes no operation's eligibility away. -/
theorem mayTake (h : OnlyMarks s t) {c : BusChoice} (hc : MayTake s c) : MayTake t c := by
  cases c with
  | maint o =>
    simpa only [MayTake, Eligible, h.offers, h.bank, h.inFlight, h.pending, h.openRow, h.gate,
      h.state] using hc
  | precharge b =>
    obtain ⟨ha, hp, hs, hrow, hf, hr⟩ := hc
    refine ⟨h.state.trans ha, (h.pending b).trans hp, h.setup b hs, ?_, (h.inFlight b).trans hf,
      hr.imp (h.recoveryEnd b).trans (h.recovery b)⟩
    rwa [h.openRow]
  | activate b =>
    obtain ⟨ha, ⟨row, hp⟩, hs, hrow, hf⟩ := hc
    exact ⟨h.state.trans ha, ⟨row, (h.pending b).trans hp⟩, h.setup b hs, (h.openRow b).trans hrow,
      (h.inFlight b).trans hf⟩
  | burst i =>
    simpa only [MayTake, BurstReady, State.holds, h.xfer, h.bank, h.inFlight, h.pending, h.openRow,
      h.state] using hc

/-- R81: what the arbiter would have taken keeps its place. -/
theorem arbiter (h : OnlyMarks s t) {c : BusChoice} (hf : t.chan.first = s.firstClaim)
    (hc : s.arbiter = some c) : t.arbiter = some c := by
  obtain ⟨k, hk, hclaim⟩ := claimed_mayTake (h.mayTake (arbiter_mayTake hc))
  have hk' : s.claimOf c = some k := by
    rw [← hk]
    cases c <;> simp only [State.claimOf, h.xfer]
  have hfirst : t.chan.first = some ⟨s.now, k⟩ := by
    simp [hf, State.firstClaim, hc, hk']
  have hchoice : t.firstChoice = some c := by
    simp [State.firstChoice, hfirst, h.now, hclaim]
  simp [State.arbiter, h.busFree, (arbiter_cases hc).1, hchoice]

end OnlyMarks

/-- R81: keeping the place changes nothing of what the arbiter takes. -/
theorem arbiter_keepPlace (s : State) : (keepPlace s).arbiter = s.arbiter := by
  cases hc : s.arbiter with
  | some c => exact (onlyMarks_keepPlace s).arbiter rfl hc
  | none =>
    have hfirst : (keepPlace s).firstChoice = none := by
      simp [State.firstChoice, State.firstClaim, hc]
    have hbus : (keepPlace s).busFree = s.busFree := rfl
    have hrank : (keepPlace s).rankChoice = s.rankChoice := rfl
    unfold State.arbiter
    rw [hbus, hfirst, hrank]
    split
    next hb => exact (arbiter_none hb hc).2
    · rfl

theorem setupEnd_keepsPlace {s : State} {c : BusChoice} (hc : s.arbiter = some c) (b : Bank) :
    ∃ t, exec (.setupEnd b) s = .next t ∧ t.arbiter = some c := by
  by_cases hd : (due s.now (s.op b).setupEnd && !(s.op b).setupDone) = true
  · have hm : OnlyMarks s ((keepPlace s).setOp b { s.op b with setupDone := true }) :=
      onlyMarks_setOp rfl (fun _ => rfl) id
    exact ⟨(keepPlace s).setOp b { s.op b with setupDone := true }, if_pos hd, hm.arbiter rfl hc⟩
  · exact ⟨s, if_neg hd, hc⟩

theorem writeRecoveryEnd_keepsPlace {s : State} {c : BusChoice} (hc : s.arbiter = some c)
    (b : Bank) : ∃ t, exec (.writeRecoveryEnd b) s = .next t ∧ t.arbiter = some c := by
  by_cases hd : (due s.now (s.op b).recoveryEnd && !(s.op b).recoveryDone) = true
  · have hm : OnlyMarks s ((keepPlace s).setOp b { s.op b with recoveryDone := true }) :=
      onlyMarks_setOp rfl id (fun _ => rfl)
    exact ⟨(keepPlace s).setOp b { s.op b with recoveryDone := true }, if_pos hd, hm.arbiter rfl hc⟩
  · exact ⟨s, if_neg hd, hc⟩

/-- Settles O37: what is taken is the place kept or ranks first, and no bank operation is eligible
beside a maintenance offer. -/
theorem arbiterFollowsRanks : Obligations.ArbiterFollowsRanks := by
  intro s
  have htake := fun c => arbiter_mayTake (s := s) (c := c)
  refine ⟨fun _ => ⟨rfl, rfl, rfl, rfl⟩, fun _ => ⟨rfl, rfl⟩, rfl, fun _ _ => rfl, fun hbusy => ?_,
    ⟨fun o => htake _, fun b => htake _, fun b => htake _, fun i => htake _⟩,
    ⟨arbiter_keepPlace s, rfl, fun c hc b =>
      ⟨setupEnd_keepsPlace hc b, writeRecoveryEnd_keepsPlace hc b⟩⟩,
    fun hnone => ?_, fun hnothing hm hs => ?_⟩
  · refine arbiter_busy ?_
    rw [Bool.eq_false_iff, ne_eq, busFree_iff]
    tauto
  · have hf := firstChoice_none hnone
    refine ⟨fun o h => arbiter_maint_first hf h, fun b h => ⟨fun o _ he => ?_, ?_⟩,
      fun b h => ⟨fun o _ he => ?_, ?_⟩, fun i h => ⟨fun o _ he => ?_, ?_⟩⟩
    · exact (eligible_noBankOp he).1 b (htake _ h).2
    · exact arbiter_bank_first hf (by simp) h
    · exact (eligible_noBankOp he).2.1 b (htake _ h).2
    · exact arbiter_bank_first hf (by simp) h
    · exact (eligible_noBankOp he).2.2 i (htake _ h).2
    · obtain ⟨hp, ha, hb⟩ := arbiter_bank_first hf (by simp) h
      exact ⟨fun c => ⟨hp c, ha c⟩, hb⟩
  · obtain ⟨-, hr⟩ := arbiter_none ((busFree_iff s).mpr ⟨hm, hs⟩) hnothing
    obtain ⟨hmaint, hbank⟩ := rankChoice_none hr
    exact ⟨fun hreact => maintChoice_none (hmaint hreact), fun ha => bankChoice_none ha hbank⟩

end Sys2Proof.Arbiter
end

section
/-! PROOFS. What the lease table, the transfer engine and the host links move: bank records, bank operation
records, the command slot, the place kept at the bus, transfers, the hosts' sides and the DRAM
(`LeaseMoves`). The gate, the offers and the maintenance operation in flight, the account and the units
stay as they are. -/

namespace Sys2Proof.Maintenance

open Sys2Proof Sys2Proof.Machine Sys2Proof.Safety Sys2Proof.Leases Sys2Proof.Configuration
  Sys2Proof.Transfers

/-- Of the channel at most the bank operation records, the command slot and the place kept at the bus have
changed, and beside it bank records, transfers, hosts' sides and bytes of the DRAM. -/
def LeaseMoves (s t : State) : Prop :=
  t = { s with
    banks := t.banks, xfer := t.xfer, hosts := t.hosts, dram := t.dram
    chan := { s.chan with
      slotEnd := t.chan.slotEnd, first := t.chan.first, ops := t.chan.ops } }

namespace LeaseMoves

theorem refl (s : State) : LeaseMoves s s := rfl

theorem trans {s t u : State} (h : LeaseMoves s t) (k : LeaseMoves t u) : LeaseMoves s u := by
  unfold LeaseMoves at h k ⊢
  rw [h] at k
  exact k

/-- An operation that follows an update of one of these parts. -/
theorem after {s t u : State} (k : LeaseMoves t u) (h : LeaseMoves s t) : LeaseMoves s u := h.trans k

theorem foldl {ι : Type} {f : State → ι → State} (hf : ∀ s i, LeaseMoves s (f s i)) (l : List ι)
    (s : State) : LeaseMoves s (l.foldl f s) :=
  foldl_rel refl (fun _ _ _ => trans) hf l s

/-- An event that acts where its condition holds. -/
theorem ite {p : Prop} [Decidable p] {s t u : State} (ht : LeaseMoves s t) (hu : LeaseMoves s u) :
    LeaseMoves s (if p then t else u) := by
  split
  · exact ht
  · exact hu

/-- The frame of a step that leaves the channel alone. -/
theorem of_changes {l : List Part} {s t : State} (h : ChangesOnly l s t)
    (hl : l ⊆ [.banks, .xfer, .hosts, .dram]) : LeaseMoves s t := by
  have hp : ∀ p, p ∉ [Part.banks, .xfer, .hosts, .dram] → p.same s t := h.mono hl
  have hchan : t.chan = s.chan := hp .chan (by decide)
  have hpending : t.pending = s.pending := hp .pending (by decide)
  have hnow : t.now = s.now := hp .now (by decide)
  have hresetN : t.resetN = s.resetN := hp .resetN (by decide)
  have hseq : t.seq = s.seq := hp .seq (by decide)
  have hgate : t.gate = s.gate := hp .gate (by decide)
  have haccount : t.account = s.account := hp .account (by decide)
  have hagree : t.agree = s.agree := hp .agree (by decide)
  have hstandby : t.standby = s.standby := hp .standby (by decide)
  have hgen : t.dramGen = s.dramGen := hp .dramGen (by decide)
  unfold LeaseMoves
  rw [hchan, ← hpending, ← hnow, ← hresetN, ← hseq, ← hgate, ← haccount, ← hagree, ← hstandby,
    ← hgen, ← hchan]

end LeaseMoves

theorem leaseMoves_answer (h : HostId) (tag : Tag) (st : Status) (p : Payload) (s : State) :
    LeaseMoves s (answer h tag st p s) := by
  rw [answer_eq]
  rfl

theorem leaseMoves_answerStatus (h : HostId) (tag : Tag) (st : Status) (s : State) :
    LeaseMoves s (answerStatus h tag st s) := leaseMoves_answer h tag st .none s

theorem leaseMoves_answerOpt (h : HostId) (tag : Option Tag) (st : Status) (s : State) :
    LeaseMoves s (answerOpt h tag st s) := by
  rw [answerOpt_eq]
  rfl

/-! ## Holders and waiters (chapter 1) -/

theorem leaseMoves_removeHolder (b : Bank) (h : HostId) (s : State) :
    LeaseMoves s (removeHolder b h s) := by
  unfold removeHolder
  exact .ite rfl rfl

theorem leaseMoves_withdrawWaiter (b : Bank) (h : HostId) (st : Status) (s : State) :
    LeaseMoves s (withdrawWaiter b h st s) := by
  unfold withdrawWaiter
  split
  · exact .refl s
  · exact .after (leaseMoves_answerStatus _ _ _ _) rfl

theorem leaseMoves_dropWaiter (b : Bank) (h : HostId) (s : State) :
    LeaseMoves s (dropWaiter b h s) := .ite rfl rfl

theorem leaseMoves_finishHolder (b : Bank) (h : HostId) (s : State) :
    LeaseMoves s (finishHolder b h s) := by
  have hr := leaseMoves_removeHolder b h s
  unfold finishHolder
  split
  · exact .refl s
  · refine .ite ?_ rfl
    split
    · exact .refl s
    · exact hr.trans (leaseMoves_answerOpt _ _ _ _)
    · exact hr
    · exact hr.trans (.after (leaseMoves_answerOpt _ _ _ _) rfl)

theorem leaseMoves_closeHolder (b : Bank) (h : HostId) (tag : Option Tag) (s : State) :
    LeaseMoves s (closeHolder b h tag s) := by
  unfold closeHolder
  split
  · exact .refl s
  · exact .after (leaseMoves_finishHolder b h _) rfl

theorem leaseMoves_withdrawAndClose (h : HostId) (s : State) :
    LeaseMoves s (withdrawAndClose h s) := by
  refine .foldl (fun u b => ?_) allBanks s
  have hw := leaseMoves_withdrawWaiter b h .withdrawn u
  dsimp only
  split
  · exact hw
  · exact .ite (hw.trans (leaseMoves_closeHolder b h none _)) hw

theorem leaseMoves_cancelUnbegun (b : Bank) (h : HostId) (s : State) :
    LeaseMoves s (cancelUnbegun b h s) := by
  rw [cancelUnbegun_eq]
  rfl

theorem leaseMoves_revoke (b : Bank) (h : HostId) (r : RevokeReason) (s : State) :
    LeaseMoves s (revoke b h r s) := by
  have hfin := fun u => leaseMoves_finishHolder b h u
  unfold revoke
  split
  · exact .refl s
  · split
    · exact .after (hfin _) rfl
    · exact .refl s
    · exact .after (hfin _) (.after (leaseMoves_cancelUnbegun b h _) rfl)

theorem leaseMoves_takeIntake (s : State) : LeaseMoves s (takeIntake s) :=
  .of_changes (changesOnly_takeIntake s) (by decide)

theorem leaseMoves_revokeOverstayed (b : Bank) (s : State) :
    LeaseMoves s (revokeOverstayed b s) := by
  unfold revokeOverstayed
  exact .ite rfl (.after (leaseMoves_takeIntake _)
    (.foldl (fun u (x : Holder) => leaseMoves_revoke b x.host .holdExpired u) _ s))

theorem leaseMoves_massRevoke (r : RevokeReason) (s : State) : LeaseMoves s (massRevoke r s) :=
  .after (leaseMoves_takeIntake _) (.foldl (fun u b =>
    .foldl (fun v (x : Holder) => leaseMoves_revoke b x.host r v) _ u) allBanks s)

theorem leaseMoves_tearDown (h : HostId) (s : State) : LeaseMoves s (tearDown h s) :=
  .after (.foldl (fun u b => (leaseMoves_dropWaiter b h u).trans
    (leaseMoves_revoke b h .hostLost _)) allBanks _) rfl

theorem leaseMoves_recheckWaiters (s : State) : LeaseMoves s (recheckWaiters s) :=
  .foldl (fun u b => .foldl (fun v (w : Waiter) =>
    .ite (leaseMoves_withdrawWaiter b w.host .noRight v) (.refl v)) _ u) allBanks s

/-! ## Grants, activation and precharge -/

theorem leaseMoves_serveBank (b : Bank) (s : State) : LeaseMoves s (serveBank b s) := by
  unfold serveBank
  refine .ite ?_ rfl
  split <;> rfl

theorem leaseMoves_serveAll (s : State) : LeaseMoves s (serveAll s) :=
  .foldl (fun u b => leaseMoves_serveBank b u) allBanks s

theorem leaseMoves_settleHolder (b : Bank) (h : HostId) (s : State) :
    LeaseMoves s (settleHolder b h s) := by
  have hset : ∀ x st tag, LeaseMoves s (answerStatus h tag st (setHolder b h x s)) :=
    fun x st tag => .after (leaseMoves_answerStatus _ _ _ _) rfl
  have hr := leaseMoves_removeHolder b h s
  unfold settleHolder
  split
  · exact .refl s
  · split
    · exact hset _ _ _
    · exact (hset _ _ _).trans (leaseMoves_finishHolder b h _)
    · exact hr
    · exact (hr.trans (leaseMoves_answerStatus _ _ _ _)).trans (leaseMoves_answerOpt _ _ _ _)

theorem leaseMoves_landActivate (b : Bank) (row : Row) (s : State) :
    LeaseMoves s (landActivate b row s) :=
  .after (.foldl (fun u (x : Holder) => leaseMoves_settleHolder b x.host u) _ _) rfl

theorem leaseMoves_landPrecharge (b : Bank) (s : State) : LeaseMoves s (landPrecharge b s) :=
  .after (leaseMoves_serveBank b _) rfl

/-! ## Row commands and bursts (chapters 3 and 4) -/

theorem leaseMoves_issueActivate (b : Bank) (s : State) : LeaseMoves s (issueActivate b s) := by
  unfold issueActivate
  split <;> rfl

theorem leaseMoves_issueBurst (i : Nat) (s : State) : LeaseMoves s (issueBurst i s) := by
  unfold issueBurst
  split
  · exact .refl s
  · dsimp only
    split
    · rfl
    · exact .ite (.after (leaseMoves_answerStatus _ _ _ _) rfl) rfl

theorem leaseMoves_retireEntry (i : Nat) (e : Transfer) (s : State) :
    LeaseMoves s (retireEntry i e s) := by
  have hlist : LeaseMoves s (s.setList (s.xfer.list.eraseIdx i)) := rfl
  have hend : ∀ u, LeaseMoves s u → LeaseMoves s (takeIntake (finishHolder e.bank e.host u)) :=
    fun u hu => (hu.trans (leaseMoves_finishHolder _ _ u)).trans (leaseMoves_takeIntake _)
  unfold retireEntry
  refine hend _ ?_
  split
  · exact .ite hlist (hlist.trans (leaseMoves_answer _ _ _ _ _))
  · exact hlist

theorem leaseMoves_countBurst (i : Nat) (s : State) : LeaseMoves s (countBurst i s) := by
  unfold countBurst
  split
  · exact .refl s
  · exact .ite (leaseMoves_retireEntry _ _ s) rfl

theorem leaseMoves_completeBurst (b : Bank) (s : State) : LeaseMoves s (completeBurst b s) := by
  unfold completeBurst
  dsimp only
  split
  · rfl
  · exact .after (leaseMoves_countBurst _ _) rfl

/-! ## Requests to the lease table and the transfer engine -/

theorem leaseMoves_takeOpen (h : HostId) (tag : Tag) (bank : Byte) (row : BitVec 16)
    (mode : LeaseMode) (wait : BitVec 16) (s : State) :
    LeaseMoves s (takeOpen h tag bank row mode wait s) := by
  have hans := fun st => leaseMoves_answerStatus h tag st s
  have hjoin : ∀ b, LeaseMoves s (joinBank h tag b s) := fun b =>
    .ite (.after (leaseMoves_answerStatus _ _ _ _) rfl) rfl
  unfold takeOpen
  split
  · split
    · exact hans _
    · exact .ite (hjoin _) (.ite rfl (.after (leaseMoves_revokeOverstayed _ _) rfl))
  · exact hans _

theorem leaseMoves_takeClose (h : HostId) (tag : Tag) (bank : Byte) (s : State) :
    LeaseMoves s (takeClose h tag bank s) := by
  have hans := fun st => leaseMoves_answerStatus h tag st s
  unfold takeClose closeAsHolder closeAsWaiter
  split
  · exact hans _
  · split
    · split
      · exact leaseMoves_closeHolder _ h (some tag) s
      · rfl
      · exact hans _
      · exact hans _
    · exact .ite ((leaseMoves_withdrawWaiter _ h .withdrawn s).trans
        (leaseMoves_answerStatus _ _ _ _)) (hans _)

theorem leaseMoves_transferRequest (q : TransferReq) (s : State) :
    LeaseMoves s (transferRequest q s) := by
  have hhand : LeaseMoves s (handTransfer q s) :=
    .ite (.of_changes (changesOnly_checkTransfer q s) (by decide)) rfl
  unfold transferRequest
  split
  · exact hhand
  · exact hhand
  all_goals exact leaseMoves_answerStatus _ _ _ s

theorem leaseMoves_expireHold (b : Bank) (h : HostId) (x : Holder) (s : State) :
    LeaseMoves s (expireHold b h x s) :=
  .ite rfl (.after (leaseMoves_takeIntake _) (leaseMoves_revoke b h .holdExpired s))

theorem leaseMoves_takeQueryBank (h : HostId) (tag : Tag) (bank : Byte) (s : State) :
    LeaseMoves s (takeQueryBank h tag bank s) := by
  unfold takeQueryBank
  split <;> exact leaseMoves_answer _ _ _ _ s

/-! ## Links and ports (chapter 8) -/

theorem leaseMoves_discardFrame (h : HostId) (f : FrameHdr) (s : State) :
    LeaseMoves s (discardFrame h f s) := by
  unfold discardFrame
  split <;> rfl

theorem leaseMoves_countIdle (h : HostId) (s : State) : LeaseMoves s (countIdle h s) := .ite rfl rfl

theorem leaseMoves_takeNoteAck (h : HostId) (n : Seq) (s : State) :
    LeaseMoves s (takeNoteAck h n s) := .ite rfl rfl

theorem leaseMoves_completeJoins (s : State) : LeaseMoves s (completeJoins s) := by
  refine .ite (.after (.foldl (fun t h => ?_) _ _) rfl) (.refl s)
  split
  · exact .after rfl (leaseMoves_answer _ _ _ _ t)
  · rfl

theorem leaseMoves_refuseJoining (s : State) : LeaseMoves s (refuseJoining s) := by
  refine .foldl (fun u h => ?_) allHosts s
  exact .ite (.trans (leaseMoves_answerOpt h _ _ u) rfl) (.refl u)

theorem leaseMoves_completeLeave (h : HostId) (s : State) : LeaseMoves s (completeLeave h s) :=
  .of_changes (completeLeave_changes h s) (by decide)

end Sys2Proof.Maintenance
end

section
/-! PROOFS. The operations that leave the standby controller's part alone (`StandbyKept`): STANDBY in the
gate, the channel state, the maintenance operation in flight, the standby state and the pending exit stay,
and no standby operation is offered. They are those of the account, the sequencer, the agreement unit and
the ports, but for the controller's own. -/

namespace Sys2Proof.Maintenance

open Sys2Proof Sys2Proof.Machine Sys2Proof.Safety Sys2Proof.Leases Sys2Proof.Configuration

/-- R68: an operation of the standby controller. -/
def isStandbyOp : MaintOp → Bool
  | .standbyEnter | .standbyExit => true
  | .refresh | .shortCal | .longCal | .modeLoad _ | .trainStep _ _ => false

/-- The offers of standby operations. -/
def standbyOffers (s : State) : List Offer := s.chan.offers.filter fun o => isStandbyOp o.op

/-- What the laws of the standby controller read of the state beside the offers. -/
structure StandbyView where
  gate        : Bool
  chan        : ChannelState
  maint       : Option MaintFlight
  standing    : StandbyState
  exitPending : Bool

def standbyView (s : State) : StandbyView :=
  ⟨s.gate.standby, s.chan.state, s.chan.maint, s.standby.state, s.standby.exitPending⟩

/-- A step that leaves the standby controller's part alone and offers no standby operation. -/
structure StandbyKept (s t : State) : Prop where
  view : standbyView t = standbyView s
  offers : (standbyOffers t).Sublist (standbyOffers s)

namespace StandbyKept

variable {s t u : State}

theorem gate (h : StandbyKept s t) : t.gate.standby = s.gate.standby := congrArg StandbyView.gate h.view

theorem chan (h : StandbyKept s t) : t.chan.state = s.chan.state := congrArg StandbyView.chan h.view

theorem maint (h : StandbyKept s t) : t.chan.maint = s.chan.maint := congrArg StandbyView.maint h.view

theorem standing (h : StandbyKept s t) : t.standby.state = s.standby.state :=
  congrArg StandbyView.standing h.view

theorem exitPending (h : StandbyKept s t) : t.standby.exitPending = s.standby.exitPending :=
  congrArg StandbyView.exitPending h.view

theorem refl (s : State) : StandbyKept s s := ⟨rfl, .refl _⟩

theorem trans (h : StandbyKept s t) (k : StandbyKept t u) : StandbyKept s u :=
  ⟨k.view.trans h.view, k.offers.trans h.offers⟩

/-- An operation that follows an update of other parts. -/
theorem after (k : StandbyKept t u) (h : StandbyKept s t) : StandbyKept s u := h.trans k

theorem ite {p : Prop} [Decidable p] (ht : StandbyKept s t) (hu : StandbyKept s u) :
    StandbyKept s (if p then t else u) := by
  split
  · exact ht
  · exact hu

theorem of_moves (h : LeaseMoves s t) : StandbyKept s t := by
  rw [h]
  exact ⟨rfl, .refl _⟩

/-- A standby operation that is offered has been before. -/
theorem offered_before (h : StandbyKept s t) {o : Offer} (ho : o ∈ t.chan.offers)
    (hop : isStandbyOp o.op = true) : o ∈ s.chan.offers :=
  List.mem_of_mem_filter (h.offers.subset (List.mem_filter.mpr ⟨ho, hop⟩))

end StandbyKept

/-! ## Offers and gate reasons -/

theorem standbyKept_offer {op : MaintOp} (by_ : Requester) (s : State)
    (hop : isStandbyOp op = false) : StandbyKept s (offer op by_ s) := by
  refine ⟨rfl, ?_⟩
  simp [standbyOffers, offer, hop]

theorem standbyKept_withdraw (by_ : Requester) (s : State) : StandbyKept s (withdraw by_ s) :=
  ⟨rfl, List.filter_sublist.filter _⟩

theorem standbyKept_setGate {g : Gate} (s : State) (hg : g.standby = s.gate.standby) :
    StandbyKept s (s.setGate g) := by
  refine ⟨?_, .refl _⟩
  simp only [standbyView, State.setGate_gate, hg]
  rfl

theorem gate_put_standby {r : GateReason} (g : Gate) (v : Bool) (hr : r ≠ .standby) :
    (g.put r v).standby = g.standby := by
  cases r with
  | standby => exact absurd rfl hr
  | startup | refresh | config => rfl

theorem standbyKept_addReason {r : GateReason} (s : State) (hr : r ≠ .standby) :
    StandbyKept s (addReason r s) := standbyKept_setGate s (gate_put_standby _ _ hr)

theorem standbyKept_removeReason {r : GateReason} (s : State) (hr : r ≠ .standby) :
    StandbyKept s (removeReason r s) := by
  have hg : StandbyKept s (s.setGate (s.gate.put r false)) :=
    standbyKept_setGate s (gate_put_standby _ _ hr)
  exact .ite (hg.trans (.of_moves (leaseMoves_serveAll _))) hg

/-! ## The account and the sweep (chapters 5 and 10) -/

theorem standbyKept_offerStep (s : State) : StandbyKept s (offerStep s) := by
  unfold offerStep
  split
  · exact .refl s
  · exact .ite ⟨rfl, .refl _⟩ (.after (standbyKept_offer _ _ rfl) ⟨rfl, .refl _⟩)

theorem standbyKept_judgeYield (s : State) : StandbyKept s (judgeYield s) :=
  .ite (.refl s) (.ite (.ite (.after (standbyKept_withdraw _ _) ⟨rfl, .refl _⟩) (.refl s))
    (.ite (standbyKept_offerStep s) (.refl s)))

theorem standbyKept_enterPressed (s : State) : StandbyKept s (enterPressed s) :=
  .trans (t := addReason .refresh (s.setAccount _))
    (.after (standbyKept_addReason _ (by decide)) ⟨rfl, .refl _⟩) ⟨rfl, .refl _⟩

theorem standbyKept_judgeAccount (s : State) : StandbyKept s (judgeAccount s) :=
  .after (standbyKept_judgeYield _) (.ite (standbyKept_enterPressed s) (.refl s))

theorem standbyKept_makeAccountOffer (s : State) : StandbyKept s (makeAccountOffer s) := by
  have hgate : ∀ a, StandbyKept s (addReason .refresh (s.setAccount a)) := fun a =>
    .after (standbyKept_addReason _ (by decide)) ⟨rfl, .refl _⟩
  exact .ite (.after (standbyKept_offer _ _ rfl) (hgate _))
    (.after (standbyKept_offer _ _ rfl) (hgate _))

theorem standbyKept_afterAccountOp (s : State) : StandbyKept s (afterAccountOp s) := by
  have hoffer := standbyKept_makeAccountOffer s
  exact .ite hoffer (.ite (.ite hoffer (.after (standbyKept_removeReason _ (by decide))
    ⟨rfl, .refl _⟩)) (standbyKept_removeReason s (by decide)))

theorem standbyKept_beginAttempt (lane : Lane) (kind : SweepKind) (s : State) :
    StandbyKept s (beginAttempt lane kind s) := by
  unfold beginAttempt
  split
  · exact .after (standbyKept_offerStep _) ⟨rfl, .refl _⟩
  · split
    · exact .refl s
    · exact .after (standbyKept_offerStep _) ⟨rfl, .refl _⟩

/-! ## The agreement unit (chapter 6) -/

theorem standbyKept_setAgree (a : Agreement) (s : State) : StandbyKept s (s.setAgree a) :=
  ⟨rfl, .refl _⟩

theorem standbyKept_notifySet (l : HostSet) (n : Notification) (s : State) :
    StandbyKept s (notifySet l n s) := ⟨rfl, .refl _⟩

theorem standbyKept_resolveProposal (o : ProposalOutcome) (s : State) :
    StandbyKept s (resolveProposal o s) := by
  unfold resolveProposal
  split <;> exact ⟨rfl, .refl _⟩

theorem standbyKept_applyLight (s : State) : StandbyKept s (applyLight s) :=
  .after (standbyKept_judgeAccount _) (.after (standbyKept_resolveProposal _ _) ⟨rfl, .refl _⟩)

theorem standbyKept_abandon (r : AbandonReason) (s : State) : StandbyKept s (abandon r s) :=
  .after (standbyKept_resolveProposal _ _)
    (.after (standbyKept_removeReason _ (by decide)) ⟨rfl, .refl _⟩)

theorem standbyKept_applyBurstOrder (s : State) : StandbyKept s (applyBurstOrder s) :=
  .ite ⟨rfl, .refl _⟩ (.after (standbyKept_offer _ _ rfl) ⟨rfl, .refl _⟩)

theorem standbyKept_beginApply (s : State) : StandbyKept s (beginApply s) := by
  unfold beginApply
  split
  · exact .refl s
  · exact .ite (.after (standbyKept_beginAttempt 0 .retrain _) ⟨rfl, .refl _⟩)
      (.after (standbyKept_applyBurstOrder _) ⟨rfl, .refl _⟩)

theorem standbyKept_draining (p : Proposal) (s : State) : StandbyKept s (draining p s) :=
  .trans (standbyKept_addReason (r := .config) s (by decide)) ⟨rfl, .refl _⟩

theorem standbyKept_startDrain (s : State) : StandbyKept s (startDrain s) := by
  cases hp : s.agree.proposal with
  | none =>
    rw [startDrain, hp]
    exact .refl s
  | some p =>
    rw [startDrain_eq hp]
    exact .ite ((standbyKept_draining p s).trans (standbyKept_beginApply _))
      (standbyKept_draining p s)

theorem standbyKept_judgeBallot (s : State) : StandbyKept s (judgeBallot s) := by
  unfold judgeBallot ballotWon
  split
  · exact .refl s
  · refine .ite ?_ (.refl s)
    split
    · exact .refl s
    · exact .ite (standbyKept_startDrain s) (standbyKept_applyLight s)

theorem standbyKept_detachAgreement (h : HostId) (s : State) :
    StandbyKept s (detachAgreement h s) := by
  unfold detachAgreement
  split
  · exact .ite (standbyKept_abandon _ s)
      (.ite (.after (standbyKept_judgeBallot _) ⟨rfl, .refl _⟩) (.refl s))
  all_goals exact ⟨rfl, .refl _⟩

theorem standbyKept_commitProposal (s : State) : StandbyKept s (commitProposal s) := by
  have hlive : StandbyKept s (recheckWaiters (stagedLive s)) :=
    .after (.of_moves (leaseMoves_recheckWaiters _)) (standbyKept_setAgree _ s)
  have hr : StandbyKept s (recordTaken s) := hlive.trans (standbyKept_setAgree _ _)
  rw [commitProposal_eq]
  exact ((hr.trans (standbyKept_removeReason _ (by decide))).trans
    (standbyKept_resolveProposal _ _)).trans (standbyKept_judgeAccount _)

theorem standbyKept_takePropose (h : HostId) (tag : Tag) (base : BitVec 16)
    (items : List RawItem) (s : State) : StandbyKept s (takePropose h tag base items s) := by
  have hans : ∀ st p, StandbyKept s (answer h tag st p s) := fun st p =>
    .of_moves (leaseMoves_answer h tag st p s)
  have htold : ∀ l n u, StandbyKept u (judgeBallot (notifySet l n u)) := fun l n u =>
    .after (standbyKept_judgeBallot _) (standbyKept_notifySet l n u)
  have hpost : ∀ l, StandbyKept s (postProposal h tag l s) := fun l =>
    (StandbyKept.after (.of_moves (leaseMoves_answer h tag .ok _ _))
      (standbyKept_setAgree _ s)).trans (htold _ _ _)
  refine .ite (hans _ _) (.ite (hans _ _) (.ite (hans _ _) ?_))
  split
  · exact hans _ _
  · exact hpost _

theorem standbyKept_takeVote (h : HostId) (tag : Tag) (number : Seq) (accept : Bool) (s : State) :
    StandbyKept s (takeVote h tag number accept s) := by
  have hans : ∀ st, StandbyKept s (answerStatus h tag st s) := fun st =>
    .of_moves (leaseMoves_answerStatus h tag st s)
  unfold takeVote
  split
  · split
    · exact hans _
    · exact .ite ((hans .ok).trans (.after (standbyKept_judgeBallot _) ⟨rfl, .refl _⟩))
        ((hans _).trans (standbyKept_abandon _ _))
  · exact hans _

/-! ## Ports and the park set (chapters 7 and 8) -/

theorem standbyKept_leavePark (h : HostId) (s : State) : StandbyKept s (leavePark h s) :=
  ⟨rfl, .refl _⟩

theorem standbyKept_linkDown (h : HostId) (s : State) : StandbyKept s (linkDown h s) := by
  have hdown : ∀ x, StandbyKept s (tearDown h (s.setHost h x)) := fun x =>
    .of_moves (.after (leaseMoves_tearDown h _) rfl)
  have hend : ∀ u, StandbyKept u (takeIntake (notifyAttached (.hostLeft h true) u)) := fun u =>
    .of_moves (.after (leaseMoves_takeIntake _) rfl)
  unfold linkDown
  dsimp only
  split
  · exact (((hdown _).trans (standbyKept_detachAgreement h _)).trans
      (standbyKept_leavePark h _)).trans (hend _)
  · exact (hdown _).trans (hend _)
  all_goals exact ⟨rfl, .refl _⟩

theorem standbyKept_takeNak (h : HostId) (n : Seq) (s : State) : StandbyKept s (takeNak h n s) :=
  .ite (.ite (standbyKept_linkDown h s) (.of_moves rfl)) (.ite (.of_moves rfl) (.refl s))

theorem standbyKept_takeLeave (h : HostId) (s : State) : StandbyKept s (takeLeave h s) := by
  have hw : StandbyKept s (withdrawAndClose h (s.setPort h .leaving)) :=
    .of_moves (.after (leaseMoves_withdrawAndClose h _) rfl)
  exact ((hw.trans (standbyKept_detachAgreement h _)).trans (standbyKept_leavePark h _)).trans
    (.of_moves (leaseMoves_completeLeave h _))

theorem standbyKept_takePark (h : HostId) (tag : Tag) (s : State) :
    StandbyKept s (takePark h tag s) := by
  unfold takePark
  split
  · exact .of_moves (leaseMoves_answerStatus _ _ _ s)
  · exact .after (.of_moves (leaseMoves_answerStatus _ _ _ _)) ⟨rfl, .refl _⟩

/-! ## Deadlines and phases -/

theorem standbyKept_expireInterval (s : State) : StandbyKept s (expireInterval s) := by
  have hraise : ∀ u, StandbyKept u (raiseOwed u) := fun u => by
    have hj : StandbyKept u
        (judgeAccount (u.setAccount { u.account with owed := u.account.owed + 1 })) :=
      .after (standbyKept_judgeAccount _) ⟨rfl, .refl _⟩
    exact .ite (hj.trans (.of_moves (leaseMoves_massRevoke .refresh _))) hj
  exact .ite (.after (hraise _) ⟨rfl, .refl _⟩) ⟨rfl, .refl _⟩

theorem standbyKept_expireDrain (s : State) :
    StandbyKept s (massRevoke .config (clearDrainDeadline s)) := by
  refine .after (.of_moves (leaseMoves_massRevoke _ _)) ?_
  unfold clearDrainDeadline
  split <;> exact ⟨rfl, .refl _⟩

theorem standbyKept_endSettle (s : State) : StandbyKept s (endSettle s) :=
  .after (standbyKept_offer _ _ rfl) ⟨rfl, .refl _⟩

theorem standbyKept_endLock (s : State) : StandbyKept s (endLock s) := by
  have hj : ∀ q a, StandbyKept s
      (judgeAccount ((offer .longCal .sequencer (s.setSeq q)).setAccount a)) := fun q a =>
    .after (standbyKept_judgeAccount _)
      (.trans (t := offer .longCal .sequencer (s.setSeq q))
        (.after (standbyKept_offer _ _ rfl) ⟨rfl, .refl _⟩) ⟨rfl, .refl _⟩)
  exact .ite ((hj _ _).trans (standbyKept_makeAccountOffer _)) (hj _ _)

/-! ## The ends of loads and training steps, once the operation has left the channel -/

theorem standbyKept_countModeLoad (s : State) : StandbyKept s (countModeLoad s) :=
  .ite (.after (standbyKept_offer _ _ rfl) ⟨rfl, .refl _⟩) ⟨rfl, .refl _⟩

theorem standbyKept_loadSetting (m : ModeSetting) (s : State) : StandbyKept s (loadSetting m s) := by
  cases m <;> exact ⟨rfl, .refl _⟩

theorem standbyKept_becomeReady (s : State) : StandbyKept s (becomeReady s) :=
  .after (.of_moves (leaseMoves_completeJoins _))
    (.after (standbyKept_removeReason _ (by decide)) ⟨rfl, .refl _⟩)

theorem standbyKept_laneTrained (w : Sweep) (s : State) : StandbyKept s (laneTrained w s) := by
  have hatt : ∀ lane kind q, StandbyKept s (beginAttempt lane kind (s.setSeq q)) :=
    fun lane kind q => .after (standbyKept_beginAttempt lane kind _) ⟨rfl, .refl _⟩
  unfold laneTrained
  split
  · exact .ite (.after (standbyKept_becomeReady _) ⟨rfl, .refl _⟩) (hatt _ _ _)
  · split
    · exact .refl s
    · exact .ite (.after (standbyKept_applyBurstOrder _) ⟨rfl, .refl _⟩) (hatt _ _ _)

theorem standbyKept_attemptEnds (w : Sweep) (s : State) : StandbyKept s (attemptEnds w s) := by
  have hatt : ∀ kind, StandbyKept s (beginAttempt w.lane kind s) := fun kind =>
    standbyKept_beginAttempt w.lane kind s
  unfold attemptEnds
  split
  · exact .ite (hatt _) (.after (.of_moves (leaseMoves_refuseJoining _)) ⟨rfl, .refl _⟩)
  · split
    · exact .refl s
    · exact .ite (hatt _) (.after (standbyKept_abandon _ _) ⟨rfl, .refl _⟩)

theorem standbyKept_actOnSample (sample : Bool) (w : Sweep) (s : State) :
    StandbyKept s (actOnSample sample w s) :=
  .ite (standbyKept_laneTrained w s)
    (.ite (standbyKept_attemptEnds w s) (.after (standbyKept_offerStep _) ⟨rfl, .refl _⟩))

end Sys2Proof.Maintenance
end

section
/-! PROOFS. The laws of the standby controller and the channel state (R74, R135, R140, R141), kept by the
operations that leave the controller's part alone, by the issue and the end of a maintenance operation, and
by the controller's own operations. -/

namespace Sys2Proof.Maintenance

open Sys2Proof Sys2Proof.Machine Sys2Proof.Safety Sys2Proof.Leases

/-! ## Operations offered or in flight -/

theorem inFlight_iff (s : State) (op : MaintOp) :
    s.inFlight op = true ↔ ∃ m, s.chan.maint = some m ∧ m.offer.op = op := by
  unfold State.inFlight
  cases s.chan.maint <;> simp

theorem offered_false_iff (s : State) (op : MaintOp) :
    s.offered op = false ↔ ∀ o ∈ s.chan.offers, o.op ≠ op := by
  simp [State.offered]

theorem mem_maintOps (s : State) (o : Offer) :
    o ∈ maintOps s ↔ o ∈ s.chan.offers ∨ ∃ m, s.chan.maint = some m ∧ m.offer = o := by
  unfold maintOps
  cases s.chan.maint <;> simp [eq_comm]

/-- What is in flight adds one to the count of its kind. -/
def flightCount (s : State) (op : MaintOp) : Nat := if s.inFlight op = true then 1 else 0

theorem opCount_eq (s : State) (op : MaintOp) :
    opCount s op = (s.chan.offers.filter fun o => decide (o.op = op)).length + flightCount s op := by
  unfold opCount maintOps flightCount State.inFlight
  cases hm : s.chan.maint with
  | none => simp
  | some m => by_cases ho : m.offer.op = op <;> simp [ho]

/-- No operation of a kind is offered beside the one in flight. -/
theorem not_offered_of_flight {s : State} {op : MaintOp} (hc : opCount s op ≤ 1)
    (hf : s.inFlight op = true) : ∀ o ∈ s.chan.offers, o.op ≠ op := by
  have hlen : (s.chan.offers.filter fun o => decide (o.op = op)).length = 0 := by
    rw [opCount_eq, flightCount, if_pos hf] at hc
    omega
  intro o ho hop
  have := List.filter_eq_nil_iff.mp (List.length_eq_zero_iff.mp hlen) o ho
  simp [hop] at this

theorem opCount_none {s : State} {op : MaintOp} (ho : ∀ o ∈ maintOps s, o.op ≠ op) :
    opCount s op = 0 := by
  unfold opCount
  rw [List.filter_eq_nil_iff.mpr fun o hm => by simpa using ho o hm]
  rfl

theorem filter_standbyOffers (s : State) {op : MaintOp} (hop : isStandbyOp op = true) :
    (standbyOffers s).filter (fun o => decide (o.op = op)) =
      s.chan.offers.filter fun o => decide (o.op = op) := by
  rw [standbyOffers, List.filter_filter]
  refine List.filter_congr fun o _ => ?_
  by_cases ho : o.op = op <;> simp [ho, hop]

/-! ## Steps that leave the controller's part alone -/

namespace StandbyKept

variable {s t : State}

theorem inFlight (h : StandbyKept s t) (op : MaintOp) : t.inFlight op = s.inFlight op := by
  simp only [State.inFlight, h.maint]

theorem opCount (h : StandbyKept s t) {op : MaintOp} (hop : isStandbyOp op = true) :
    Safety.opCount t op ≤ Safety.opCount s op := by
  have hl := (h.offers.filter fun o => decide (o.op = op)).length_le
  rw [filter_standbyOffers t hop, filter_standbyOffers s hop] at hl
  rw [opCount_eq, opCount_eq, flightCount, flightCount, h.inFlight]
  omega

theorem mem_maintOps (h : StandbyKept s t) {o : Offer} (ho : o ∈ maintOps t)
    (hop : isStandbyOp o.op = true) : o ∈ maintOps s := by
  rw [Maintenance.mem_maintOps, h.maint] at ho
  exact (Maintenance.mem_maintOps s o).mpr (ho.imp_left fun hm => h.offered_before hm hop)

theorem sound (h : StandbyKept s t) (hs : StandbySound s) : StandbySound t := by
  obtain ⟨hgate, hmaint, hself, henter, hexit, hexiting, hone, hone', hpending⟩ := hs
  unfold StandbySound
  simp only [h.gate, h.chan, h.maint, h.standing, h.exitPending, h.inFlight]
  exact ⟨hgate, hmaint, hself, fun o ho hop => henter o (h.mem_maintOps ho (by rw [hop]; rfl)) hop,
    fun o ho hop => hexit o (h.offered_before ho (by rw [hop]; rfl)) hop, hexiting,
    (h.opCount rfl).trans hone, (h.opCount rfl).trans hone', hpending⟩

end StandbyKept

/-- R135, R140: outside SELF_REFRESH, with STANDBY_ENTER not in flight, no exit is offered or pending. -/
theorem no_exit {s : State} (hs : StandbySound s) (hst : s.standby.state ≠ .selfRefresh)
    (hf : s.inFlight .standbyEnter = false) :
    (∀ o ∈ s.chan.offers, o.op ≠ .standbyExit) ∧ s.standby.exitPending = false := by
  obtain ⟨-, -, -, -, hexit, -, -, -, hpending⟩ := hs
  refine ⟨fun o ho hop => ?_, ?_⟩
  · rcases (hexit o ho hop).2 with h | ⟨-, h⟩
    · exact hst h
    · simp [hf] at h
  · rw [Bool.eq_false_iff]
    intro h
    rcases hpending h with ⟨-, h⟩ | h
    · simp [hf] at h
    · exact hst h

/-- R135: outside ENTERING no STANDBY_ENTER is offered or in flight. -/
theorem no_enter {s : State} (hs : StandbySound s) (hst : s.standby.state ≠ .entering) :
    (∀ o ∈ maintOps s, o.op ≠ .standbyEnter) ∧ s.inFlight .standbyEnter = false := by
  obtain ⟨-, -, -, henter, -⟩ := hs
  have hno : ∀ o ∈ maintOps s, o.op ≠ .standbyEnter := fun o ho hop => hst (henter o ho hop).2
  refine ⟨hno, ?_⟩
  rw [Bool.eq_false_iff, ne_eq, inFlight_iff]
  rintro ⟨m, hm, hop⟩
  exact hno m.offer ((mem_maintOps s _).mpr (.inr ⟨m, hm, rfl⟩)) hop

/-- R74: with an operation in flight the channel is in MAINTENANCE. -/
theorem maintenance_of_flight {s : State} {op : MaintOp} (hs : StandbySound s)
    (hf : s.inFlight op = true) :
    s.chan.state = .maintenance ∧ s.standby.state ≠ .selfRefresh := by
  obtain ⟨-, hmaint, hself, -⟩ := hs
  obtain ⟨m, hm, -⟩ := (inFlight_iff s op).mp hf
  have hstate : s.chan.state = .maintenance := hmaint.mpr (by simp [hm])
  refine ⟨hstate, fun h => ?_⟩
  rw [hself.mpr h] at hstate
  cases hstate

theorem flight_unique {s : State} {op op' : MaintOp} (hf : s.inFlight op = true)
    (hne : op ≠ op') : s.inFlight op' = false := by
  obtain ⟨m, hm, hop⟩ := (inFlight_iff s op).mp hf
  simpa [State.inFlight, hm, hop] using hne

/-! ## The end of a maintenance operation (R74) -/

/-- R74: an operation of another block leaves the channel ACTIVE. -/
theorem landMaint_sound {s : State} {op : MaintOp} (hf : s.inFlight op = true)
    (hop : isStandbyOp op = false) (hs : StandbySound s) : StandbySound (landMaint .active s) := by
  have hin : s.inFlight .standbyEnter = false := flight_unique hf (by rintro rfl; cases hop)
  obtain ⟨-, hst⟩ := maintenance_of_flight hs hf
  obtain ⟨hnone, hpend⟩ := no_exit hs hst hin
  obtain ⟨hgate, -, -, henter, -, -, hone, -, -⟩ := hs
  have hops : maintOps (landMaint .active s) = s.chan.offers := by simp [maintOps, landMaint]
  refine ⟨hgate, by simp [landMaint], by simp [landMaint, hst],
    fun o ho hop => henter o ((mem_maintOps s o).mpr (.inl (hops ▸ ho))) hop,
    fun o ho hop => absurd hop (hnone o ho), by simp [State.inFlight, landMaint], ?_, ?_, ?_⟩
  · rw [opCount_eq] at hone ⊢
    simp only [flightCount, landMaint, State.inFlight, State.setChan_chan]
    simp only [Bool.false_eq_true, if_false]
    omega
  · rw [opCount_none fun o ho => hnone o (hops ▸ ho)]
    exact Nat.zero_le 1
  · intro h
    have hfalse : (landMaint .active s).standby.exitPending = false := hpend
    simp [hfalse] at h

/-! ## The issue of a maintenance operation (R74, R77) -/

/-- An issue takes the offer out of the set and puts it in flight. -/
theorem maintOps_issueMaint {s : State} {o : Offer} (hm : s.chan.maint = none)
    (ho : o ∈ s.chan.offers) : (maintOps (issueMaint o s)).Perm (maintOps s) := by
  have hbefore : maintOps s = s.chan.offers := by simp [maintOps, hm]
  have hafter : maintOps (issueMaint o s) = s.chan.offers.erase o ++ [o] := rfl
  rw [hbefore, hafter]
  exact (List.perm_append_singleton o _).trans (List.perm_cons_erase ho).symm

theorem opCount_issueMaint {s : State} {o : Offer} (hm : s.chan.maint = none)
    (ho : o ∈ s.chan.offers) (op : MaintOp) : opCount (issueMaint o s) op = opCount s op :=
  ((maintOps_issueMaint hm ho).filter _).length_eq

/-- What the arbiter takes stands among the offers, on a free bus, and is eligible. -/
theorem maintTaken_offer {s : State} {o : Offer} (h : s.maintTaken = some o) :
    s.chan.maint = none ∧ o ∈ s.chan.offers ∧ Eligible s o := by
  have ha : s.arbiter = some (.maint o) := by
    unfold State.maintTaken at h
    split at h
    next ha => rw [ha, Option.some.inj h]
    all_goals cases h
  obtain ⟨ho, he⟩ : Arbiter.MayTake s (.maint o) := Arbiter.arbiter_mayTake ha
  exact ⟨((Arbiter.busFree_iff s).mp (Arbiter.arbiter_cases ha).1).1, ho, he⟩

theorem issueMaint_sound {s : State} {o : Offer} (ht : s.maintTaken = some o)
    (hop : o.op ≠ .standbyExit) (hs : StandbySound s) : StandbySound (issueMaint o s) := by
  obtain ⟨hm, ho, -, -, hallows⟩ := maintTaken_offer ht
  have hidle : s.inFlight .standbyEnter = false := by simp [State.inFlight, hm]
  have hchan : s.chan.state ≠ .selfRefresh := by
    rintro h
    simp [h, hop] at hallows
  have hperm := maintOps_issueMaint hm ho
  obtain ⟨hgate, -, hself, henter, -, -, hone, hone', -⟩ := id hs
  have hst : s.standby.state ≠ .selfRefresh := fun h => hchan (hself.mpr h)
  obtain ⟨hnone, hpend⟩ := no_exit hs hst hidle
  refine ⟨hgate, by simp [issueMaint], by simp [issueMaint, hst],
    fun x hx => henter x (hperm.mem_iff.mp hx),
    fun x hx hxop => absurd hxop (hnone x (List.mem_of_mem_erase hx)),
    by simp [State.inFlight, issueMaint, hop], (opCount_issueMaint hm ho _).trans_le hone,
    (opCount_issueMaint hm ho _).trans_le hone', fun h => ?_⟩
  have hfalse : (issueMaint o s).standby.exitPending = false := hpend
  simp [hfalse] at h

/-- R141: STANDBY_EXIT issues only in SELF_REFRESH, and the controller is then EXITING. -/
theorem issueExit_sound {s : State} {o : Offer} (ht : s.maintTaken = some o)
    (hop : o.op = .standbyExit) (hs : StandbySound s) : StandbySound (issueExit o s) := by
  obtain ⟨hm, ho, -, -, hallows⟩ := maintTaken_offer ht
  obtain ⟨hgate, -, hself, henter, hexit, -, hone, hone', -⟩ := id hs
  have hst : s.standby.state = .selfRefresh := by
    obtain ⟨-, h | ⟨-, h⟩⟩ := hexit o ho hop
    · exact h
    · simp [State.inFlight, hm] at h
  have hno := (no_enter hs (by simp [hst])).1
  have hperm : (maintOps (issueExit o s)).Perm (maintOps s) := maintOps_issueMaint hm ho
  have hflight : (issueExit o s).inFlight .standbyExit = true := by
    simp [State.inFlight, issueExit, issueMaint, hop]
  have hcount : ∀ op, opCount (issueExit o s) op = opCount s op := opCount_issueMaint hm ho
  refine ⟨?_, by simp [issueExit, issueMaint], by simp [issueExit, issueMaint],
    fun x hx hxop => absurd hxop (hno x (hperm.mem_iff.mp hx)),
    fun x hx hxop => ?_, fun _ => rfl, (hcount _).trans_le hone, (hcount _).trans_le hone', ?_⟩
  · have : s.gate.standby = true := hgate.mpr (by simp [hst])
    simp [issueExit, issueMaint, this]
  · exact absurd hxop (not_offered_of_flight ((hcount _).trans_le hone') hflight x hx)
  · simp [issueExit]

/-! ## The way into standby (R136 to R138) -/

theorem enterEntering_sound {s : State} (hr : s.standby.state = .running)
    (hs : StandbySound s) : StandbySound (enterEntering s) := by
  have hne : s.standby.state ≠ .entering := by simp [hr]
  obtain ⟨hno, hidle⟩ := no_enter hs hne
  obtain ⟨hnone, hpend⟩ := no_exit hs (by simp [hr]) hidle
  obtain ⟨-, hmaint, hself, -, -, hexiting, hone, hone', -⟩ := hs
  refine ⟨by simp [enterEntering, addReason, Gate.put], hmaint, ?_,
    fun o ho hop => absurd hop (hno o ho), fun o ho hop => absurd hop (hnone o ho),
    fun h => ?_, hone, hone', fun h => ?_⟩
  · have : s.chan.state ≠ .selfRefresh := fun h => by simp [hself.mp h] at hr
    simp [enterEntering, addReason, this]
  · have := hexiting h
    simp [hr] at this
  · have hfalse : (enterEntering s).standby.exitPending = false := hpend
    simp [hfalse] at h

/-- An offer joins the operations offered or in flight. -/
theorem mem_maintOps_offer (op : MaintOp) (by_ : Requester) (s : State) (o : Offer) :
    o ∈ maintOps (offer op by_ s) ↔ o ∈ maintOps s ∨ o = ⟨op, by_⟩ := by
  simp only [mem_maintOps, offer, State.setChan_chan, List.mem_append, List.mem_singleton]
  exact or_right_comm

/-- An offer adds one to the count of its kind. -/
theorem opCount_offer (op op' : MaintOp) (by_ : Requester) (s : State) :
    opCount (offer op by_ s) op' = opCount s op' + if op = op' then 1 else 0 := by
  have hf : flightCount (offer op by_ s) op' = flightCount s op' := rfl
  rw [opCount_eq, opCount_eq, hf]
  by_cases hop : op = op'
  · simp [offer, hop]
    omega
  · simp [offer, hop]

/-- An operation that is neither offered nor in flight. -/
theorem opCount_zero {s : State} {op : MaintOp} (ho : s.offered op = false)
    (hf : s.inFlight op = false) : opCount s op = 0 := by
  rw [opCount_eq, flightCount, hf,
    List.filter_eq_nil_iff.mpr fun o hm => by simpa using (offered_false_iff s op).mp ho o hm]
  rfl

/-- R137: STANDBY_ENTER is offered in ENTERING, where none is offered or in flight. -/
theorem offerEnter_sound {s : State} (hr : s.enterOfferReady = true) (hs : StandbySound s) :
    StandbySound (offer .standbyEnter .standby s) := by
  obtain ⟨⟨⟨hst, -⟩, hoff⟩, hidle⟩ : ((s.standby.state = .entering ∧ s.allClosed = true) ∧
      s.offered .standbyEnter = false) ∧ s.inFlight .standbyEnter = false := by
    simpa [State.enterOfferReady] using hr
  obtain ⟨hgate, hmaint, hself, henter, hexit, hexiting, -, hone', hpending⟩ := hs
  refine ⟨hgate, hmaint, hself, fun o ho hop => ?_, fun o ho hop => ?_, hexiting, ?_, ?_, hpending⟩
  · rcases (mem_maintOps_offer _ _ s o).mp ho with h | rfl
    · exact henter o h hop
    · exact ⟨rfl, hst⟩
  · rcases List.mem_append.mp ho with h | h
    · exact hexit o h hop
    · rw [List.mem_singleton.mp h] at hop
      cases hop
  · rw [opCount_offer, opCount_zero hoff hidle]
    simp
  · rw [opCount_offer]
    simpa using hone'

/-- R138: when STANDBY_ENTER completes the channel and the controller are in SELF_REFRESH. -/
def refreshing (s : State) : State :=
  (s.setChan { s.chan with state := .selfRefresh, maint := none, cke := false }).setStandby
    { s.standby with state := .selfRefresh }

theorem refreshing_sound {s : State} (hf : s.inFlight .standbyEnter = true)
    (hs : StandbySound s) : StandbySound (refreshing s) := by
  obtain ⟨hgate, -, -, henter, hexit, -, hone, hone', -⟩ := hs
  obtain ⟨m, hm, hop⟩ := (inFlight_iff s _).mp hf
  obtain ⟨-, hst⟩ := henter m.offer ((mem_maintOps s _).mpr (.inr ⟨m, hm, rfl⟩)) hop
  have hno := not_offered_of_flight hone hf
  have hops : maintOps (refreshing s) = s.chan.offers := by simp [maintOps, refreshing]
  refine ⟨?_, by simp [refreshing], by simp [refreshing],
    fun o ho hop => absurd hop (hno o (hops ▸ ho)), fun o ho hop => ⟨(hexit o ho hop).1, .inl rfl⟩,
    by simp [State.inFlight, refreshing], ?_, ?_, fun _ => .inr rfl⟩
  · have : s.gate.standby = true := hgate.mpr (by simp [hst])
    simp [refreshing, this]
  · rw [opCount_none fun o ho => hno o (hops ▸ ho)]
    exact Nat.zero_le 1
  · refine le_trans ?_ hone'
    rw [opCount, hops, opCount_eq]
    exact Nat.le_add_right _ _

/-! ## The way out of standby (R139 to R142) -/

/-- R140, R141: STANDBY_EXIT is offered in SELF_REFRESH, or in ENTERING once STANDBY_ENTER is in
flight. -/
theorem offerExit_sound {s : State}
    (hw : s.standby.state = .selfRefresh ∨
      s.standby.state = .entering ∧ s.inFlight .standbyEnter = true)
    (hs : StandbySound s) : StandbySound (offerExit s) := by
  unfold offerExit
  split
  · exact hs
  next hoff =>
    rw [Bool.not_eq_true] at hoff
    obtain ⟨hgate, hmaint, hself, henter, hexit, hexiting, hone, -, hpending⟩ := hs
    have hidle : s.inFlight .standbyExit = false := by
      rw [Bool.eq_false_iff]
      intro h
      have := hexiting h
      rcases hw with hw | ⟨hw, -⟩ <;> simp [hw] at this
    refine ⟨hgate, hmaint, hself, fun o ho hop => ?_, fun o ho hop => ?_, hexiting, ?_, ?_, hpending⟩
    · rcases (mem_maintOps_offer _ _ s o).mp ho with h | rfl
      · exact henter o h hop
      · cases hop
    · rcases List.mem_append.mp ho with h | h
      · exact hexit o h hop
      · rw [List.mem_singleton.mp h]
        exact ⟨rfl, hw⟩
    · rw [opCount_offer]
      simpa using hone
    · rw [opCount_offer, opCount_zero hoff hidle]
      simp

/-- R140: an exit that becomes pending while STANDBY_ENTER is in flight. -/
theorem exitPending_sound {s : State} (hst : s.standby.state = .entering)
    (hf : s.inFlight .standbyEnter = true) (hs : StandbySound s) :
    StandbySound (s.setStandby { s.standby with exitPending := true }) := by
  obtain ⟨hgate, hmaint, hself, henter, hexit, hexiting, hone, hone', -⟩ := hs
  exact ⟨hgate, hmaint, hself, henter, hexit, hexiting, hone, hone', fun _ => .inl ⟨hst, hf⟩⟩

/-- R140: an entry that is given up. The controller's offers are withdrawn and STANDBY leaves the gate. -/
def givenUp (s : State) : State :=
  (withdraw .standby (s.setStandby { s.standby with state := .running })).setGate
    (s.gate.put .standby false)

theorem givenUp_sound {s : State} (hst : s.standby.state = .entering)
    (hf : s.inFlight .standbyEnter = false) (hs : StandbySound s) : StandbySound (givenUp s) := by
  obtain ⟨hnone, hpend⟩ := no_exit hs (by simp [hst]) hf
  obtain ⟨-, hmaint, hself, henter, -, hexiting, -, -, -⟩ := hs
  have hoffers : (givenUp s).chan.offers = s.chan.offers.filter fun o => decide (o.by_ ≠ .standby) :=
    rfl
  have hflight : ∀ op, (givenUp s).inFlight op = s.inFlight op := fun _ => rfl
  have hidle : s.inFlight .standbyExit = false := by
    rw [Bool.eq_false_iff]
    intro h
    simp [hst] at hexiting
    simp [hexiting] at h
  have hno : ∀ o ∈ (givenUp s).chan.offers, o.op ≠ .standbyEnter ∧ o.op ≠ .standbyExit := by
    intro o ho
    rw [hoffers, List.mem_filter, decide_eq_true_eq] at ho
    exact ⟨fun hop => ho.2 (henter o ((mem_maintOps s o).mpr (.inl ho.1)) hop).1, hnone o ho.1⟩
  have hzero : ∀ op, (∀ o ∈ (givenUp s).chan.offers, o.op ≠ op) → s.inFlight op = false →
      opCount (givenUp s) op = 0 := fun op ho hi =>
    opCount_zero ((offered_false_iff _ _).mpr ho) hi
  refine ⟨by simp [givenUp, Gate.put, withdraw], hmaint, ?_, fun o ho hop => ?_,
    fun o ho hop => absurd hop (hno o ho).2, fun h => ?_, ?_, ?_, fun h => ?_⟩
  · have : s.chan.state ≠ .selfRefresh := fun h => by simp [hself.mp h] at hst
    simp [givenUp, withdraw, this]
  · rcases (mem_maintOps _ o).mp ho with h | ⟨m, hm, rfl⟩
    · exact absurd hop (hno o h).1
    · have : s.inFlight .standbyEnter = true := (inFlight_iff s _).mpr ⟨m, hm, hop⟩
      simp [hf] at this
  · rw [hflight, hidle] at h
    cases h
  · rw [hzero _ (fun o ho => (hno o ho).1) hf]
    exact Nat.zero_le 1
  · rw [hzero _ (fun o ho => (hno o ho).2) hidle]
    exact Nat.zero_le 1
  · have hfalse : (givenUp s).standby.exitPending = false := hpend
    simp [hfalse] at h

/-- R142: when STANDBY_EXIT completes the channel is ACTIVE, the controller RUNNING, and STANDBY leaves
the gate. -/
def backRunning (s : State) : State :=
  ((landMaint .active s).setStandby { s.standby with state := .running }).setGate
    (s.gate.put .standby false)

theorem backRunning_sound {s : State} (hf : s.inFlight .standbyExit = true)
    (hs : StandbySound s) : StandbySound (backRunning s) := by
  obtain ⟨-, -, -, -, -, hexiting, -⟩ := id hs
  have hst : s.standby.state = .exiting := hexiting hf
  obtain ⟨hno, hidle⟩ := no_enter hs (by simp [hst])
  obtain ⟨hnone, hpend⟩ := no_exit hs (by simp [hst]) hidle
  have hops : maintOps (backRunning s) = s.chan.offers := by
    simp [maintOps, backRunning, landMaint]
  have henter : ∀ o ∈ maintOps (backRunning s), o.op ≠ .standbyEnter := fun o ho =>
    hno o ((mem_maintOps s o).mpr (.inl (hops ▸ ho)))
  refine ⟨by simp [backRunning, Gate.put], by simp [backRunning, landMaint],
    by simp [backRunning, landMaint], fun o ho hop => absurd hop (henter o ho),
    fun o ho hop => absurd hop (hnone o ho), by simp [State.inFlight, backRunning, landMaint], ?_, ?_,
    fun h => ?_⟩
  · rw [opCount_none henter]
    exact Nat.zero_le 1
  · rw [opCount_none fun o ho => hnone o (hops ▸ ho)]
    exact Nat.zero_le 1
  · have hfalse : (backRunning s).standby.exitPending = false := hpend
    simp [hfalse] at h

/-! ## The controller's operations -/

/-- Taking a reason out of the gate, the queues are at most served. -/
theorem standbyKept_serves (r : GateReason) (s : State) :
    StandbyKept (s.setGate (s.gate.put r false)) (removeReason r s) :=
  .ite (.of_moves (leaseMoves_serveAll _)) (.refl _)

theorem exitCause_sound {s : State} (hs : StandbySound s) : StandbySound (exitCause s) := by
  unfold exitCause
  split
  · exact hs
  · exact hs
  next hst =>
    split
    next hf => exact offerExit_sound (.inr ⟨hst, hf⟩) (exitPending_sound hst hf hs)
    next hf =>
      exact (standbyKept_serves .standby _).sound
        (givenUp_sound hst (Bool.not_eq_true _ ▸ hf) hs)
  next hst => exact offerExit_sound (.inl hst) hs

theorem landEnter_sound {s : State} (hf : s.inFlight .standbyEnter = true)
    (hs : StandbySound s) : StandbySound (landEnter s) := by
  have hstop : StandbyKept (refreshing s)
      (notifyAttached .standbyEntered (stopAccount (refreshing s))) :=
    .trans (t := stopAccount (refreshing s))
      (.after (standbyKept_removeReason _ (by decide))
        (.after (standbyKept_withdraw _ _) ⟨rfl, .refl _⟩)) ⟨rfl, .refl _⟩
  have hsound := hstop.sound (refreshing_sound hf hs)
  have hst := hstop.standing
  unfold landEnter
  dsimp only
  split
  · exact offerExit_sound (.inl hst) hsound
  · exact hsound

theorem landExit_sound {s : State} (hf : s.inFlight .standbyExit = true)
    (hs : StandbySound s) : StandbySound (landExit s) := by
  have hgate : StandbyKept (backRunning s)
      (removeReason .standby ((landMaint .active s).setStandby { s.standby with state := .running })) :=
    standbyKept_serves .standby _
  have hend : ∀ u, StandbyKept u (notifyAttached .standbyLeft (judgeAccount (restartInterval u))) :=
    fun u => .trans (t := judgeAccount (restartInterval u))
      (.after (standbyKept_judgeAccount _) ⟨rfl, .refl _⟩) ⟨rfl, .refl _⟩
  exact (hgate.trans (hend _)).sound (backRunning_sound hf hs)

end Sys2Proof.Maintenance
end

section
/-! PROOFS. The commands one by one: each keeps the laws of the standby controller and the channel state
(O10). -/

namespace Sys2Proof.Maintenance

open Sys2Proof Sys2Proof.Machine Sys2Proof.Safety

/-- Every next state of an outcome keeps the laws of the standby controller. -/
def OutcomeStands (s : State) (o : Host.Outcome State Fault Refusal) : Prop :=
  ∀ t, o = .next t → StandbySound s → StandbySound t

theorem outcomeStands_next {s t : State} (h : StandbySound s → StandbySound t) :
    OutcomeStands s (.next t) := by
  rintro u ⟨⟩
  exact h

theorem outcomeStands_kept {s t : State} (h : StandbyKept s t) : OutcomeStands s (.next t) :=
  outcomeStands_next h.sound

theorem outcomeStands_moves {s t : State} (h : LeaseMoves s t) : OutcomeStands s (.next t) :=
  outcomeStands_kept (.of_moves h)

theorem outcomeStands_refl (s : State) : OutcomeStands s (.next s) := outcomeStands_next id

/-- Log 3: an event acts where its condition holds, and leaves the state as it is otherwise. -/
theorem outcomeStands_ite {p : Prop} [Decidable p] {s t : State}
    (h : p → StandbySound s → StandbySound t) : OutcomeStands s (if p then .next t else .next s) := by
  split
  next hp => exact outcomeStands_next (h hp)
  · exact outcomeStands_refl s

theorem outcomeStands_iteKept {p : Prop} [Decidable p] {s t : State} (h : StandbyKept s t) :
    OutcomeStands s (if p then .next t else .next s) := outcomeStands_ite fun _ => h.sound

theorem outcomeStands_iteMoves {p : Prop} [Decidable p] {s t : State} (h : LeaseMoves s t) :
    OutcomeStands s (if p then .next t else .next s) := outcomeStands_iteKept (.of_moves h)

section Commands

variable (s : State)

/-! ## Requests and frames -/

theorem deliver_stands (h : HostId) (f : FrameHdr) (tagged : Bool) {act : State → State}
    (ha : ∀ u, StandbySound u → StandbySound (act u)) :
    OutcomeStands s (.next (deliver h f tagged act s)) := by
  refine outcomeStands_next fun hs => ?_
  unfold deliver
  split
  · exact ha _ (StandbyKept.sound (s := s) ⟨rfl, .refl _⟩ hs)
  · exact (StandbyKept.of_moves (leaseMoves_discardFrame h f s)).sound hs

theorem request_stands (h : HostId) (f : FrameHdr) (tag : Tag) (kind : ReqKind)
    {act : State → State} (ha : ∀ u, StandbySound u → StandbySound (act u)) :
    OutcomeStands s (.next (request h f tag kind act s)) := by
  refine deliver_stands s h f true fun u hu => ?_
  unfold takeRequest
  split
  · exact hu
  · split
    · exact StandbyKept.sound (s := u) ⟨rfl, .refl _⟩ hu
    · exact ha _ (StandbyKept.sound (s := u) ⟨rfl, .refl _⟩ hu)

theorem requestAttached_stands (h : HostId) (f : FrameHdr) (tag : Tag) (kind : ReqKind)
    {act : State → State} (ha : ∀ u, StandbySound u → StandbySound (act u)) :
    OutcomeStands s (.next (request h f tag kind (attachedOnly h tag act) s)) := by
  refine request_stands s h f tag kind fun u hu => ?_
  unfold attachedOnly
  split
  · exact ha u hu
  · exact (StandbyKept.of_moves (leaseMoves_answerStatus _ _ _ u)).sound hu

theorem deliverMalformed_stands (h : HostId) (f : FrameHdr) (tagged : Bool) :
    OutcomeStands s (.next (deliver h f tagged (malformed h) s)) :=
  deliver_stands s h f tagged fun u => StandbyKept.sound (t := malformed h u) ⟨rfl, .refl _⟩

theorem transferRequest_stands (h : HostId) (f : FrameHdr) (tag : Tag) (kind : ReqKind)
    (q : TransferReq) : OutcomeStands s (.next (request h f tag kind (transferRequest q) s)) :=
  request_stands s h f tag kind fun u => (StandbyKept.of_moves (leaseMoves_transferRequest q u)).sound

theorem execWrite_stands (h : HostId) (f : FrameHdr) (tag : Tag) (bank bursts : Byte)
    (col : BitVec 16) (payload : List WriteBurst) :
    OutcomeStands s (execWrite h f tag bank bursts col payload s) := by
  unfold execWrite
  split
  · exact transferRequest_stands s h f tag .write _
  · exact deliverMalformed_stands s h f true

theorem execPropose_stands (h : HostId) (f : FrameHdr) (tag : Tag) (base : BitVec 16)
    (items : List RawItem) : OutcomeStands s (execPropose h f tag base items s) := by
  unfold execPropose
  split
  · exact requestAttached_stands s h f tag .propose fun u =>
      (standbyKept_takePropose h tag base items u).sound
  · exact deliverMalformed_stands s h f true

/-- R139, R158: a JOIN that is taken is an exit cause. -/
theorem takeJoin_sound (h : HostId) (tag : Tag) {u : State} (hu : StandbySound u) :
    StandbySound (takeJoin h tag u) := by
  have hans := fun st => (StandbyKept.of_moves (leaseMoves_answerStatus h tag st u)).sound hu
  unfold takeJoin
  split
  · split
    · exact hans _
    · exact (StandbyKept.of_moves (leaseMoves_completeJoins _)).sound
        (exitCause_sound (StandbyKept.sound (s := u) ⟨rfl, .refl _⟩ hu))
  all_goals exact hans _

/-- R134, R139: the UNPARK of a parked host is an exit cause. -/
theorem takeUnpark_sound (h : HostId) (tag : Tag) {u : State} (hu : StandbySound u) :
    StandbySound (takeUnpark h tag u) := by
  have hans := StandbyKept.of_moves (leaseMoves_answerStatus h tag .ok u)
  unfold takeUnpark
  dsimp only
  split
  · exact exitCause_sound ((hans.trans (standbyKept_leavePark h _)).sound hu)
  · exact hans.sound hu

theorem execReceiveIdleFrame_stands (h : HostId) (f : FrameHdr) :
    OutcomeStands s (execReceiveIdleFrame h f s) := by
  unfold execReceiveIdleFrame
  split
  · exact outcomeStands_refl s
  · exact outcomeStands_moves (leaseMoves_countIdle h s)
  · exact outcomeStands_moves rfl

theorem execReceiveNakFrame_stands (h : HostId) (f : FrameHdr) (n : Seq) :
    OutcomeStands s (execReceiveNakFrame h f n s) := by
  unfold execReceiveNakFrame
  split
  · exact outcomeStands_refl s
  · exact outcomeStands_moves rfl
  · exact outcomeStands_kept (.after (standbyKept_takeNak h n _) ⟨rfl, .refl _⟩)

theorem execReceiveCorruptedFrame_stands (h : HostId) :
    OutcomeStands s (execReceiveCorruptedFrame h s) := by
  unfold execReceiveCorruptedFrame
  split
  · exact outcomeStands_refl s
  all_goals exact outcomeStands_moves rfl

theorem execMessageFrameDiscarded_stands (h : HostId) (f : FrameHdr) (tagged : Bool) :
    OutcomeStands s (execMessageFrameDiscarded h f tagged s) := by
  unfold execMessageFrameDiscarded
  split
  · exact outcomeStands_refl s
  · exact outcomeStands_moves (leaseMoves_discardFrame h f s)

/-! ## Deadlines -/

theorem execHoldDeadlineExpiry_stands (b : Bank) (h : HostId) :
    OutcomeStands s (execHoldDeadlineExpiry b h s) := by
  unfold execHoldDeadlineExpiry
  split
  · exact outcomeStands_refl s
  · exact outcomeStands_iteMoves (leaseMoves_expireHold b h _ s)

theorem execWaitDeadlineExpiry_stands (b : Bank) (h : HostId) :
    OutcomeStands s (execWaitDeadlineExpiry b h s) := by
  unfold execWaitDeadlineExpiry
  split
  · exact outcomeStands_refl s
  · exact outcomeStands_iteMoves (leaseMoves_withdrawWaiter b h .timedOut s)

theorem execResetNRelease_stands : OutcomeStands s (execResetNRelease s) := by
  unfold execResetNRelease
  split
  · exact outcomeStands_refl s
  · exact outcomeStands_kept ⟨rfl, .refl _⟩

/-! ## Bank operations -/

theorem execActivateIssue_stands : OutcomeStands s (execActivateIssue s) := by
  unfold execActivateIssue
  split
  · exact outcomeStands_moves (leaseMoves_issueActivate _ s)
  all_goals exact outcomeStands_refl s

theorem execPrechargeIssue_stands : OutcomeStands s (execPrechargeIssue s) := by
  unfold execPrechargeIssue
  split
  · exact outcomeStands_moves rfl
  all_goals exact outcomeStands_refl s

theorem execBurstIssue_stands : OutcomeStands s (execBurstIssue s) := by
  unfold execBurstIssue
  split
  · exact outcomeStands_moves (leaseMoves_issueBurst _ s)
  all_goals exact outcomeStands_refl s

theorem execActivateCompletion_stands (b : Bank) :
    OutcomeStands s (execActivateCompletion b s) := by
  unfold execActivateCompletion
  split
  · exact outcomeStands_iteMoves (.after (leaseMoves_landActivate b _ (keepPlace s)) rfl)
  all_goals exact outcomeStands_refl s

theorem execPrechargeCompletion_stands (b : Bank) :
    OutcomeStands s (execPrechargeCompletion b s) := by
  unfold execPrechargeCompletion
  split
  · exact outcomeStands_iteMoves (leaseMoves_landPrecharge b s)
  all_goals exact outcomeStands_refl s

/-! ## The issue of maintenance operations -/

/-- An offer that the arbiter takes and that is of the kind the command names is issued. -/
theorem issueTaken_stands {f : Offer → State} {op : MaintOp}
    (hf : ∀ o, s.maintTaken = some o → o.op = op → StandbySound s → StandbySound (f o)) :
    OutcomeStands s (match s.maintTaken with
      | none => .next s
      | some o => if o.op = op then .next (f o) else .next s) := by
  split
  · exact outcomeStands_refl s
  next ht => exact outcomeStands_ite (hf _ ht)

/-- R174: a step of the sequencer is issued. -/
theorem stepUnderWay_sound {o : Offer} (ht : s.maintTaken = some o) (hop : o.op ≠ .standbyExit)
    (hs : StandbySound s) : StandbySound (stepUnderWay (issueMaint o s)) :=
  StandbyKept.sound (s := issueMaint o s) ⟨rfl, .refl _⟩ (issueMaint_sound ht hop hs)

theorem execModeLoadIssue_stands : OutcomeStands s (execModeLoadIssue s) := by
  unfold execModeLoadIssue
  split
  · exact outcomeStands_refl s
  next ht =>
    split
    next hop =>
      split
      · exact outcomeStands_next (stepUnderWay_sound s ht (by simp [hop]))
      · exact outcomeStands_next (issueMaint_sound ht (by simp [hop]))
    all_goals exact outcomeStands_refl s

theorem execTrainStepIssue_stands : OutcomeStands s (execTrainStepIssue s) := by
  unfold execTrainStepIssue
  split
  · exact outcomeStands_refl s
  next ht =>
    split
    next hop => exact outcomeStands_next (stepUnderWay_sound s ht (by simp [hop]))
    all_goals exact outcomeStands_refl s

/-! ## The completions of maintenance operations -/

/-- An operation of another block completes, and what follows leaves the controller's part alone. -/
theorem landed_stands {op : MaintOp} {t : State} (hop : isStandbyOp op = false)
    (ht : StandbyKept (landMaint .active s) t) :
    OutcomeStands s (if s.inFlight op && s.maintDue then .next t else .next s) :=
  outcomeStands_ite fun hf hs =>
    ht.sound (landMaint_sound (Bool.and_eq_true_iff.mp hf).1 hop hs)

theorem landed_inFlight {o : Offer} (h : s.landed = some o) : s.inFlight o.op = true := by
  unfold State.landed at h
  split at h
  · cases h
  next m hm =>
    split at h
    · cases h
      exact (inFlight_iff s _).mpr ⟨m, hm, rfl⟩
    · cases h

theorem execModeLoadCompletion_stands : OutcomeStands s (execModeLoadCompletion s) := by
  unfold execModeLoadCompletion
  split
  · exact outcomeStands_refl s
  next o ho =>
    split
    next m hm =>
      have hkept : StandbyKept (landMaint .active s) (landModeLoad m o.by_ s) :=
        .ite ((standbyKept_loadSetting m _).trans (standbyKept_countModeLoad _))
          ((standbyKept_loadSetting m _).trans ⟨rfl, .refl _⟩)
      exact outcomeStands_next fun hs =>
        hkept.sound (landMaint_sound (landed_inFlight s ho) (by rw [hm]; rfl) hs)
    all_goals exact outcomeStands_refl s

theorem execTrainStepCompletion_stands (sample : Bool) :
    OutcomeStands s (execTrainStepCompletion sample s) := by
  unfold execTrainStepCompletion
  split
  · exact outcomeStands_refl s
  next o ho =>
    split
    next lane _ hop =>
      have hkept : StandbyKept (landMaint .active s) (landTrainStep lane sample s) := by
        have hseq : ∀ q, StandbyKept (landMaint .active s) ((landMaint .active s).setSeq q) :=
          fun q => ⟨rfl, .refl _⟩
        have hcapture : ∀ u, StandbyKept u (restoreCapture lane u) := fun u => ⟨rfl, .refl _⟩
        refine .trans ?_ (hcapture _)
        split
        · exact hseq _
        · exact (hseq _).trans (standbyKept_actOnSample sample _ _)
      exact outcomeStands_next fun hs =>
        hkept.sound (landMaint_sound (landed_inFlight s ho) (by rw [hop]; rfl) hs)
    all_goals exact outcomeStands_refl s

end Commands

/-- R131, R135: RESET_N gives the controller and the channel their reset values. -/
theorem assertReset_sound (s : State) : StandbySound (assertReset s) := by
  obtain ⟨-, -, -, -, -, hreset, -⟩ := Leases.resetStateIsSound
  exact StandbyKept.sound (s := State.reset) ⟨rfl, .refl _⟩ hreset

/-- Every command keeps the laws of the standby controller and the channel state. -/
theorem exec_stands (c : Instr) (s : State) : OutcomeStands s (exec c s) := by
  cases c with
  | resetNAssert => exact outcomeStands_next fun _ => assertReset_sound s
  | resetNRelease => exact execResetNRelease_stands s
  | holdPhaseEnd => exact outcomeStands_iteKept ⟨rfl, .refl _⟩
  | settlePhaseEnd => exact outcomeStands_iteKept (standbyKept_endSettle s)
  | lockPhaseEnd => exact outcomeStands_iteKept (standbyKept_endLock s)
  | intervalExpiry =>
    exact outcomeStands_iteKept (.after (standbyKept_expireInterval (keepPlace s)) ⟨rfl, .refl _⟩)
  | holdDeadlineExpiry b h => exact execHoldDeadlineExpiry_stands s b h
  | waitDeadlineExpiry b h => exact execWaitDeadlineExpiry_stands s b h
  | ballotDeadlineExpiry => exact outcomeStands_iteKept (standbyKept_abandon .timeout s)
  | drainDeadlineExpiry => exact outcomeStands_iteKept (standbyKept_expireDrain s)
  | silenceDeadlineExpiry h => exact outcomeStands_iteKept (standbyKept_linkDown h s)
  | quietEnd h => exact outcomeStands_iteMoves rfl
  | sendTimerExpiry h => exact outcomeStands_iteMoves rfl
  | sendFrame h => exact outcomeStands_iteMoves rfl
  | receiveIdleFrame h f => exact execReceiveIdleFrame_stands s h f
  | receiveNakFrame h f n => exact execReceiveNakFrame_stands s h f n
  | receiveCorruptedFrame h => exact execReceiveCorruptedFrame_stands s h
  | messageFrameDiscarded h f tagged => exact execMessageFrameDiscarded_stands s h f tagged
  | malformedMessage h f tagged => exact deliverMalformed_stands s h f tagged
  | join h f tag => exact request_stands s h f tag .join fun _ => takeJoin_sound h tag
  | joinComplete => exact outcomeStands_moves (leaseMoves_completeJoins s)
  | leave h f tag =>
    exact requestAttached_stands s h f tag .leave fun u => (standbyKept_takeLeave h u).sound
  | leaveComplete h => exact outcomeStands_moves (leaseMoves_completeLeave h s)
  | openLease h f tag bank row mode wait =>
    exact requestAttached_stands s h f tag .openLease fun u =>
      (StandbyKept.of_moves (leaseMoves_takeOpen h tag bank row mode wait u)).sound
  | closeLease h f tag bank =>
    exact requestAttached_stands s h f tag .closeLease fun u =>
      (StandbyKept.of_moves (leaseMoves_takeClose h tag bank u)).sound
  | closeComplete b h => exact outcomeStands_iteMoves (leaseMoves_finishHolder b h s)
  | revocationFinish b h => exact outcomeStands_iteMoves (leaseMoves_finishHolder b h s)
  | grantFromQueue b => exact outcomeStands_moves (leaseMoves_serveBank b s)
  | read h f tag bank bursts col => exact transferRequest_stands s h f tag .read _
  | write h f tag bank bursts col payload =>
    exact execWrite_stands s h f tag bank bursts col payload
  | intakeTake => exact outcomeStands_moves (leaseMoves_takeIntake s)
  | propose h f tag base items => exact execPropose_stands s h f tag base items
  | vote h f tag number accept =>
    exact requestAttached_stands s h f tag .vote fun u =>
      (standbyKept_takeVote h tag number accept u).sound
  | drainComplete => exact outcomeStands_iteKept (standbyKept_beginApply s)
  | commit => exact outcomeStands_iteKept (standbyKept_commitProposal s)
  | park h f tag =>
    exact requestAttached_stands s h f tag .park fun u => (standbyKept_takePark h tag u).sound
  | unpark h f tag => exact requestAttached_stands s h f tag .unpark fun _ => takeUnpark_sound h tag
  | standbyEntering =>
    refine outcomeStands_ite fun hr => enterEntering_sound ?_
    simp only [State.entryCondition, Bool.and_eq_true, decide_eq_true_eq] at hr
    obtain ⟨⟨⟨⟨⟨hrunning, -⟩, -⟩, -⟩, -⟩, -⟩ := hr
    exact hrunning
  | standbyEnterOffer => exact outcomeStands_ite offerEnter_sound
  | query h f tag =>
    exact request_stands s h f tag .query fun u =>
      (StandbyKept.of_moves (leaseMoves_answer h tag .ok _ u)).sound
  | queryBank h f tag bank =>
    exact requestAttached_stands s h f tag .queryBank fun u =>
      (StandbyKept.of_moves (leaseMoves_takeQueryBank h tag bank u)).sound
  | noteAck h f n =>
    exact deliver_stands s h f false fun u =>
      (StandbyKept.of_moves (leaseMoves_takeNoteAck h n u)).sound
  | notificationDelivery h => exact outcomeStands_moves rfl
  | refreshRequest => exact outcomeStands_iteKept (standbyKept_makeAccountOffer s)
  | setupEnd b => exact outcomeStands_iteMoves rfl
  | commandSlotEnd => exact outcomeStands_iteMoves rfl
  | writeRecoveryEnd b => exact outcomeStands_iteMoves rfl
  | activateIssue => exact execActivateIssue_stands s
  | prechargeIssue => exact execPrechargeIssue_stands s
  | burstIssue => exact execBurstIssue_stands s
  | refreshIssue =>
    exact issueTaken_stands s fun o ht hop => issueMaint_sound ht (by simp [hop])
  | shortCalIssue =>
    exact issueTaken_stands s fun o ht hop => issueMaint_sound ht (by simp [hop])
  | longCalIssue =>
    exact issueTaken_stands s fun o ht hop => stepUnderWay_sound s ht (by simp [hop])
  | modeLoadIssue => exact execModeLoadIssue_stands s
  | trainStepIssue => exact execTrainStepIssue_stands s
  | standbyEnterIssue =>
    exact issueTaken_stands s fun o ht hop => issueMaint_sound ht (by simp [hop])
  | standbyExitIssue => exact issueTaken_stands s fun o ht hop => issueExit_sound ht hop
  | activateCompletion b => exact execActivateCompletion_stands s b
  | prechargeCompletion b => exact execPrechargeCompletion_stands s b
  | burstCompletion b =>
    exact outcomeStands_iteMoves (.after (leaseMoves_completeBurst b (keepPlace s)) rfl)
  | refreshCompletion =>
    exact landed_stands s rfl (.after (standbyKept_afterAccountOp _)
      (.after (standbyKept_judgeAccount _) ⟨rfl, .refl _⟩))
  | shortCalCompletion =>
    exact landed_stands s rfl (.after (standbyKept_afterAccountOp _)
      (.after (standbyKept_judgeAccount _) ⟨rfl, .refl _⟩))
  | longCalCompletion =>
    exact landed_stands s rfl (.after (standbyKept_beginAttempt 0 .startUp _) ⟨rfl, .refl _⟩)
  | modeLoadCompletion => exact execModeLoadCompletion_stands s
  | trainStepCompletion sample => exact execTrainStepCompletion_stands s sample
  | standbyEnterCompletion =>
    exact outcomeStands_ite fun hf => landEnter_sound (Bool.and_eq_true_iff.mp hf).1
  | standbyExitCompletion =>
    exact outcomeStands_ite fun hf => landExit_sound (Bool.and_eq_true_iff.mp hf).1

/-- Settles O10: the command at the front of the queue keeps the laws, and a tick moves the clock
alone. -/
theorem stepKeepsStandbyLaws : Obligations.StepKeepsStandbyLaws := by
  intro s t hs ht
  cases hp : s.pending with
  | nil =>
    rw [step_nil s hp] at ht
    cases ht
    unfold State.idle
    split <;> exact hs
  | cons c rest =>
    rw [step_cons s c rest hp] at ht
    exact exec_stands c { s with pending := rest } t ht hs

end Sys2Proof.Maintenance
end

section
/-! PROOFS. The issue of each operation but a burst, and the ends of a set-up, of the command slot and of a
write recovery (R68, R71, R73, R74, R77, R83, R85, O36). -/

namespace Sys2Proof.Maintenance

open Sys2Proof Sys2Proof.Machine Sys2Proof.Safety

/-- R68, R74: an operation that is issued is in flight for the duration of its kind. -/
theorem issueMaint_eq {o : Offer} {op : MaintOp} (s : State) (hop : o.op = op) :
    issueMaint o s = maintIssued s o op.duration := by
  rw [← hop]
  rfl

theorem stepUnderWay_eq {o : Offer} {op : MaintOp} (s : State) (hop : o.op = op) :
    stepUnderWay (issueMaint o s) =
      (maintIssued s o op.duration).setSeq { s.seq with stepOffer := .inFlight } := by
  rw [← hop]
  rfl

/-- R83: a lane captures with the delay of the training step in flight on it, the others with theirs. -/
theorem capturesWith_step {s : State} {lane : Lane} {d : Delay} {by_ : Requester} {e : Time}
    (hm : s.chan.maint = some ⟨⟨.trainStep lane d, by_⟩, e⟩) :
    s.capturesWith lane = some d ∧ ∀ i, i ≠ lane → s.capturesWith i = s.chan.capture[i.val] := by
  refine ⟨by simp [State.capturesWith, hm], fun i hi => ?_⟩
  simp [State.capturesWith, hm, Ne.symm hi]

section Issues

variable {s : State} {o : Offer} (ha : s.arbiter = some (.maint o))

include ha

/-- R82: a MODE_LOAD of the sequencer is a step of start-up, one of the agreement unit is not. -/
theorem exec_modeLoadIssue {m : ModeSetting} (hop : o.op = .modeLoad m) :
    exec .modeLoadIssue s =
      .next (if o.by_ = .sequencer then stepUnderWay (issueMaint o s) else issueMaint o s) := by
  simp only [exec, execModeLoadIssue, maintTaken_eq ha, hop]
  split <;> rfl

theorem exec_trainStepIssue {lane : Lane} {d : Delay} (hop : o.op = .trainStep lane d) :
    ∃ t, exec .trainStepIssue s = .next t ∧
      t = (maintIssued s o 60).setSeq { s.seq with stepOffer := .inFlight } ∧
      t.capturesWith lane = some d ∧ ∀ i, i ≠ lane → t.capturesWith i = s.chan.capture[i.val] := by
  have hexec : exec .trainStepIssue s = .next (stepUnderWay (issueMaint o s)) := by
    simp only [exec, execTrainStepIssue, maintTaken_eq ha, hop]
  obtain ⟨op, by_⟩ := o
  cases hop
  exact ⟨_, hexec, rfl, capturesWith_step rfl⟩

theorem exec_standbyExitIssue (hop : o.op = .standbyExit) :
    exec .standbyExitIssue s = .next { maintIssued s o 420 with
      chan := { (maintIssued s o 420).chan with cke := true }
      standby := { s.standby with state := .exiting, exitPending := false } } := by
  simp only [exec, execStandbyExitIssue, maintTaken_eq ha, hop, if_true, issueExit,
    issueMaint_eq s hop]
  rfl

/-- R74: the operations that their issue puts in flight and no more. -/
theorem issueTaken_eq {op : MaintOp} (hop : o.op = op) (f : Offer → State) :
    (match s.maintTaken with
      | none => Host.Outcome.next (φ := Fault) (ρ := Refusal) s
      | some o => if o.op = op then .next (f o) else .next s) = .next (f o) := by
  rw [maintTaken_eq ha]
  exact if_pos hop

end Issues

theorem exec_activateIssue {s : State} {b : Bank} {row : Row}
    (ha : s.arbiter = some (.activate b)) (hp : (s.op b).pending = .activate row) :
    exec .activateIssue s = .next (bankOpIssued s b
      { s.op b with
        pending := .none, setupEnd := none, setupDone := false, inFlight := .activate row } 15) := by
  simp only [exec, execActivateIssue, ha, issueActivate, hp]
  rfl

theorem exec_prechargeIssue {s : State} {b : Bank} (ha : s.arbiter = some (.precharge b)) :
    exec .prechargeIssue s = .next (bankOpIssued s b
      { s.op b with
        pending := .none, setupEnd := none, setupDone := false, inFlight := .precharge
        recoveryEnd := none, recoveryDone := false } 15) := by
  simp only [exec, execPrechargeIssue, ha]
  rfl

/-- Settles O36: each issue acts on what the arbiter takes, with the duration of its kind. -/
theorem issuesPutOperationsInFlight : Obligations.IssuesPutOperationsInFlight := by
  intro s
  refine ⟨fun b hd hn => if_pos (by simp [hd, hn]), fun hd => if_pos hd,
    fun b hd hn => if_pos (by simp [hd, hn]), fun b row => exec_activateIssue,
    fun b => exec_prechargeIssue, fun o ha => ⟨fun hop => ?_, fun hop => ?_, fun hop => ?_,
      fun m hop hby => ?_, fun m hop hby => ?_, fun lane d => exec_trainStepIssue ha,
      fun hop => ?_, exec_standbyExitIssue ha⟩⟩
  · exact (issueTaken_eq ha hop _).trans (congrArg _ (issueMaint_eq s hop))
  · exact (issueTaken_eq ha hop _).trans (congrArg _ (issueMaint_eq s hop))
  · exact (issueTaken_eq ha hop _).trans (congrArg _ (stepUnderWay_eq s hop))
  · rw [exec_modeLoadIssue ha hop, if_pos hby, stepUnderWay_eq s hop]
    rfl
  · rw [exec_modeLoadIssue ha hop, if_neg (by simp [hby]), issueMaint_eq s hop]
    rfl
  · exact (issueTaken_eq ha hop _).trans (congrArg _ (issueMaint_eq s hop))

end Sys2Proof.Maintenance
end


section
/-! PROOFS. Start-up: the release of RESET_N, the ends of its phases (R175, R177, O40), and the completions
of its mode loads and of LONG_CAL (R82, R99, R127, R176, R177, O41). -/

namespace Sys2Proof.Maintenance

open Sys2Proof Sys2Proof.Machine Sys2Proof.Safety

/-! ## The release of RESET_N and the ends of the phases -/

theorem changesOnly_releaseReset (s : State) :
    ChangesOnly [.resetN, .seq, .hosts] s (releaseReset s) := by
  intro p hp
  cases p <;> simp_all [Part.same, releaseReset, startQuiet]

/-- R163: every link counts its QUIET from the release. -/
theorem releaseReset_host (s : State) (h : HostId) :
    (releaseReset s).host h = { s.host h with
      link := { s.link h with quietEnd := some (s.now + 2500000) } } := by
  simp only [releaseReset, startQuiet, State.host, PerHost.get_imap]
  rfl

theorem phaseOver_of {s : State} {p : Phase} (hd : s.seq.device = .starting p)
    (he : due s.now s.seq.phaseEnd = true) : s.phaseOver p = true := by
  simp [State.phaseOver, hd, he]

/-- R94: with no calibration due the account offers a REFRESH. -/
theorem makeAccountOffer_refresh {s : State} (hc : s.account.calDue = false) :
    makeAccountOffer s = { s with
      gate := { s.gate with refresh := true }
      account := { s.account with offer := .refresh }
      chan := { s.chan with offers := s.chan.offers ++ [⟨.refresh, .account⟩] } } := by
  simp only [makeAccountOffer, hc]
  rfl

/-- R177: the state at the end of LOCK before the account judges itself: CALIBRATE has begun, LONG_CAL is
offered and the account's timer runs. -/
def calibrating (s : State) : State :=
  { s with
    seq := { s.seq with device := .starting .calibrate, phaseEnd := none, stepOffer := .offered }
    account := { s.account with timer := some (s.now + periodOf s.agree.live.rate) }
    chan := { s.chan with offers := s.chan.offers ++ [⟨.longCal, .sequencer⟩] } }

theorem endLock_eq (s : State) :
    endLock s = if (judgeAccount (calibrating s)).refreshWanted then
      makeAccountOffer (judgeAccount (calibrating s)) else judgeAccount (calibrating s) := rfl

/-- R88: at owed 0 the account is not PRESSED. -/
theorem calm_of_nothing_owed {s : State} (hw : s.seq.sweep = none) (ho : s.account.owed = 0)
    (ht : 1 ≤ s.agree.live.threshold) : calm s s.agree.live.threshold s.account.owed := by
  refine ⟨.inr ?_, .inl hw⟩
  rintro ⟨-, h⟩
  omega

/-- R101: at the end of LOCK the account makes its first offer. -/
theorem endLock_offers {s : State} (hw : s.seq.sweep = none) (ho : s.account.owed = 0)
    (ht : 1 ≤ s.agree.live.threshold) (hn : s.account.offer = .none)
    (hb : ∀ b, (s.bank b).state = .closed) (hq : noWaiters s) (hl : s.xfer.list = []) :
    endLock s = makeAccountOffer (calibrating s) := by
  have hcalm : judgeAccount (calibrating s) = calibrating s :=
    judgeAccount_calm (calm_of_nothing_owed (s := calibrating s) hw ho ht)
  have howed : -4 < (calibrating s).account.owed := by
    change -4 < s.account.owed
    omega
  have hwanted : (calibrating s).refreshWanted = true :=
    (refreshWanted_iff _).mpr ⟨Option.some_ne_none _, hn, hb, .inr (.inr ⟨howed, hq, hl⟩)⟩
  rw [endLock_eq, hcalm, if_pos hwanted]

/-- Settles O40: each phase follows on the one before, and the account starts with LOCK's end. -/
theorem startUpPhasesFollow : Obligations.StartUpPhasesFollow := by
  intro s
  refine ⟨fun hr => ⟨releaseReset s, if_neg (by simp [hr]), changesOnly_releaseReset s, rfl, rfl,
      releaseReset_host s⟩,
    fun hd he => if_pos (phaseOver_of hd he), fun hd he => if_pos (phaseOver_of hd he),
    fun hd he hw ho ht hn hc hb hq hl => ?_⟩
  have hexec : exec .lockPhaseEnd s = .next (endLock s) := if_pos (phaseOver_of hd he)
  rw [hexec, endLock_offers hw ho ht hn hb hq hl,
    makeAccountOffer_refresh (s := calibrating s) hc]
  simp [calibrating]

/-! ## Mode loads -/

theorem landed_of_lands {s : State} {op : MaintOp} {by_ : Requester} (h : Lands s op by_) :
    s.landed = some ⟨op, by_⟩ := by
  obtain ⟨d, hm, hd⟩ := landed_eq h
  simp [State.landed, hm, hd]

theorem exec_modeLoadCompletion {s : State} {m : ModeSetting} {by_ : Requester}
    (h : Lands s (.modeLoad m) by_) :
    exec .modeLoadCompletion s = .next (landModeLoad m by_ s) := by
  simp only [exec, execModeLoadCompletion, landed_of_lands h]

/-- R176: the settings are loaded in their order. -/
theorem modeSetting_of_getElem {n : Nat} {next : ModeSetting}
    (h : [ModeSetting.latency, .burst .linearWrap, .drive, .selfRefresh][n]? = some next) :
    n < 4 ∧ modeSetting n = next := by
  obtain ⟨hlt, hn⟩ := List.getElem?_eq_some_iff.mp h
  refine ⟨hlt, ?_⟩
  rw [← hn]
  match n, hlt with
  | 0, _ | 1, _ | 2, _ | 3, _ => rfl

/-- R82: a load has completed: a burst setting sets the loaded order, and any other leaves it. -/
theorem loadSetting_landed (m : ModeSetting) (s : State) :
    loadSetting m (landMaint .active s) = s.setChan { chanLanded s [] with
      loadedOrder := match m with
        | .burst o => some o
        | .latency | .drive | .selfRefresh => s.chan.loadedOrder } := by
  cases m <;> simp [loadSetting, landMaint, chanLanded, State.setChan]

/-- R176: after a load that is not the fourth the next is offered. -/
theorem countModeLoad_next {s : State} (hlt : s.seq.modeLoadsDone + 1 < 4) :
    countModeLoad s = offer (.modeLoad (modeSetting (s.seq.modeLoadsDone + 1))) .sequencer
      (s.setSeq { s.seq with
        modeLoadsDone := s.seq.modeLoadsDone + 1, stepOffer := .offered }) := if_pos hlt

/-- R177: after the fourth load LOCK begins. -/
theorem countModeLoad_last {s : State} (hn : s.seq.modeLoadsDone = 3) :
    countModeLoad s = s.setSeq { s.seq with
      modeLoadsDone := 4, stepOffer := .none, device := .starting .lock
      phaseEnd := some (s.now + 1600) } := by
  simp only [countModeLoad, State.setSeq_seq, hn]
  rfl

/-! ## The first step of an attempt -/

/-- R179: the sequencer as an attempt on a lane begins at start-up, its first step still to be offered. -/
def attempting (lane : Lane) (q : Sequencer) : Sequencer :=
  { q with
    lanes := q.lanes.set lane.val
      { q.lanes[lane.val] with attempts := q.lanes[lane.val].attempts + 1 }
    sweep := some (firstStep lane (q.lanes[lane.val].attempts + 1) .startUp) }

theorem beginAttempt_eq {s : State} (lane : Lane) {press : Bool}
    (hp : press = true ↔ presses s s.agree.live.threshold s.account.owed) :
    beginAttempt lane .startUp s = (s.setSeq (seqOffers press (attempting lane s.seq))).setChan
      { s.chan with offers := s.chan.offers ++ stepOffers press lane 0#6 } :=
  Configuration.offerStep_eq (s := s.setSeq (attempting lane s.seq)) rfl hp

/-- R99, R177: LONG_CAL has completed and TRAIN has begun, lane 0's first attempt still to begin. -/
def calibrated (s : State) : State :=
  ((landMaint .active s).setAccount { s.account with sinceCal := 0, calDue := false }).setSeq
    { s.seq with device := .starting .train, stepOffer := .none }

/-- Settles O41: a mode load sets the order it carries and the next step follows; LONG_CAL hands on to
the first lane. -/
theorem loadAndCalibrationCompletions : Obligations.LoadAndCalibrationCompletions := by
  intro s
  refine ⟨fun m next hl hnext => ?_, fun m hl hn => ?_, fun o hl => ?_, fun by_ r hl hr hp => ?_⟩
  · obtain ⟨hlt, hmode⟩ := modeSetting_of_getElem hnext
    rw [exec_modeLoadCompletion hl, landModeLoad, if_pos rfl, loadSetting_landed,
      countModeLoad_next (by exact hlt), ← hmode]
    simp [offer, chanLanded, State.setChan, State.setSeq] <;> rfl
  · rw [exec_modeLoadCompletion hl, landModeLoad, if_pos rfl, loadSetting_landed,
      countModeLoad_last (by exact hn)]
    rfl
  · rw [exec_modeLoadCompletion hl, landModeLoad, if_neg (by decide), loadSetting_landed]
    rfl
  · subst hr
    have hexec : exec .longCalCompletion s = .next (landLongCal s) := if_pos (inFlight_maintDue hl)
    have hland : landLongCal s = beginAttempt 0 .startUp (calibrated s) := rfl
    rw [hexec, hland, beginAttempt_eq (s := calibrated s) (press := false) 0
      ⟨by simp, fun h => absurd h hp⟩]
    rfl

end Sys2Proof.Maintenance
end


section
/-! PROOFS. The training steps of start-up (R83, R178 to R182, O42): what a sample leads to, with the lane
captured again by its record. -/

namespace Sys2Proof.Maintenance

open Sys2Proof Sys2Proof.Machine Sys2Proof.Safety

/-! ## The completion of a training step -/

/-- R74, R179: a training step has completed, and its sample is still to be acted on. -/
def sampled (s : State) : State :=
  (landMaint .active s).setSeq { s.seq with stepOffer := .none }

theorem exec_trainStepCompletion {s : State} {lane : Lane} {d : Delay} {by_ : Requester} {w : Sweep}
    (sample : Bool) (hl : Lands s (.trainStep lane d) by_) (hw : s.seq.sweep = some w) :
    exec (.trainStepCompletion sample) s =
      .next (restoreCapture lane (actOnSample sample w (sampled s))) := by
  have hmatch : landTrainStep lane sample s =
      restoreCapture lane (actOnSample sample w (sampled s)) := by
    unfold landTrainStep
    dsimp only
    split
    case h_1 h => cases h.symm.trans hw
    case h_2 v h => cases Option.some.inj (h.symm.trans hw); rfl
  simp only [exec, execTrainStepCompletion, landed_of_lands hl, hmatch]

/-- R83: after the step the lane captures with the delay of its record. -/
theorem restoreCapture_eq {s : State} {lane : Lane} {d : Delay}
    (hd : s.seq.lanes[lane.val].delay = d) : restoreCapture lane s =
      s.setChan { s.chan with capture := s.chan.capture.set lane.val (some d) } := by
  rw [restoreCapture, hd, setCapture]

/-- R179: a transition trains the lane of the sweep. -/
theorem actOnSample_transition {sample : Bool} {w : Sweep} (ht : Transition sample w) (s : State) :
    actOnSample sample w s = laneTrained w s := if_pos ht

/-- R179: without one, the attempt ends with the last delay. -/
theorem actOnSample_last {sample : Bool} {w : Sweep} (ht : ¬Transition sample w)
    (hd : w.delay = 63#6) (s : State) : actOnSample sample w s = attemptEnds w s :=
  (if_neg ht).trans (if_pos hd)

/-- R179: and before it the next delay follows. -/
theorem actOnSample_next {sample : Bool} {w : Sweep} (ht : ¬Transition sample w)
    (hd : w.delay ≠ 63#6) (s : State) : actOnSample sample w s =
      offerStep (s.setSeq { s.seq with
        sweep := some { w with delay := w.delay + 1#6, prev := some sample } }) :=
  (if_neg ht).trans (if_neg hd)

/-! ## A lane trained -/

/-- R181: the lane's record takes the delay of its transition. -/
def recordTrained (w : Sweep) (s : State) : State :=
  s.setSeq { s.seq with
    lanes := s.seq.lanes.set w.lane.val
      { s.seq.lanes[w.lane.val] with delay := w.delay, status := .trained } }

theorem recordTrained_delay (w : Sweep) (s : State) :
    (recordTrained w s).seq.lanes[w.lane.val].delay = w.delay := by
  simp [recordTrained]

/-- R179: a new attempt leaves the delays of the records. -/
theorem attempting_delay (lane l : Lane) (q : Sequencer) :
    (attempting lane q).lanes[l.val].delay = q.lanes[l.val].delay := by
  by_cases h : lane.val = l.val
  · simp [attempting, h]
  · simp [attempting, Vector.getElem_set_ne _ _ h]

theorem laneTrained_more {w : Sweep} (hk : w.kind = .startUp) (hl : w.lane ≠ 3) (s : State) :
    laneTrained w s = beginAttempt (w.lane + 1) .startUp (recordTrained w s) := by
  simp only [laneTrained, hk, if_neg hl]
  rfl

theorem laneTrained_all {w : Sweep} (hk : w.kind = .startUp) (hl : w.lane = 3) (s : State) :
    laneTrained w s = becomeReady (recordTrained w s) := by
  simp only [laneTrained, hk, if_pos hl]
  rfl

/-- The lane after any but the last is another one. -/
theorem nextLane_ne {lane : Lane} : (lane + 1).val ≠ lane.val := by
  revert lane
  decide

theorem completeJoins_noneJoining {s : State} (h : ∀ g, s.port g ≠ .joining) :
    completeJoins s = s := by
  have hready : s.joinReady = false := by simp [State.joinReady, h]
  simp [completeJoins, hready]

/-- R181: with no port JOINING and no waiter, READY opens the gate and does nothing more. -/
theorem becomeReady_alone {s : State} (hj : ∀ g, s.port g ≠ .joining) (hq : noWaiters s) :
    becomeReady s = (s.setSeq { s.seq with
      sweep := none, device := .ready, stepOffer := .none, yielding := false }).setGate
        { s.gate with startup := false } := by
  rw [becomeReady, removeReason_noWaiters .startup (by exact hq)]
  exact completeJoins_noneJoining hj

/-! ## A lane failed -/

/-- R182: a JOINING port's JOIN is answered, and the port is LINKED again. -/
def refusedSide (tag : Option Tag) (p : HostSide) : HostSide :=
  if p.port = .joining then { Leases.answeredOptSide tag .deviceFailed p with port := .linked } else p

theorem refuse_step (s : State) (h : HostId) :
    (if s.port h = .joining then
      (answerOpt h (s.tagOfKind h .join) .deviceFailed s).setPort h .linked else s) =
      s.setHost h (refusedSide (s.tagOfKind h .join) (s.host h)) := by
  by_cases hj : s.port h = .joining
  · have hside : refusedSide (s.tagOfKind h .join) (s.host h) =
        { Leases.answeredOptSide (s.tagOfKind h .join) .deviceFailed (s.host h) with
          port := .linked } := if_pos hj
    rw [if_pos hj, Leases.answerOpt_eq, hside]
    cases h <;> rfl
  · have hside : refusedSide (s.tagOfKind h .join) (s.host h) = s.host h := if_neg hj
    rw [if_neg hj, hside, State.setHost_self]

/-- R182: each JOINING port's answer is its own side's alone, so all four are refused at once. -/
theorem refuseJoining_eq (s : State) : refuseJoining s =
    { s with hosts := s.hosts.imap fun h p => refusedSide (s.tagOfKind h .join) p } := by
  simp only [refuseJoining, allHosts, List.foldl_cons, List.foldl_nil, refuse_step]
  simp only [State.setHost, State.host, State.tagOfKind, PerHost.set, PerHost.get, PerHost.imap]
  rfl

/-- R182: a lane has failed at start-up, and the joining hosts are still to be refused. -/
def deviceFailed (w : Sweep) (s : State) : State :=
  s.setSeq { s.seq with
    lanes := s.seq.lanes.set w.lane.val { s.seq.lanes[w.lane.val] with status := .failed }
    sweep := none, device := .failed, stepOffer := .none, yielding := false }

theorem deviceFailed_delay (w : Sweep) (s : State) :
    (deviceFailed w s).seq.lanes[w.lane.val].delay = s.seq.lanes[w.lane.val].delay := by
  simp [deviceFailed]

theorem attemptEnds_more {w : Sweep} {s : State} (hk : w.kind = .startUp)
    (ha : s.seq.lanes[w.lane.val].attempts < 3) :
    attemptEnds w s = beginAttempt w.lane .startUp s := by
  simp only [attemptEnds, hk]
  exact if_pos ha

theorem attemptEnds_failed {w : Sweep} {s : State} (hk : w.kind = .startUp)
    (ha : 3 ≤ s.seq.lanes[w.lane.val].attempts) :
    attemptEnds w s = refuseJoining (deviceFailed w s) := by
  simp only [attemptEnds, hk]
  exact if_neg (Nat.not_lt.mpr ha)

theorem changesOnly_refuseJoining (s : State) : ChangesOnly [.hosts] s (refuseJoining s) := by
  intro p hp
  rw [refuseJoining_eq]
  cases p <;> simp_all [Part.same]

@[simp] theorem refuseJoining_seq (s : State) : (refuseJoining s).seq = s.seq := by
  rw [refuseJoining_eq]

/-- R182: the refusal of the joining hosts, seen from each side. -/
theorem refuseJoining_host (s : State) (h : HostId) :
    (refuseJoining s).host h = refusedSide (s.tagOfKind h .join) (s.host h) := by
  rw [refuseJoining_eq]
  exact PerHost.get_imap _ _ h

theorem refuseJoining_other {s : State} {h : HostId} (hp : s.port h ≠ .joining) :
    (refuseJoining s).host h = s.host h :=
  (refuseJoining_host s h).trans (if_neg hp)

theorem refuseJoining_joining {s : State} {h : HostId} {tag : Tag} (hp : s.port h = .joining)
    (ht : OnlyTag s h .join tag) : (refuseJoining s).host h =
      { sideAnswers (s.host h) tag (plain tag .join .deviceFailed) with port := .linked } := by
  rw [refuseJoining_host, Leases.tagOfKind_only ht]
  refine (if_pos hp).trans ?_
  simp only [Leases.answeredOptSide]
  rw [Leases.answeredSide_plain .deviceFailed ((ht tag).mpr rfl)]

/-- R83: the capture does not wait for the refusals. -/
theorem restoreCapture_refuseJoining (lane : Lane) (s : State) :
    restoreCapture lane (refuseJoining s) = refuseJoining (restoreCapture lane s) := by
  rw [refuseJoining_eq, refuseJoining_eq]
  rfl

theorem chanLanded_nil (s : State) :
    chanLanded s [] = { s.chan with state := .active, maint := none } := by
  rw [chanLanded, List.append_nil]

/-- Settles O42: a step's sample leads to the next delay, to the next lane or to the device READY, or to
the next attempt or to the device FAILED. -/
theorem startUpTrainingStep : Obligations.StartUpTrainingStep := by
  intro s lane d by_ sample w r press hl hw hk hlane hr hp
  subst hlane hr
  rw [exec_trainStepCompletion sample hl hw]
  have hp' : press = true ↔ presses (sampled s) (sampled s).agree.live.threshold
      (sampled s).account.owed := hp
  refine ⟨fun ht hd => ?_, fun ht => ⟨?_, fun hlast hj hq => ?_⟩,
    fun ht hd => ⟨fun ha => ?_, fun ha => ?_⟩⟩
  · rw [actOnSample_next ht hd, Configuration.offerStep_eq rfl (by exact hp'),
      restoreCapture_eq rfl]
    simp only [sampled, landMaint, State.setSeq, State.setChan, seqOffers, chanStepped, chanLanded]
  · rintro next q hmore rfl rfl
    have hother : (recordTrained w (sampled s)).seq.lanes[(w.lane + 1).val] =
        s.seq.lanes[(w.lane + 1).val] := Vector.getElem_set_ne w.lane.isLt _ nextLane_ne.symm
    have hcapture : (attempting (w.lane + 1)
        (recordTrained w (sampled s)).seq).lanes[w.lane.val].delay = w.delay :=
      (attempting_delay _ _ _).trans (recordTrained_delay w _)
    rw [actOnSample_transition ht, laneTrained_more hk hmore,
      beginAttempt_eq (w.lane + 1) (by exact hp'),
      restoreCapture_eq (by exact hcapture), attempting, hother]
    simp only [recordTrained, sampled, landMaint, State.setSeq, State.setChan, seqOffers,
      chanStepped, chanLanded, firstStep]
  · rw [actOnSample_transition ht, laneTrained_all hk hlast,
      becomeReady_alone (by exact hj) (by exact hq), restoreCapture_eq (by exact recordTrained_delay w _)]
    simp [recordTrained, sampled, landMaint, chanStepped, chanLanded_nil, hlast, State.setSeq,
      State.setChan, State.setGate]
  · rw [actOnSample_last ht hd, attemptEnds_more hk (by exact ha),
      beginAttempt_eq w.lane (by exact hp'), restoreCapture_eq (attempting_delay _ _ _)]
    simp only [attempting, sampled, landMaint, State.setSeq, State.setChan, seqOffers,
      chanStepped, chanLanded, firstStep]
  · rw [actOnSample_last ht hd, attemptEnds_failed hk (by exact ha), restoreCapture_refuseJoining,
      restoreCapture_eq (deviceFailed_delay _ _)]
    refine ⟨_, rfl, ?_, refuseJoining_seq _, ?_, fun h hh => refuseJoining_other (by exact hh),
      fun h tag hh htag => refuseJoining_joining (by exact hh) (by exact htag)⟩
    · have hrecord : ChangesOnly [.seq, .chan, .hosts] s (deviceFailed w (sampled s)) := by
        intro p hp
        cases p <;> simp_all [Part.same, deviceFailed, sampled, landMaint]
      exact hrecord.trans ((changesOnly_setChan _ _).trans' (changesOnly_refuseJoining _)
        (by decide) (by decide))
    · rw [refuseJoining_eq, chanStepped, chanLanded_nil]
      rfl

end Sys2Proof.Maintenance
end

section
/-! PROOFS. The way into standby and out of it (R85, R102, R103, R136 to R142, O50). -/

namespace Sys2Proof.Maintenance

open Sys2Proof Sys2Proof.Machine Sys2Proof.Safety

/-! ## The way in -/

theorem entryCondition_of {s : State} (hr : s.standby.state = .running)
    (hpark : ∀ h, s.port h = .attached → s.standby.park.get h = true)
    (hjoin : ∀ h, s.port h ≠ .joining) (hidle : s.agree.state = .idle)
    (hready : s.seq.device = .ready) (hmaint : s.chan.state ≠ .maintenance) :
    s.entryCondition = true := by
  have hparked : (allHosts.all fun h => !decide (s.port h = .attached) || s.standby.park.get h) =
      true := by
    rw [List.all_eq_true]
    intro h _
    by_cases ha : s.port h = .attached
    · simp [hpark h ha]
    · simp [ha]
  simp [State.entryCondition, hr, hparked, hjoin, hidle, hready, hmaint]

theorem enterOfferReady_of {s : State} (he : s.standby.state = .entering)
    (hb : ∀ b, (s.bank b).state = .closed) (hn : ∀ o ∈ maintOps s, o.op ≠ .standbyEnter) :
    s.enterOfferReady = true := by
  have hoffered : s.offered .standbyEnter = false :=
    (offered_false_iff s _).mpr fun o ho => hn o ((mem_maintOps s o).mpr (.inl ho))
  have hflight : s.inFlight .standbyEnter = false := by
    rw [Bool.eq_false_iff]
    intro hf
    obtain ⟨m, hm, hop⟩ := (inFlight_iff s _).mp hf
    exact hn m.offer ((mem_maintOps s _).mpr (.inr ⟨m, hm, rfl⟩)) hop
  simp [State.enterOfferReady, he, (allClosed_iff s).mpr hb, hoffered, hflight]

/-! ## The completion of STANDBY_ENTER -/

/-- R102: the offers that are left once the account has withdrawn its own. -/
def offersKept (s : State) : List Offer :=
  s.chan.offers.filter fun o => decide (o.by_ ≠ .account)

/-- R141: the exit that a pending one offers, unless it is already offered. -/
def exitOffers (s : State) : List Offer :=
  if s.standby.exitPending = true ∧ ∀ o ∈ offersKept s, o.op ≠ .standbyExit then
    [⟨.standbyExit, .standby⟩] else []

/-- R85, R102, R138: the state in SELF_REFRESH with the account stopped, the hosts still to be told. -/
def entered (s : State) (offers : List Offer) : State :=
  (((refreshing s).setAccount { s.account with timer := none, offer := .none }).setGate
    { s.gate with refresh := false }).setChan
      { s.chan with state := .selfRefresh, maint := none, cke := false, offers := offers }

/-- R102: STANDBY stays in the gate, so that the account's reason leaves it and nothing is served. -/
theorem stopAccount_refreshing {s : State} (hg : s.gate.standby = true) :
    stopAccount (refreshing s) = entered s (offersKept s) :=
  removeReason_stays (s := withdraw .account ((refreshing s).setAccount
      { s.account with timer := none, offer := .none })) .refresh
    fun h =>
      have hout : s.gate.standby = false := congrArg Gate.standby h
      Bool.false_ne_true (hout.symm.trans hg)

/-- R141: an exit that is offered already is not offered again. -/
theorem offered_entered (s : State) : (entered s (offersKept s)).offered .standbyExit = false ↔
    ∀ o ∈ offersKept s, o.op ≠ .standbyExit := offered_false_iff _ _

theorem landEnter_eq {s : State} (hg : s.gate.standby = true) :
    landEnter s = notifyAttached .standbyEntered (entered s (offersKept s ++ exitOffers s)) := by
  have hland : landEnter s =
      if (notifyAttached .standbyEntered (stopAccount (refreshing s))).standby.exitPending = true
      then offerExit (notifyAttached .standbyEntered (stopAccount (refreshing s)))
      else notifyAttached .standbyEntered (stopAccount (refreshing s)) := rfl
  have hpend : (notifyAttached .standbyEntered (entered s (offersKept s))).standby.exitPending =
      s.standby.exitPending := rfl
  rw [stopAccount_refreshing hg, hpend] at hland
  rw [hland]
  by_cases hp : s.standby.exitPending = true
  · rw [if_pos hp, offerExit]
    by_cases hn : ∀ o ∈ offersKept s, o.op ≠ .standbyExit
    · have hoff : (notifyAttached .standbyEntered (entered s (offersKept s))).offered
          .standbyExit = false := (offered_entered s).mpr hn
      rw [hoff, exitOffers, if_neg Bool.false_ne_true, if_pos ⟨hp, hn⟩]
      rfl
    · have hoff : (notifyAttached .standbyEntered (entered s (offersKept s))).offered
          .standbyExit = true := (Bool.not_eq_false _).mp (mt (offered_entered s).mp hn)
      rw [hoff, exitOffers, if_pos rfl, if_neg fun h => hn h.2, List.append_nil]
  · rw [if_neg hp, exitOffers, if_neg fun h => hp h.1, List.append_nil]

theorem exec_standbyEnterCompletion {s : State} {by_ : Requester} (hl : Lands s .standbyEnter by_)
    (hg : s.gate.standby = true) : exec .standbyEnterCompletion s =
      .next (notifyAttached .standbyEntered (entered s (offersKept s ++ exitOffers s))) := by
  rw [← landEnter_eq hg]
  exact if_pos (inFlight_maintDue hl)

/-- R141: no exit is offered with none pending, or with one that stays offered. -/
theorem exitOffers_none {s : State}
    (h : s.standby.exitPending = false ∨ s.offered .standbyExit = true)
    (hby : ∀ o ∈ s.chan.offers, o.op = .standbyExit → o.by_ ≠ .account) : exitOffers s = [] := by
  refine if_neg fun ⟨hp, hn⟩ => ?_
  rcases h with h | h
  · simp [h] at hp
  · obtain ⟨o, ho, hop⟩ := List.any_eq_true.mp h
    have hop' : o.op = .standbyExit := of_decide_eq_true hop
    exact hn o (List.mem_filter.mpr ⟨ho, decide_eq_true (hby o ho hop')⟩) hop'

/-- R141: a pending exit that is not offered is offered. -/
theorem exitOffers_some {s : State} (hp : s.standby.exitPending = true)
    (hn : s.offered .standbyExit = false) : exitOffers s = [⟨.standbyExit, .standby⟩] :=
  if_pos ⟨hp, fun o ho => (offered_false_iff s _).mp hn o (List.mem_of_mem_filter ho)⟩

/-! ## The completion of STANDBY_EXIT -/

/-- R103: the state back in RUNNING with the interval timer going again, the hosts still to be told. -/
def resumed (s : State) : State := restartInterval (backRunning s)

/-- R103: with no sweep and the account held, or below every threshold, it has nothing to judge. -/
theorem calm_resumed {s : State} (hw : s.seq.sweep = none)
    (ha : s.account.hold = true ∨
      (s.account.owed < s.agree.live.threshold ∧ s.account.owed < 5)) :
    calm (resumed s) s.agree.live.threshold s.account.owed := by
  refine ⟨ha.imp_right ?_, .inl hw⟩
  rintro ⟨hlt, hlt'⟩ ⟨-, h | h⟩
  · omega
  · omega

theorem exec_standbyExitCompletion {s : State} {by_ : Requester} (hl : Lands s .standbyExit by_)
    (hq : noWaiters s) (hw : s.seq.sweep = none)
    (ha : s.account.hold = true ∨
      (s.account.owed < s.agree.live.threshold ∧ s.account.owed < 5)) :
    exec .standbyExitCompletion s = .next (notifyAttached .standbyLeft (resumed s)) := by
  have hgate : removeReason .standby
      ((landMaint .active s).setStandby { s.standby with state := .running }) = backRunning s :=
    removeReason_noWaiters .standby hq
  have hjudge : judgeAccount (resumed s) = resumed s := judgeAccount_calm (calm_resumed hw ha)
  have hland : landExit s = notifyAttached .standbyLeft (judgeAccount (restartInterval
    (removeReason .standby
      ((landMaint .active s).setStandby { s.standby with state := .running })))) := rfl
  rw [hgate, ← resumed, hjudge] at hland
  rw [← hland]
  exact if_pos (inFlight_maintDue hl)

/-- R138, R142: the standby operations change nothing beyond these parts. -/
theorem changesOnly_notifyAttached {s t : State} (n : Notification)
    (h : ChangesOnly [.gate, .chan, .account, .standby, .hosts] s t) :
    ChangesOnly [.gate, .chan, .account, .standby, .hosts] s (notifyAttached n t) :=
  h.trans ((changesOnly_notifyEach _ _).mono (by decide))

/-- Settles O50: the entry waits for the banks, its completion stops the account, and the exit starts it
again. -/
theorem standbyEntryAndExit : Obligations.StandbyEntryAndExit := by
  intro s
  refine ⟨fun hr hpark hjoin hidle hready hmaint =>
      if_pos (entryCondition_of hr hpark hjoin hidle hready hmaint),
    fun he hb hn => if_pos (enterOfferReady_of he hb hn), fun by_ offers hl hg ho => ?_,
    fun by_ hl hq hw ha => ?_⟩
  · subst ho
    refine ⟨_, exec_standbyEnterCompletion hl hg, changesOnly_notifyAttached _ ?_, rfl, rfl, rfl,
      fun hx hby => ?_, fun hx hn => ?_, fun h => notifyAttached_host _ _ h⟩
    · intro p hp
      cases p <;> simp_all [Part.same, entered, refreshing]
    · rw [exitOffers_none hx hby, List.append_nil]
      rfl
    · rw [exitOffers_some hx hn]
      rfl
  · refine ⟨_, exec_standbyExitCompletion hl hq hw ha, changesOnly_notifyAttached _ ?_, rfl, ?_, ?_,
      rfl, fun h => notifyAttached_host _ _ h⟩
    · intro p hp
      cases p <;> simp_all [Part.same, resumed, backRunning, restartInterval, landMaint]
    · rw [chanLanded_nil]
      rfl
    · have hint : intervalOf s.agree.live.rate = periodOf s.agree.live.rate := by
        cases s.agree.live.rate <;> rfl
      rw [← hint]
      rfl

end Sys2Proof.Maintenance
end

section
/-! PROOFS. Which commands move no more than the lease table, the transfer engine and the links may
(`LeaseMoves`), and how a relation of that kind passes through a request to the block that owns it. -/

namespace Sys2Proof.Refresh

open Sys2Proof Sys2Proof.Machine Sys2Proof.Safety Sys2Proof.Leases Sys2Proof.Configuration
  Sys2Proof.Transfers Sys2Proof.Maintenance

/-! ## Outcomes that stand in a relation -/

/-- Every next state of an outcome stands in the relation `R` to the state before. -/
def NextIn (R : State → State → Prop) (s : State) (o : Host.Outcome State Fault Refusal) : Prop :=
  ∀ t, o = .next t → R s t

/-- A relation that composes and holds of every step within `LeaseMoves`. -/
structure Frame (R : State → State → Prop) : Prop where
  moves : ∀ {s t}, LeaseMoves s t → R s t
  trans : ∀ {s t u}, R s t → R t u → R s u

theorem frame_leaseMoves : Frame LeaseMoves := ⟨id, LeaseMoves.trans⟩

theorem nextIn_next {R : State → State → Prop} {s t : State} (h : R s t) :
    NextIn R s (.next t) := by
  rintro u ⟨⟩
  exact h

section Frames

variable {R : State → State → Prop} (hR : Frame R) {s : State}

include hR

theorem Frame.refl (s : State) : R s s := hR.moves (LeaseMoves.refl s)

/-- An operation that follows an update within `LeaseMoves`. -/
theorem Frame.after {t u : State} (k : R t u) (h : LeaseMoves s t) : R s u := hR.trans (hR.moves h) k

theorem Frame.next_refl (s : State) : NextIn R s (.next s) := nextIn_next (hR.refl s)

/-- Log 3: an event acts where its condition holds, and leaves the state as it is otherwise. -/
theorem Frame.ite {p : Prop} [Decidable p] {t : State} (h : p → R s t) :
    NextIn R s (if p then .next t else .next s) := by
  split
  next hp => exact nextIn_next (h hp)
  · exact hR.next_refl s

/-- A frame that is delivered acts, and one that is not moves its link at most. -/
theorem Frame.deliver {act : State → State} (ha : ∀ u, R u (act u)) (h : HostId) (f : FrameHdr)
    (tagged : Bool) (s : State) : R s (deliver h f tagged act s) := by
  unfold Machine.deliver
  split
  · exact hR.after (ha _) rfl
  · exact hR.moves (leaseMoves_discardFrame h f s)

theorem Frame.request {act : State → State} (ha : ∀ u, R u (act u)) (h : HostId) (f : FrameHdr)
    (tag : Tag) (kind : ReqKind) (s : State) : R s (request h f tag kind act s) := by
  refine hR.deliver (fun u => ?_) h f true s
  unfold takeRequest
  split
  · exact hR.refl u
  · split
    · exact hR.moves rfl
    · exact hR.after (ha _) rfl

theorem Frame.requestAttached {act : State → State} (ha : ∀ u, R u (act u)) (h : HostId)
    (f : FrameHdr) (tag : Tag) (kind : ReqKind) (s : State) :
    R s (Machine.request h f tag kind (attachedOnly h tag act) s) := by
  refine hR.request (fun u => ?_) h f tag kind s
  unfold attachedOnly
  split
  · exact ha u
  · exact hR.moves (leaseMoves_answerStatus _ _ _ u)

end Frames

/-! ## The commands of the lease table, the transfer engine and the links -/

/-- The commands that move no more than `LeaseMoves` allows. -/
def isLeaseCommand : Instr → Bool
  | .holdDeadlineExpiry _ _ | .waitDeadlineExpiry _ _ | .quietEnd _ | .sendTimerExpiry _
  | .sendFrame _ | .receiveIdleFrame _ _ | .receiveCorruptedFrame _ | .messageFrameDiscarded _ _ _
  | .malformedMessage _ _ _ | .joinComplete | .leaveComplete _ | .openLease _ _ _ _ _ _ _
  | .closeLease _ _ _ _ | .closeComplete _ _ | .revocationFinish _ _ | .grantFromQueue _
  | .read _ _ _ _ _ _ | .write _ _ _ _ _ _ _ | .intakeTake | .query _ _ _ | .queryBank _ _ _ _
  | .noteAck _ _ _ | .notificationDelivery _ | .setupEnd _ | .commandSlotEnd
  | .writeRecoveryEnd _ | .activateIssue | .prechargeIssue | .burstIssue | .activateCompletion _
  | .prechargeCompletion _ | .burstCompletion _ => true
  | _ => false

theorem leaseMoves_malformed (h : HostId) (s : State) : LeaseMoves s (malformed h s) := rfl

theorem execWrite_moves (h : HostId) (f : FrameHdr) (tag : Tag) (bank bursts : Byte)
    (col : BitVec 16) (payload : List WriteBurst) (s : State) :
    NextIn LeaseMoves s (execWrite h f tag bank bursts col payload s) := by
  unfold execWrite
  split
  · exact nextIn_next (frame_leaseMoves.request (leaseMoves_transferRequest _) h f tag .write s)
  · exact nextIn_next (frame_leaseMoves.deliver (leaseMoves_malformed h) h f true s)

/-- A deadline, an issue or a completion of the lease table acts on what it finds, or not at all. -/
theorem exec_leaseCommand {c : Instr} (hc : isLeaseCommand c = true) (s : State) :
    NextIn LeaseMoves s (exec c s) := by
  have hF := frame_leaseMoves
  have hstay := hF.next_refl s
  cases c with
  | holdDeadlineExpiry b h =>
    simp only [exec, execHoldDeadlineExpiry]
    split
    · exact hstay
    · exact hF.ite fun _ => leaseMoves_expireHold b h _ s
  | waitDeadlineExpiry b h =>
    simp only [exec, execWaitDeadlineExpiry]
    split
    · exact hstay
    · exact hF.ite fun _ => leaseMoves_withdrawWaiter b h .timedOut s
  | quietEnd h => exact hF.ite fun _ => rfl
  | sendTimerExpiry h => exact hF.ite fun _ => rfl
  | sendFrame h => exact hF.ite fun _ => rfl
  | receiveIdleFrame h f =>
    simp only [exec, execReceiveIdleFrame]
    split
    · exact hstay
    · exact nextIn_next (leaseMoves_countIdle h s)
    · exact nextIn_next rfl
  | receiveCorruptedFrame h =>
    simp only [exec, execReceiveCorruptedFrame]
    split
    · exact hstay
    all_goals exact nextIn_next rfl
  | messageFrameDiscarded h f tagged =>
    simp only [exec, execMessageFrameDiscarded]
    split
    · exact hstay
    · exact nextIn_next (leaseMoves_discardFrame h f s)
  | malformedMessage h f tagged =>
    exact nextIn_next (hF.deliver (leaseMoves_malformed h) h f tagged s)
  | joinComplete => exact nextIn_next (leaseMoves_completeJoins s)
  | leaveComplete h => exact nextIn_next (leaseMoves_completeLeave h s)
  | openLease h f tag bank row mode wait =>
    exact nextIn_next (hF.requestAttached (leaseMoves_takeOpen h tag bank row mode wait) h f tag _ s)
  | closeLease h f tag bank =>
    exact nextIn_next (hF.requestAttached (leaseMoves_takeClose h tag bank) h f tag _ s)
  | closeComplete b h => exact hF.ite fun _ => leaseMoves_finishHolder b h s
  | revocationFinish b h => exact hF.ite fun _ => leaseMoves_finishHolder b h s
  | grantFromQueue b => exact nextIn_next (leaseMoves_serveBank b s)
  | read h f tag bank bursts col =>
    exact nextIn_next (hF.request (leaseMoves_transferRequest _) h f tag .read s)
  | write h f tag bank bursts col payload => exact execWrite_moves h f tag bank bursts col payload s
  | intakeTake => exact nextIn_next (leaseMoves_takeIntake s)
  | query h f tag =>
    exact nextIn_next (hF.request (fun u => leaseMoves_answer h tag .ok _ u) h f tag .query s)
  | queryBank h f tag bank =>
    exact nextIn_next (hF.requestAttached (leaseMoves_takeQueryBank h tag bank) h f tag _ s)
  | noteAck h f n => exact nextIn_next (hF.deliver (leaseMoves_takeNoteAck h n) h f false s)
  | notificationDelivery h => exact nextIn_next rfl
  | setupEnd b => exact hF.ite fun _ => rfl
  | commandSlotEnd => exact hF.ite fun _ => rfl
  | writeRecoveryEnd b => exact hF.ite fun _ => rfl
  | activateIssue =>
    simp only [exec, execActivateIssue]
    split
    · exact nextIn_next (leaseMoves_issueActivate _ s)
    all_goals exact hstay
  | prechargeIssue =>
    simp only [exec, execPrechargeIssue]
    split
    · exact nextIn_next rfl
    all_goals exact hstay
  | burstIssue =>
    simp only [exec, execBurstIssue]
    split
    · exact nextIn_next (leaseMoves_issueBurst _ s)
    all_goals exact hstay
  | activateCompletion b =>
    simp only [exec, execActivateCompletion]
    split
    · exact hF.ite fun _ => .after (leaseMoves_landActivate b _ (keepPlace s)) rfl
    all_goals exact hstay
  | prechargeCompletion b =>
    simp only [exec, execPrechargeCompletion]
    split
    · exact hF.ite fun _ => leaseMoves_landPrecharge b s
    all_goals exact hstay
  | burstCompletion b => exact hF.ite fun _ => .after (leaseMoves_completeBurst b (keepPlace s)) rfl
  | _ => cases hc

end Sys2Proof.Refresh
end

section
/-! PROOFS. The operations that leave the account's counts and offer alone and bring it no operation
(`AccountKept`): those of the units beside it, and of its own the judging of its state. -/

namespace Sys2Proof.Refresh

open Sys2Proof Sys2Proof.Machine Sys2Proof.Safety Sys2Proof.Leases Sys2Proof.Configuration
  Sys2Proof.Maintenance

/-- The operations of the account that are offered or in flight. -/
def accountOps (s : State) : List Offer := (maintOps s).filter isAccountOp

/-- What the laws of the account read of it: not its timer, its calibration flag or its pressure hold. -/
structure AccountView where
  owed     : Int
  offer    : AccountOffer
  sinceCal : Nat
  missed   : Nat

def accountView (s : State) : AccountView :=
  ⟨s.account.owed, s.account.offer, s.account.sinceCal, s.account.missed⟩

/-- A step that leaves the account's counts and offer alone and brings no operation of the account. -/
structure AccountKept (s t : State) : Prop where
  view : accountView t = accountView s
  ops : (accountOps t).Subperm (accountOps s)

namespace AccountKept

variable {s t u : State}

theorem owed (h : AccountKept s t) : t.account.owed = s.account.owed :=
  congrArg AccountView.owed h.view

theorem offer (h : AccountKept s t) : t.account.offer = s.account.offer :=
  congrArg AccountView.offer h.view

theorem sinceCal (h : AccountKept s t) : t.account.sinceCal = s.account.sinceCal :=
  congrArg AccountView.sinceCal h.view

theorem missed (h : AccountKept s t) : t.account.missed = s.account.missed :=
  congrArg AccountView.missed h.view

theorem refl (s : State) : AccountKept s s := ⟨rfl, .refl _⟩

theorem trans (h : AccountKept s t) (k : AccountKept t u) : AccountKept s u :=
  ⟨k.view.trans h.view, k.ops.trans h.ops⟩

/-- An operation that follows an update of other parts. -/
theorem after (k : AccountKept t u) (h : AccountKept s t) : AccountKept s u := h.trans k

theorem ite {p : Prop} [Decidable p] (ht : AccountKept s t) (hu : AccountKept s u) :
    AccountKept s (if p then t else u) := by
  split
  · exact ht
  · exact hu

theorem of_moves (h : LeaseMoves s t) : AccountKept s t := by
  rw [h]
  exact ⟨rfl, .refl _⟩

/-- The laws of the account speak of nothing else. -/
theorem sound (h : AccountKept s t) (hs : AccountSound s) : AccountSound t := by
  obtain ⟨hlow, hhigh, hoffer, hcal, hmissed, hone, hops⟩ := hs
  unfold AccountSound
  rw [h.owed, h.offer, h.sinceCal, h.missed]
  refine ⟨hlow, hhigh, hoffer, hcal, hmissed, h.ops.length_le.trans hone, fun o ho hop => ?_⟩
  have hold : o ∈ accountOps s := h.ops.subset (List.mem_filter.mpr ⟨ho, hop⟩)
  exact hops o (List.mem_of_mem_filter hold) hop

end AccountKept

theorem frame_accountKept : Frame AccountKept := ⟨.of_moves, .trans⟩

/-! ## Offers and gate reasons -/

theorem accountKept_offer {op : MaintOp} {by_ : Requester} (s : State)
    (hop : isAccountOp ⟨op, by_⟩ = false) : AccountKept s (offer op by_ s) := by
  have hops : accountOps (offer op by_ s) = accountOps s := by
    simp [accountOps, maintOps, offer, hop]
  exact ⟨rfl, hops ▸ .refl _⟩

theorem accountKept_withdraw (by_ : Requester) (s : State) : AccountKept s (withdraw by_ s) := by
  have hops : (maintOps (withdraw by_ s)).Sublist (maintOps s) :=
    List.filter_sublist.append (.refl _)
  exact ⟨rfl, (hops.filter _).subperm⟩

theorem accountKept_removeReason (r : GateReason) (s : State) : AccountKept s (removeReason r s) :=
  .ite (.trans (t := s.setGate (s.gate.put r false)) ⟨rfl, .refl _⟩
    (.of_moves (leaseMoves_serveAll _))) ⟨rfl, .refl _⟩

/-! ## The account and the sweep -/

theorem accountKept_offerStep (s : State) : AccountKept s (offerStep s) := by
  unfold offerStep
  split
  · exact .refl s
  · exact .ite ⟨rfl, .refl _⟩ (.after (accountKept_offer _ rfl) ⟨rfl, .refl _⟩)

theorem accountKept_judgeYield (s : State) : AccountKept s (judgeYield s) :=
  .ite (.refl s) (.ite (.ite (.after (accountKept_withdraw _ _) ⟨rfl, .refl _⟩) (.refl s))
    (.ite (accountKept_offerStep s) (.refl s)))

/-- R91: judging the account may begin its pressure hold, which is no count of it. -/
theorem accountKept_judgeAccount (s : State) : AccountKept s (judgeAccount s) :=
  .after (accountKept_judgeYield _) (.ite (t := enterPressed s) ⟨rfl, .refl _⟩ (.refl s))

theorem accountKept_beginAttempt (lane : Lane) (kind : SweepKind) (s : State) :
    AccountKept s (beginAttempt lane kind s) := by
  unfold beginAttempt
  split
  · exact .after (accountKept_offerStep _) ⟨rfl, .refl _⟩
  · split
    · exact .refl s
    · exact .after (accountKept_offerStep _) ⟨rfl, .refl _⟩

/-! ## The agreement unit -/

theorem accountKept_resolveProposal (o : ProposalOutcome) (s : State) :
    AccountKept s (resolveProposal o s) := by
  unfold resolveProposal
  split <;> exact ⟨rfl, .refl _⟩

theorem accountKept_applyLight (s : State) : AccountKept s (applyLight s) :=
  .after (accountKept_judgeAccount _) (.after (accountKept_resolveProposal _ _) ⟨rfl, .refl _⟩)

theorem accountKept_abandon (r : AbandonReason) (s : State) : AccountKept s (abandon r s) :=
  .after (accountKept_resolveProposal _ _)
    (.after (accountKept_removeReason _ _) ⟨rfl, .refl _⟩)

theorem accountKept_applyBurstOrder (s : State) : AccountKept s (applyBurstOrder s) :=
  .ite ⟨rfl, .refl _⟩ (.after (accountKept_offer _ rfl) ⟨rfl, .refl _⟩)

theorem accountKept_beginApply (s : State) : AccountKept s (beginApply s) := by
  unfold beginApply
  split
  · exact .refl s
  · exact .ite (.after (accountKept_beginAttempt 0 .retrain _) ⟨rfl, .refl _⟩)
      (.after (accountKept_applyBurstOrder _) ⟨rfl, .refl _⟩)

theorem accountKept_startDrain (s : State) : AccountKept s (startDrain s) := by
  cases hp : s.agree.proposal with
  | none =>
    rw [startDrain, hp]
    exact .refl s
  | some p =>
    have hdraining : AccountKept s (draining p s) := ⟨rfl, .refl _⟩
    rw [startDrain_eq hp]
    exact .ite (hdraining.trans (accountKept_beginApply _)) hdraining

theorem accountKept_judgeBallot (s : State) : AccountKept s (judgeBallot s) := by
  unfold judgeBallot ballotWon
  split
  · exact .refl s
  · refine .ite ?_ (.refl s)
    split
    · exact .refl s
    · exact .ite (accountKept_startDrain s) (accountKept_applyLight s)

theorem accountKept_detachAgreement (h : HostId) (s : State) :
    AccountKept s (detachAgreement h s) := by
  unfold detachAgreement
  split
  · exact .ite (accountKept_abandon _ s)
      (.ite (.after (accountKept_judgeBallot _) ⟨rfl, .refl _⟩) (.refl s))
  all_goals exact ⟨rfl, .refl _⟩

theorem accountKept_commitProposal (s : State) : AccountKept s (commitProposal s) := by
  have hset : ∀ a u, AccountKept u (u.setAgree a) := fun _ _ => ⟨rfl, .refl _⟩
  have hlive : AccountKept s (recheckWaiters (stagedLive s)) :=
    .after (.of_moves (leaseMoves_recheckWaiters _)) (hset _ s)
  have hrecord : AccountKept s (recordTaken s) := hlive.trans (hset _ _)
  rw [commitProposal_eq]
  exact ((hrecord.trans (accountKept_removeReason _ _)).trans
    (accountKept_resolveProposal _ _)).trans (accountKept_judgeAccount _)

theorem accountKept_takePropose (h : HostId) (tag : Tag) (base : BitVec 16)
    (items : List RawItem) (s : State) : AccountKept s (takePropose h tag base items s) := by
  have hans : ∀ st p u, AccountKept u (answer h tag st p u) := fun st p u =>
    .of_moves (leaseMoves_answer h tag st p u)
  have hset : ∀ a, AccountKept s (s.setAgree a) := fun _ => ⟨rfl, .refl _⟩
  have htold : ∀ l n u, AccountKept u (judgeBallot (notifySet l n u)) := fun l n u =>
    .after (accountKept_judgeBallot _) ⟨rfl, .refl _⟩
  have hpost : ∀ l, AccountKept s (postProposal h tag l s) := fun l =>
    ((hset _).trans (hans _ _ _)).trans (htold _ _ _)
  refine .ite (hans _ _ s) (.ite (hans _ _ s) (.ite (hans _ _ s) ?_))
  split
  · exact hans _ _ s
  · exact hpost _

theorem accountKept_takeVote (h : HostId) (tag : Tag) (number : Seq) (accept : Bool) (s : State) :
    AccountKept s (takeVote h tag number accept s) := by
  have hans : ∀ st, AccountKept s (answerStatus h tag st s) := fun st =>
    .of_moves (leaseMoves_answerStatus h tag st s)
  unfold takeVote
  split
  · split
    · exact hans _
    · exact .ite ((hans .ok).trans (.after (accountKept_judgeBallot _) ⟨rfl, .refl _⟩))
        ((hans _).trans (accountKept_abandon _ _))
  · exact hans _

/-- R124: no second drain deadline is set. -/
theorem accountKept_expireDrain (s : State) :
    AccountKept s (massRevoke .config (clearDrainDeadline s)) := by
  refine .after (.of_moves (leaseMoves_massRevoke _ _)) ?_
  unfold clearDrainDeadline
  split <;> exact ⟨rfl, .refl _⟩

/-! ## The standby controller and the ports -/

theorem accountKept_offerExit (s : State) : AccountKept s (offerExit s) :=
  .ite (.refl s) (accountKept_offer s rfl)

theorem accountKept_exitCause (s : State) : AccountKept s (exitCause s) := by
  unfold exitCause
  split
  · exact .refl s
  · exact .refl s
  · exact .ite (.after (accountKept_offerExit _) ⟨rfl, .refl _⟩)
      (.after (accountKept_removeReason _ _) (.after (accountKept_withdraw _ _) ⟨rfl, .refl _⟩))
  · exact accountKept_offerExit s

theorem accountKept_linkDown (h : HostId) (s : State) : AccountKept s (linkDown h s) := by
  have hdown : ∀ x, AccountKept s (tearDown h (s.setHost h x)) := fun x =>
    .of_moves (.after (leaseMoves_tearDown h _) rfl)
  have hpark : ∀ u, AccountKept u (leavePark h u) := fun _ => ⟨rfl, .refl _⟩
  have hend : ∀ u, AccountKept u (takeIntake (notifyAttached (.hostLeft h true) u)) := fun u =>
    .of_moves (.after (leaseMoves_takeIntake _) rfl)
  unfold linkDown
  dsimp only
  split
  · exact (((hdown _).trans (accountKept_detachAgreement h _)).trans (hpark _)).trans (hend _)
  · exact (hdown _).trans (hend _)
  all_goals exact ⟨rfl, .refl _⟩

theorem accountKept_takeNak (h : HostId) (n : Seq) (s : State) : AccountKept s (takeNak h n s) :=
  .ite (.ite (accountKept_linkDown h s) (.of_moves rfl)) (.ite (.of_moves rfl) (.refl s))

theorem accountKept_takeJoin (h : HostId) (tag : Tag) (s : State) :
    AccountKept s (takeJoin h tag s) := by
  have hans := fun st => AccountKept.of_moves (leaseMoves_answerStatus h tag st s)
  have hjoining : AccountKept s (s.setPort h .joining) := ⟨rfl, .refl _⟩
  unfold takeJoin
  split
  · exact .ite (hans _) ((hjoining.trans (accountKept_exitCause _)).trans
      (.of_moves (leaseMoves_completeJoins _)))
  all_goals exact hans _

theorem accountKept_takeLeave (h : HostId) (s : State) : AccountKept s (takeLeave h s) := by
  have hw : AccountKept s (withdrawAndClose h (s.setPort h .leaving)) :=
    .of_moves (.after (leaseMoves_withdrawAndClose h _) rfl)
  have hpark : ∀ u, AccountKept u (leavePark h u) := fun _ => ⟨rfl, .refl _⟩
  exact ((hw.trans (accountKept_detachAgreement h _)).trans (hpark _)).trans
    (.of_moves (leaseMoves_completeLeave h _))

theorem accountKept_takePark (h : HostId) (tag : Tag) (s : State) :
    AccountKept s (takePark h tag s) := by
  unfold takePark
  split
  · exact .of_moves (leaseMoves_answerStatus _ _ _ s)
  · exact .after (.of_moves (leaseMoves_answerStatus _ _ _ _)) ⟨rfl, .refl _⟩

theorem accountKept_takeUnpark (h : HostId) (tag : Tag) (s : State) :
    AccountKept s (takeUnpark h tag s) := by
  have hans := AccountKept.of_moves (leaseMoves_answerStatus h tag .ok s)
  have hpark : ∀ u, AccountKept u (leavePark h u) := fun _ => ⟨rfl, .refl _⟩
  exact .ite ((hans.trans (hpark _)).trans (accountKept_exitCause _)) hans

/-! ## Start-up, mode loads and training steps -/

theorem accountKept_endSettle (s : State) : AccountKept s (endSettle s) :=
  .after (accountKept_offer _ rfl) ⟨rfl, .refl _⟩

/-- R74: an operation that completes is no longer in flight. -/
theorem accountKept_landMaint (next : ChannelState) (s : State) :
    AccountKept s (landMaint next s) := by
  have hops : (maintOps (landMaint next s)).Sublist (maintOps s) := by
    simp [maintOps, landMaint]
  exact ⟨rfl, (hops.filter _).subperm⟩

theorem accountKept_landModeLoad (m : ModeSetting) (by_ : Requester) (s : State) :
    AccountKept s (landModeLoad m by_ s) := by
  have hload : AccountKept s (loadSetting m (landMaint .active s)) := by
    refine (accountKept_landMaint .active s).trans ?_
    cases m <;> exact ⟨rfl, .refl _⟩
  have hcount : ∀ u, AccountKept u (countModeLoad u) := fun u =>
    .ite (.after (accountKept_offer _ rfl) ⟨rfl, .refl _⟩) ⟨rfl, .refl _⟩
  exact .ite (hload.trans (hcount _)) (hload.trans ⟨rfl, .refl _⟩)

theorem accountKept_becomeReady (s : State) : AccountKept s (becomeReady s) :=
  .after (.of_moves (leaseMoves_completeJoins _))
    (.after (accountKept_removeReason _ _) ⟨rfl, .refl _⟩)

theorem accountKept_laneTrained (w : Sweep) (s : State) : AccountKept s (laneTrained w s) := by
  have hatt : ∀ lane kind q, AccountKept s (beginAttempt lane kind (s.setSeq q)) :=
    fun lane kind q => .after (accountKept_beginAttempt lane kind _) ⟨rfl, .refl _⟩
  unfold laneTrained
  split
  · exact .ite (.after (accountKept_becomeReady _) ⟨rfl, .refl _⟩) (hatt _ _ _)
  · split
    · exact .refl s
    · exact .ite (.after (accountKept_applyBurstOrder _) ⟨rfl, .refl _⟩) (hatt _ _ _)

theorem accountKept_attemptEnds (w : Sweep) (s : State) : AccountKept s (attemptEnds w s) := by
  have hatt : ∀ kind, AccountKept s (beginAttempt w.lane kind s) := fun kind =>
    accountKept_beginAttempt w.lane kind s
  unfold attemptEnds
  split
  · exact .ite (hatt _) (.after (.of_moves (leaseMoves_refuseJoining _)) ⟨rfl, .refl _⟩)
  · split
    · exact .refl s
    · exact .ite (hatt _) (.after (accountKept_abandon _ _) ⟨rfl, .refl _⟩)

theorem accountKept_landTrainStep (lane : Lane) (sample : Bool) (s : State) :
    AccountKept s (landTrainStep lane sample s) := by
  have hland : ∀ q, AccountKept s ((landMaint .active s).setSeq q) := fun q =>
    (accountKept_landMaint .active s).trans ⟨rfl, .refl _⟩
  have hact : ∀ w u, AccountKept u (actOnSample sample w u) := fun w u =>
    .ite (accountKept_laneTrained w u)
      (.ite (accountKept_attemptEnds w u) (.after (accountKept_offerStep _) ⟨rfl, .refl _⟩))
  have hcapture : ∀ u, AccountKept u (restoreCapture lane u) := fun u => ⟨rfl, .refl _⟩
  refine .trans ?_ (hcapture _)
  split
  · exact hland _
  · exact (hland _).trans (hact _ _)

/-- R74: the issue of an offer takes it from the set of offers to the flight. -/
theorem accountKept_issueMaint {s : State} {o : Offer} (ht : s.maintTaken = some o) :
    AccountKept s (issueMaint o s) := by
  obtain ⟨hm, ho, -⟩ := maintTaken_offer ht
  exact ⟨rfl, ((maintOps_issueMaint hm ho).filter _).subperm⟩

end Sys2Proof.Refresh
end

section
/-! PROOFS. The laws of the account (R86, R87), kept by its own operations: the interval expiry, its offers,
the ends of its operations, and its stop and start with standby. -/

namespace Sys2Proof.Refresh

open Sys2Proof Sys2Proof.Machine Sys2Proof.Safety Sys2Proof.Leases Sys2Proof.Maintenance

/-! ## The laws of the account, taken apart -/

/-- R86, R87, R100: the counts of the account are within their bounds, and a refresh is offered only
while owed is above -4. -/
def CountsSound (a : Account) : Prop :=
  -4 ≤ a.owed ∧ a.owed ≤ 6 ∧ (a.offer = .refresh → -3 ≤ a.owed) ∧ a.sinceCal ≤ 127 ∧ a.missed ≤ 255

/-- R86: an operation of the account is the account's, and its offer field says which. -/
def OpSound (a : Account) (o : Offer) : Prop := o.by_ = .account ∧ a.offer = accountOfferOf o

theorem accountSound_iff (s : State) :
    AccountSound s ↔ CountsSound s.account ∧ (accountOps s).length ≤ 1 ∧
      ∀ o ∈ accountOps s, OpSound s.account o := by
  simp only [AccountSound, CountsSound, OpSound, accountOps, List.mem_filter, and_imp, and_assoc]

theorem AccountKept.accountOps_nil {s t : State} (h : AccountKept s t) (hs : accountOps s = []) :
    accountOps t = [] :=
  List.subperm_nil.mp (hs ▸ h.ops)

/-- R86: with no offer on record no operation of the account is offered or in flight. -/
theorem accountOps_nil {s : State} (hs : AccountSound s) (hn : s.account.offer = .none) :
    accountOps s = [] := by
  obtain ⟨-, -, hops⟩ := (accountSound_iff s).mp hs
  refine List.eq_nil_iff_forall_not_mem.mpr fun o ho => ?_
  obtain ⟨-, hoffer⟩ := hops o ho
  have hop : isAccountOp o = true := List.of_mem_filter ho
  obtain ⟨op, by_⟩ := o
  rw [hn] at hoffer
  cases op with
  | refresh | shortCal => cases hoffer
  | longCal | modeLoad | trainStep | standbyEnter | standbyExit => cases hop

/-- An account with no operation is sound by its counts alone. -/
theorem sound_of_idle {s : State} (hc : CountsSound s.account) (hn : accountOps s = []) :
    AccountSound s := by
  rw [accountSound_iff, hn]
  exact ⟨hc, Nat.zero_le 1, fun o ho => absurd ho List.not_mem_nil⟩

/-- A change to the account that leaves its offer as it is. -/
theorem setAccount_sound {s : State} {a : Account} (hs : AccountSound s) (hc : CountsSound a)
    (ho : a.offer = s.account.offer) : AccountSound (s.setAccount a) := by
  rw [accountSound_iff] at hs ⊢
  obtain ⟨-, hone, hops⟩ := hs
  refine ⟨hc, hone, fun o hm => ?_⟩
  obtain ⟨hby, hoffer⟩ := hops o hm
  exact ⟨hby, ho.trans hoffer⟩

/-! ## INTERVAL_EXPIRY (R90, R100) -/

/-- R90: owed rises only below 6. -/
theorem raiseOwed_sound {s : State} (hlt : s.account.owed < 6) (hs : AccountSound s) :
    AccountSound (raiseOwed s) := by
  obtain ⟨⟨hlow, -, hoffer, hcal, hmissed⟩, -⟩ := (accountSound_iff s).mp hs
  have hraised : AccountSound (s.setAccount { s.account with owed := s.account.owed + 1 }) :=
    setAccount_sound hs ⟨by simp only; omega, by simp only; omega,
      fun h => by have := hoffer h; simp only; omega, hcal, hmissed⟩ rfl
  have hjudged := (accountKept_judgeAccount _).sound hraised
  unfold raiseOwed
  dsimp only
  split
  · exact (AccountKept.of_moves (leaseMoves_massRevoke .refresh _)).sound hjudged
  · exact hjudged

/-- R100: the count of missed refreshes saturates. -/
theorem missRefresh_sound {s : State} (hs : AccountSound s) : AccountSound (missRefresh s) := by
  obtain ⟨⟨hlow, hhigh, hoffer, hcal, hmissed⟩, -⟩ := (accountSound_iff s).mp hs
  have hle : (if s.account.missed < 255 then s.account.missed + 1 else s.account.missed) ≤ 255 := by
    split <;> omega
  have hcounted := setAccount_sound hs (a := { s.account with
    missed := if s.account.missed < 255 then s.account.missed + 1 else s.account.missed })
    ⟨hlow, hhigh, hoffer, hcal, hle⟩ rfl
  exact hcounted

theorem expireInterval_sound {s : State} (hs : AccountSound s) :
    AccountSound (expireInterval s) := by
  have hs' : AccountSound (restartInterval s) := AccountKept.sound (s := s) ⟨rfl, .refl _⟩ hs
  unfold expireInterval
  dsimp only
  split
  next hlt => exact raiseOwed_sound hlt hs'
  · exact missRefresh_sound hs'

/-! ## The offers of the account (R94, R98) -/

/-- R86: the one operation of an account that had none. -/
theorem accountOps_offer {s : State} {op : MaintOp} (hnil : accountOps s = [])
    (hop : isAccountOp ⟨op, .account⟩ = true) :
    accountOps (offer op .account s) = [⟨op, .account⟩] := by
  rw [accountOps, maintOps, List.filter_append, List.append_eq_nil_iff] at hnil
  obtain ⟨hoffers, hflight⟩ := hnil
  simp only [accountOps, maintOps, offer, State.setChan_chan, List.filter_append, hoffers, hflight]
  simp [hop]

/-- R94: an account that has no operation offers one, with its reason in the gate. -/
theorem offerOp_sound {s : State} {op : MaintOp} {a : Account} (hnil : accountOps s = [])
    (hop : isAccountOp ⟨op, .account⟩ = true) (hc : CountsSound a)
    (ho : a.offer = accountOfferOf ⟨op, .account⟩) :
    AccountSound (offer op .account (addReason .refresh (s.setAccount a))) := by
  have hnil' : accountOps (addReason .refresh (s.setAccount a)) = [] := hnil
  rw [accountSound_iff, accountOps_offer hnil' hop]
  refine ⟨hc, Nat.le_refl 1, fun o hm => ?_⟩
  rw [List.mem_singleton.mp hm]
  exact ⟨rfl, ho⟩

/-- R94: an account that has nothing offered may offer a calibration, and above -4 a REFRESH. -/
theorem makeAccountOffer_sound {s : State} (hs : AccountSound s) (hn : s.account.offer = .none)
    (hw : s.account.calDue = true ∨ -4 < s.account.owed) : AccountSound (makeAccountOffer s) := by
  obtain ⟨⟨hlow, hhigh, -, hcal, hmissed⟩, -⟩ := (accountSound_iff s).mp hs
  have hnil := accountOps_nil hs hn
  unfold makeAccountOffer
  split
  · exact offerOp_sound hnil rfl ⟨hlow, hhigh, by simp, hcal, hmissed⟩ rfl
  next hdue =>
    have habove : -4 < s.account.owed := hw.resolve_left hdue
    exact offerOp_sound hnil rfl ⟨hlow, hhigh, fun _ => habove, hcal, hmissed⟩ rfl

/-- R94: the request condition is enough for an offer. -/
theorem request_sound {s : State} (hw : s.refreshWanted = true) (hs : AccountSound s) :
    AccountSound (makeAccountOffer s) := by
  obtain ⟨-, hn, -, hdue⟩ := (refreshWanted_iff s).mp hw
  refine makeAccountOffer_sound hs hn (hdue.imp_right fun hpay => ?_)
  rcases hpay with hpay | ⟨hpay, -⟩ <;> omega

/-- R98: after its operation the account offers again only what R94 allows. -/
theorem afterAccountOp_sound {s : State} (hs : AccountSound s) (hn : s.account.offer = .none) :
    AccountSound (afterAccountOp s) := by
  have hheld : AccountSound (s.setAccount { s.account with hold := false }) :=
    AccountKept.sound (s := s) ⟨rfl, .refl _⟩ hs
  have hends : ∀ u, AccountSound u → AccountSound (removeReason .refresh u) := fun u =>
    (accountKept_removeReason .refresh u).sound
  unfold afterAccountOp
  split
  next hdue => exact makeAccountOffer_sound hs hn (.inl hdue)
  · split
    · split
      next hpay => exact makeAccountOffer_sound hs hn (.inr (by omega))
      · exact hends _ hheld
    · exact hends _ hs

/-! ## The ends of the account's operations (R97 to R99) -/

/-- R86: the operation of the account that completes was its only one. -/
theorem accountOps_landed {s : State} {op : MaintOp} (hop : ∀ by_, isAccountOp ⟨op, by_⟩ = true)
    (hf : s.inFlight op = true) (hs : AccountSound s) :
    accountOps (landMaint .active s) = [] ∧ ∃ by_, s.account.offer = accountOfferOf ⟨op, by_⟩ := by
  obtain ⟨⟨⟨op', by_⟩, d⟩, hm, rfl⟩ := (inFlight_iff s op).mp hf
  obtain ⟨-, hone, hops⟩ := (accountSound_iff s).mp hs
  have hbefore : accountOps s = accountOps (landMaint .active s) ++ [⟨op', by_⟩] := by
    simp [accountOps, maintOps, landMaint, hm, hop]
  rw [hbefore] at hone hops
  refine ⟨?_, by_, (hops _ (by simp)).2⟩
  rw [List.length_append, List.length_singleton] at hone
  exact List.length_eq_zero_iff.mp (by omega)

/-- R98: an operation of the account has completed: the account is judged, and acts on its counts. -/
theorem landAccountOp_sound {s : State} {a : Account} (hnil : accountOps s = [])
    (hc : CountsSound a) (hn : a.offer = .none) :
    AccountSound (afterAccountOp (judgeAccount (s.setAccount a))) := by
  have hkept := accountKept_judgeAccount (s.setAccount a)
  have hidle : AccountSound (s.setAccount a) := sound_of_idle hc hnil
  exact afterAccountOp_sound (hkept.sound hidle) (hkept.offer.trans hn)

/-- R97: a REFRESH was offered above -4, so that its completion leaves owed within its bounds. -/
theorem countsSound_afterRefresh {a : Account} (hc : CountsSound a) (ho : a.offer = .refresh) :
    CountsSound a.afterRefresh ∧ a.afterRefresh.offer = .none := by
  obtain ⟨-, hhigh, hoffer, hcal, hmissed⟩ := hc
  have hlow := hoffer ho
  have hper : Config.refreshesPerCal = 128 := rfl
  unfold Account.afterRefresh CountsSound
  split
  · exact ⟨⟨by simp only; omega, by simp only; omega, by simp, by simp, hmissed⟩, rfl⟩
  · exact ⟨⟨by simp only; omega, by simp only; omega, by simp, by simp only; omega, hmissed⟩, rfl⟩

theorem landRefresh_sound {s : State} (hf : s.inFlight .refresh = true) (hs : AccountSound s) :
    AccountSound (landRefresh s) := by
  obtain ⟨hnil, by_, ho⟩ := accountOps_landed (fun _ => rfl) hf hs
  obtain ⟨hc, hn⟩ := countsSound_afterRefresh ((accountSound_iff s).mp hs).1 ho
  exact landAccountOp_sound hnil hc hn

theorem landShortCal_sound {s : State} (hf : s.inFlight .shortCal = true) (hs : AccountSound s) :
    AccountSound (landShortCal s) := by
  obtain ⟨hnil, -⟩ := accountOps_landed (fun _ => rfl) hf hs
  obtain ⟨⟨hlow, hhigh, -, hcal, hmissed⟩, -⟩ := (accountSound_iff s).mp hs
  exact landAccountOp_sound hnil ⟨hlow, hhigh, by simp, hcal, hmissed⟩ rfl

/-- R99: LONG_CAL starts the calibration count again. -/
theorem landLongCal_sound {s : State} (hs : AccountSound s) : AccountSound (landLongCal s) := by
  have hland := (accountKept_landMaint .active s).sound hs
  obtain ⟨⟨hlow, hhigh, hoffer, -, hmissed⟩, -⟩ := (accountSound_iff _).mp hland
  have hreset : AccountSound
      ((landMaint .active s).setAccount { s.account with sinceCal := 0, calDue := false }) :=
    setAccount_sound hland ⟨hlow, hhigh, hoffer, Nat.zero_le _, hmissed⟩ rfl
  have hrest : ∀ q u, AccountKept u (beginAttempt 0 .startUp (u.setSeq q)) := fun q u =>
    .after (accountKept_beginAttempt 0 .startUp _) ⟨rfl, .refl _⟩
  exact (hrest _ _).sound hreset

/-- R101: at the end of LOCK the account offers what its request condition gives. -/
theorem endLock_sound {s : State} (hs : AccountSound s) : AccountSound (endLock s) := by
  have hcal : AccountKept s (calibrating s) :=
    .trans (t := offer .longCal .sequencer s) (accountKept_offer s rfl) ⟨rfl, .refl _⟩
  have hjudged := (hcal.trans (accountKept_judgeAccount _)).sound hs
  rw [endLock_eq]
  split
  next hw => exact request_sound hw hjudged
  · exact hjudged

/-! ## Standby (R102, R103) -/

/-- R102: the account that stops withdraws its operation. -/
theorem stopAccount_sound {s : State} (hm : s.chan.maint = none) (hs : AccountSound s) :
    AccountSound (stopAccount s) := by
  obtain ⟨⟨hlow, hhigh, -, hcal, hmissed⟩, -, hops⟩ := (accountSound_iff s).mp hs
  have hnil : accountOps (withdraw .account
      (s.setAccount { s.account with timer := none, offer := .none })) = [] := by
    refine List.eq_nil_iff_forall_not_mem.mpr fun o ho => ?_
    simp only [accountOps, mem_maintOps, withdraw, List.mem_filter, State.setChan_chan,
      State.setAccount_chan, hm, decide_eq_true_eq] at ho
    obtain ⟨⟨hoffered, hby⟩ | ⟨m, h, -⟩, hop⟩ := ho
    · have hmem : o ∈ maintOps s := (mem_maintOps s o).mpr (.inl hoffered)
      exact hby (hops o (List.mem_filter.mpr ⟨hmem, hop⟩)).1
    · cases h
  exact (accountKept_removeReason .refresh _).sound
    (sound_of_idle ⟨hlow, hhigh, by simp [withdraw], hcal, hmissed⟩ hnil)

theorem landEnter_sound {s : State} (hs : AccountSound s) : AccountSound (landEnter s) := by
  have hrefreshing : AccountKept s (refreshing s) :=
    (accountKept_landMaint .selfRefresh s).trans ⟨rfl, .refl _⟩
  have hstop : AccountSound (notifyAttached .standbyEntered (stopAccount (refreshing s))) :=
    stopAccount_sound (s := refreshing s) rfl (hrefreshing.sound hs)
  have hland : landEnter s =
      if (notifyAttached .standbyEntered (stopAccount (refreshing s))).standby.exitPending = true
      then offerExit (notifyAttached .standbyEntered (stopAccount (refreshing s)))
      else notifyAttached .standbyEntered (stopAccount (refreshing s)) := rfl
  rw [hland]
  split
  · exact (accountKept_offerExit _).sound hstop
  · exact hstop

theorem accountKept_landExit (s : State) : AccountKept s (landExit s) := by
  have hland : ∀ x, AccountKept s (removeReason .standby ((landMaint .active s).setStandby x)) :=
    fun x => .after (accountKept_removeReason .standby _)
      ((accountKept_landMaint .active s).trans ⟨rfl, .refl _⟩)
  have hjudge : ∀ u, AccountKept u (judgeAccount (restartInterval u)) := fun u =>
    .after (accountKept_judgeAccount _) ⟨rfl, .refl _⟩
  have htold : ∀ n u, AccountKept u (notifyAttached n u) := fun _ _ => ⟨rfl, .refl _⟩
  exact ((hland _).trans (hjudge _)).trans (htold _ _)

end Sys2Proof.Refresh
end

section
/-! PROOFS. The commands one by one: each keeps the laws of the account (O8). -/

namespace Sys2Proof.Refresh

open Sys2Proof Sys2Proof.Machine Sys2Proof.Safety Sys2Proof.Leases Sys2Proof.Maintenance

/-- A step keeps the laws of the account. -/
def KeepsAccount (s t : State) : Prop := AccountSound s → AccountSound t

theorem frame_keepsAccount : Frame KeepsAccount :=
  ⟨fun h => (AccountKept.of_moves h).sound, fun h k hs => k (h hs)⟩

/-- R86: RESET_N gives the account its reset values. -/
theorem assertReset_sound (s : State) : AccountSound (assertReset s) := by
  obtain ⟨-, -, -, hreset, -⟩ := Leases.resetStateIsSound
  exact AccountKept.sound (s := State.reset) ⟨rfl, .refl _⟩ hreset

section Commands

variable {s : State}

theorem nextIn_kept {t : State} (h : AccountKept s t) : NextIn KeepsAccount s (.next t) :=
  nextIn_next h.sound

theorem nextIn_iteKept {p : Prop} [Decidable p] {t : State} (h : AccountKept s t) :
    NextIn KeepsAccount s (if p then .next t else .next s) := frame_keepsAccount.ite fun _ => h.sound

/-- The completion of an operation of a kind. -/
theorem nextIn_landed {op : MaintOp} {t : State}
    (h : s.inFlight op = true → AccountSound s → AccountSound t) :
    NextIn KeepsAccount s (if s.inFlight op && s.maintDue then .next t else .next s) :=
  frame_keepsAccount.ite fun hf => h (Bool.and_eq_true_iff.mp hf).1

/-- An offer that the arbiter takes and that is of the kind the command names is issued. -/
theorem nextIn_issue {f : Offer → State} {op : MaintOp}
    (hf : ∀ o, AccountKept (issueMaint o s) (f o)) :
    NextIn KeepsAccount s (match s.maintTaken with
      | none => .next s
      | some o => if o.op = op then .next (f o) else .next s) := by
  split
  · exact frame_keepsAccount.next_refl s
  next ht => exact nextIn_iteKept ((accountKept_issueMaint ht).trans (hf _))

theorem accountKept_stepUnderWay (s : State) : AccountKept s (stepUnderWay s) := ⟨rfl, .refl _⟩

theorem execModeLoadIssue_keeps (s : State) : NextIn KeepsAccount s (execModeLoadIssue s) := by
  unfold execModeLoadIssue
  split
  · exact frame_keepsAccount.next_refl s
  next ht =>
    have hissue := accountKept_issueMaint ht
    split
    · split
      · exact nextIn_kept (hissue.trans (accountKept_stepUnderWay _))
      · exact nextIn_kept hissue
    all_goals exact frame_keepsAccount.next_refl s

theorem execTrainStepIssue_keeps (s : State) : NextIn KeepsAccount s (execTrainStepIssue s) := by
  unfold execTrainStepIssue
  split
  · exact frame_keepsAccount.next_refl s
  next ht =>
    split
    · exact nextIn_kept ((accountKept_issueMaint ht).trans (accountKept_stepUnderWay _))
    all_goals exact frame_keepsAccount.next_refl s

theorem execModeLoadCompletion_keeps (s : State) :
    NextIn KeepsAccount s (execModeLoadCompletion s) := by
  unfold execModeLoadCompletion
  split
  · exact frame_keepsAccount.next_refl s
  · split
    · exact nextIn_kept (accountKept_landModeLoad _ _ s)
    all_goals exact frame_keepsAccount.next_refl s

theorem execTrainStepCompletion_keeps (sample : Bool) (s : State) :
    NextIn KeepsAccount s (execTrainStepCompletion sample s) := by
  unfold execTrainStepCompletion
  split
  · exact frame_keepsAccount.next_refl s
  · split
    · exact nextIn_kept (accountKept_landTrainStep _ sample s)
    all_goals exact frame_keepsAccount.next_refl s

theorem execResetNRelease_keeps (s : State) : NextIn KeepsAccount s (execResetNRelease s) := by
  unfold execResetNRelease
  split
  · exact frame_keepsAccount.next_refl s
  · exact nextIn_kept ⟨rfl, .refl _⟩

theorem execReceiveNakFrame_keeps (h : HostId) (f : FrameHdr) (n : Seq) (s : State) :
    NextIn KeepsAccount s (execReceiveNakFrame h f n s) := by
  unfold execReceiveNakFrame
  split
  · exact frame_keepsAccount.next_refl s
  · exact nextIn_kept (.of_moves rfl)
  · exact nextIn_kept (.after (accountKept_takeNak h n _) (.of_moves rfl))

theorem execPropose_keeps (h : HostId) (f : FrameHdr) (tag : Tag) (base : BitVec 16)
    (items : List RawItem) (s : State) :
    NextIn KeepsAccount s (execPropose h f tag base items s) := by
  have hF := frame_accountKept
  unfold execPropose
  split
  · exact nextIn_kept (hF.requestAttached (accountKept_takePropose h tag base items) h f tag _ s)
  · exact nextIn_kept (hF.deliver (fun u => hF.moves (leaseMoves_malformed h u)) h f true s)

end Commands

/-- Every command keeps the laws of the account: those of the lease table, the transfer engine and the
links do not touch it, and of the rest the account's own events are looked at one by one. -/
theorem exec_keepsAccount (c : Instr) (s : State) : NextIn KeepsAccount s (exec c s) := by
  by_cases hc : isLeaseCommand c = true
  · exact fun t ht => frame_keepsAccount.moves (exec_leaseCommand hc s t ht)
  have hF := frame_accountKept
  cases c with
  | resetNAssert => exact nextIn_next fun _ => assertReset_sound s
  | resetNRelease => exact execResetNRelease_keeps s
  | holdPhaseEnd => exact nextIn_iteKept ⟨rfl, .refl _⟩
  | settlePhaseEnd => exact nextIn_iteKept (accountKept_endSettle s)
  | lockPhaseEnd => exact frame_keepsAccount.ite fun _ => endLock_sound
  | intervalExpiry =>
    exact frame_keepsAccount.ite fun _ => frame_keepsAccount.after expireInterval_sound rfl
  | ballotDeadlineExpiry => exact nextIn_iteKept (accountKept_abandon .timeout s)
  | drainDeadlineExpiry => exact nextIn_iteKept (accountKept_expireDrain s)
  | silenceDeadlineExpiry h => exact nextIn_iteKept (accountKept_linkDown h s)
  | receiveNakFrame h f n => exact execReceiveNakFrame_keeps h f n s
  | join h f tag => exact nextIn_kept (hF.request (accountKept_takeJoin h tag) h f tag .join s)
  | leave h f tag =>
    exact nextIn_kept (hF.requestAttached (accountKept_takeLeave h) h f tag .leave s)
  | propose h f tag base items => exact execPropose_keeps h f tag base items s
  | vote h f tag number accept =>
    exact nextIn_kept (hF.requestAttached (accountKept_takeVote h tag number accept) h f tag .vote s)
  | drainComplete => exact nextIn_iteKept (accountKept_beginApply s)
  | commit => exact nextIn_iteKept (accountKept_commitProposal s)
  | park h f tag =>
    exact nextIn_kept (hF.requestAttached (accountKept_takePark h tag) h f tag .park s)
  | unpark h f tag =>
    exact nextIn_kept (hF.requestAttached (accountKept_takeUnpark h tag) h f tag .unpark s)
  | standbyEntering => exact nextIn_iteKept ⟨rfl, .refl _⟩
  | standbyEnterOffer => exact nextIn_iteKept (accountKept_offer s rfl)
  | refreshRequest => exact frame_keepsAccount.ite request_sound
  | refreshIssue | shortCalIssue | standbyEnterIssue => exact nextIn_issue fun _ => .refl _
  | longCalIssue => exact nextIn_issue fun _ => accountKept_stepUnderWay _
  | modeLoadIssue => exact execModeLoadIssue_keeps s
  | trainStepIssue => exact execTrainStepIssue_keeps s
  | standbyExitIssue => exact nextIn_issue fun _ => ⟨rfl, .refl _⟩
  | refreshCompletion => exact nextIn_landed landRefresh_sound
  | shortCalCompletion => exact nextIn_landed landShortCal_sound
  | longCalCompletion => exact nextIn_landed fun _ => landLongCal_sound
  | modeLoadCompletion => exact execModeLoadCompletion_keeps s
  | trainStepCompletion sample => exact execTrainStepCompletion_keeps sample s
  | standbyEnterCompletion => exact nextIn_landed fun _ => landEnter_sound
  | standbyExitCompletion => exact nextIn_landed fun _ => (accountKept_landExit s).sound
  | _ => exact absurd rfl hc

/-- Settles O8: the command at the front of the queue keeps the laws, and a tick moves the clock
alone. -/
theorem stepKeepsOwedInRange : Obligations.StepKeepsOwedInRange := by
  intro s t hs ht
  cases hp : s.pending with
  | nil =>
    rw [step_nil s hp] at ht
    cases ht
    unfold State.idle
    split <;> exact hs
  | cons c rest =>
    rw [step_cons s c rest hp] at ht
    exact exec_keepsAccount c { s with pending := rest } t ht hs

end Sys2Proof.Refresh
end

section
/-! PROOFS. INTERVAL_EXPIRY by the owed count that it finds (R89 to R91, R100, R180, O38). -/

namespace Sys2Proof.Refresh

open Sys2Proof Sys2Proof.Machine Sys2Proof.Safety Sys2Proof.Leases

/-! ## CLOSE_REQUESTED (R91, R117) -/

/-- A notification changes the notification queue of a side, if it changes anything. -/
theorem sideNotified_notes (addressed : Bool) (n : Notification) (p : HostSide) :
    sideNotified addressed n p = { p with notes := (sideNotified addressed n p).notes } := by
  unfold sideNotified
  split <;> rfl

/-- R91, R117: a host with a held bank is asked to close, and no other. -/
theorem askToClose_host (r : CloseReason) (s : State) (g : HostId) :
    (askToClose r s).host g = sideNotified (decide (s.heldBanks g ≠ 0#8))
      (.closeRequested r (s.heldBanks g)) (s.host g) := by
  rw [askToClose, notifyEach_host]
  by_cases h : s.heldBanks g = 0#8 <;> simp [h]

theorem askToClose_asked (r : CloseReason) (s : State) : AskedToClose r s (askToClose r s) :=
  fun g => ⟨s.heldBanks g, isHeldSet_heldBanks s g, by rw [askToClose_host]⟩

theorem askToClose_notes (r : CloseReason) (s : State) (g : HostId) :
    (askToClose r s).host g = { s.host g with notes := ((askToClose r s).host g).notes } := by
  rw [askToClose_host]
  exact sideNotified_notes _ _ _

/-- R91: a pressure hold begins in the account, the gate and the hosts' notification queues. -/
theorem changesOnly_enterPressed (s : State) :
    ChangesOnly [.account, .gate, .hosts] s (enterPressed s) :=
  ((changesOnly_setAccount s _).trans' (changesOnly_setGate _ _) (by decide) (by decide)).trans
    ((changesOnly_notifyEach _ _).mono (by decide))

theorem enterPressed_host (s : State) (g : HostId) :
    (enterPressed s).host g = sideNotified (decide (s.heldBanks g ≠ 0#8))
      (.closeRequested .refresh (s.heldBanks g)) (s.host g) :=
  askToClose_host .refresh (addReason .refresh (s.setAccount { s.account with hold := true })) g

theorem enterPressed_asked (s : State) : AskedToClose .refresh s (enterPressed s) :=
  fun g => ⟨s.heldBanks g, isHeldSet_heldBanks s g, by rw [enterPressed_host]⟩

theorem enterPressed_notes (s : State) (g : HostId) :
    (enterPressed s).host g = { s.host g with notes := ((enterPressed s).host g).notes } := by
  rw [enterPressed_host]
  exact sideNotified_notes _ _ _

/-- R91: under pressure an account that is not held enters its hold, and the sweep is judged. -/
theorem judgeAccount_enters {s : State} (hp : s.pressed = true) (hh : s.account.hold = false) :
    judgeAccount s = judgeYield (enterPressed s) := by
  rw [judgeAccount_pressed hp, holdBegun, if_pos hh]

/-! ## The next interval (R89, R90, R100) -/

theorem intervalOf_eq (r : RefreshRate) : intervalOf r = periodOf r := by cases r <;> rfl

/-- R89: the account with the next interval begun. -/
def nextInterval (s : State) : Account :=
  { s.account with timer := some (s.now + periodOf s.agree.live.rate) }

/-- R90: owed has risen by one, and the account is still to be judged. -/
def risen (s : State) : State :=
  (keepPlace s).setAccount { nextInterval s with owed := s.account.owed + 1 }

theorem restartInterval_keepPlace (s : State) :
    restartInterval (keepPlace s) = (keepPlace s).setAccount (nextInterval s) := by
  rw [restartInterval, intervalOf_eq]
  rfl

section Expires

variable {s : State} (hd : due s.now s.account.timer = true)

include hd

theorem exec_intervalExpiry :
    exec .intervalExpiry s = .next (expireInterval (keepPlace s)) := if_pos hd

theorem timer_present : s.account.timer ≠ none := by
  intro h
  simp [h] at hd

/-- R90: below 6, but for the rise to FORCING, owed rises and the account is judged. -/
theorem exec_intervalExpiry_rises (hlt : s.account.owed < 6) (hne : s.account.owed ≠ 4) :
    exec .intervalExpiry s = .next (judgeAccount (risen s)) := by
  have hraise : raiseOwed ((keepPlace s).setAccount (nextInterval s)) = judgeAccount (risen s) :=
    if_neg hne
  have hexp : expireInterval (keepPlace s) = raiseOwed (restartInterval (keepPlace s)) := if_pos hlt
  rw [exec_intervalExpiry hd, hexp, restartInterval_keepPlace, hraise]

/-- R100: at 6 the refresh is missed. -/
theorem exec_intervalExpiry_misses (hge : 6 ≤ s.account.owed) :
    exec .intervalExpiry s =
      .next (missRefresh ((keepPlace s).setAccount (nextInterval s))) := by
  have hexp : expireInterval (keepPlace s) = missRefresh (restartInterval (keepPlace s)) :=
    if_neg (Int.not_lt.mpr hge)
  rw [exec_intervalExpiry hd, hexp, restartInterval_keepPlace]

/-- R88: the timer runs before the expiry and after it. -/
theorem presses_risen (n : Nat) (owed : Int) : presses (risen s) n owed ↔ presses s n owed := by
  have htimer : (risen s).account.timer ≠ none := Option.some_ne_none _
  simp only [presses, timer_present hd, htimer, ne_eq, not_false_eq_true, true_and]

theorem pressed_risen (hp : presses s s.agree.live.threshold (s.account.owed + 1)) :
    (risen s).pressed = true :=
  (pressed_iff _).mpr ((presses_risen hd _ _).mpr hp)

theorem calm_risen (hc : calm s s.agree.live.threshold (s.account.owed + 1)) :
    calm (risen s) s.agree.live.threshold (s.account.owed + 1) := by
  unfold calm at hc ⊢
  rwa [presses_risen hd]

end Expires

/-- R91, R180: the pressure hold that the rise begins, and the sweep that yields to it. -/
theorem judgeYield_enterPressed_risen {s : State}
    (hp : (enterPressed (risen s)).pressed = true) :
    ∃ t, judgeYield (enterPressed (risen s)) = t ∧
      ChangesOnly [.account, .gate, .hosts, .seq, .chan] s t ∧
      t.account = (enterPressed (risen s)).account ∧ t.gate = { s.gate with refresh := true } ∧
      t.hosts = (enterPressed (risen s)).hosts ∧
      (s.seq.sweep = none ∨ s.seq.stepOffer ≠ .offered →
        t.seq = s.seq ∧ t.chan = (keepPlace s).chan) ∧
      (s.seq.sweep ≠ none → s.seq.stepOffer = .offered →
        t.seq = seqOffers true s.seq ∧ t.chan = { (keepPlace s).chan with
          offers := s.chan.offers.filter fun o => decide (o.by_ ≠ .sequencer) }) := by
  have hrisen : ChangesOnly [.chan, .account] s (risen s) :=
    (changesOnly_keepPlace s).trans' (changesOnly_setAccount _ _) (by decide) (by decide)
  have hch : ChangesOnly [.account, .gate, .hosts, .seq, .chan] s (enterPressed (risen s)) :=
    hrisen.trans' (changesOnly_enterPressed _) (by decide) (by decide)
  by_cases hn : s.seq.sweep = none ∨ s.seq.stepOffer ≠ .offered
  · exact ⟨_, judgeYield_stays hp hn, hch, rfl, rfl, rfl, fun _ => ⟨rfl, rfl⟩,
      fun hw ho => absurd hn (by tauto)⟩
  · obtain ⟨hw, ho⟩ : s.seq.sweep ≠ none ∧ s.seq.stepOffer = .offered := by tauto
    exact ⟨_, judgeYield_yields hp hw ho,
      (hch.trans ((changesOnly_setSeq _ _).mono (by decide))).trans
        ((changesOnly_setChan _ _).mono (by decide)),
      rfl, rfl, rfl, fun h => absurd h hn, fun _ _ => ⟨rfl, rfl⟩⟩

/-- Settles O38: below 6 the account is judged with one more owed, and at 6 the refresh is missed. -/
theorem intervalExpiryRaisesOwed : Obligations.IntervalExpiryRaisesOwed := by
  rintro s k a hd rfl rfl
  refine ⟨fun hlt hne hc => ?_, fun hlt hne hh hp => ?_, fun hlt hne hh hw ho hp => ?_,
    fun hge => ?_⟩
  · rw [exec_intervalExpiry_rises hd hlt hne, judgeAccount_calm (calm_risen hd hc)]
    rfl
  · have hpressed := pressed_risen hd hp
    obtain ⟨t, hjudged, hch, hacc, hgate, hhosts, hstays, hyields⟩ :=
      judgeYield_enterPressed_risen (s := s) hpressed
    have hhost : ∀ g, t.host g = (enterPressed (risen s)).host g := fun g => by
      rw [State.host, hhosts]
      rfl
    refine ⟨t, ?_, hch, hacc, hgate, fun g => ?_, fun g => ?_, hstays, hyields⟩
    · rw [exec_intervalExpiry_rises hd hlt hne, judgeAccount_enters hpressed hh, hjudged]
    · rw [hhost]
      exact enterPressed_asked (risen s) g
    · rw [hhost]
      exact enterPressed_notes (risen s) g
  · have hpressed := pressed_risen hd hp
    have hheld : holdBegun (risen s) = risen s := if_neg (by simp [risen, nextInterval, hh])
    rw [exec_intervalExpiry_rises hd hlt hne, judgeAccount_pressed hpressed, hheld,
      judgeYield_yields hpressed hw ho]
    rfl
  · refine ⟨_, exec_intervalExpiry_misses hd hge, ?_, rfl, fun g => notifyAttached_host _ _ g⟩
    exact ((changesOnly_setAccount (keepPlace s) _).trans (changesOnly_setAccount _ _)).trans'
      (changesOnly_notifyEach _ _) (by decide) (by decide)

end Sys2Proof.Refresh
end

section
/-! PROOFS. What the account offers, and what it does when its operations complete (R94, R97 to R99, R180,
O39). -/

namespace Sys2Proof.Refresh

open Sys2Proof Sys2Proof.Machine Sys2Proof.Safety Sys2Proof.Maintenance

/-! ## What the account offers (R94) -/

/-- R94: with a calibration due the account offers it. -/
theorem makeAccountOffer_shortCal {s : State} (hc : s.account.calDue = true) :
    makeAccountOffer s = { s with
      gate := { s.gate with refresh := true }
      account := { s.account with offer := .shortCal }
      chan := { s.chan with offers := s.chan.offers ++ [⟨.shortCal, .account⟩] } } := by
  simp only [makeAccountOffer, hc]
  rfl

theorem exec_refreshRequest {s : State} (ht : s.account.timer ≠ none)
    (hn : s.account.offer = .none) (hb : ∀ b, (s.bank b).state = .closed)
    (hw : s.account.calDue = true ∨ 1 ≤ s.account.owed ∨
      (-4 < s.account.owed ∧ noWaiters s ∧ s.xfer.list = [])) :
    exec .refreshRequest s = .next (makeAccountOffer s) :=
  if_pos ((refreshWanted_iff s).mpr ⟨ht, hn, hb, hw⟩)

/-! ## What follows a completion (R98, R180) -/

/-- R74, R97, R99: an operation of the account has completed and left the account `a`, the sequencer
`q` and these steps of the sweep offered. -/
def accountLanded (s : State) (a : Account) (q : Sequencer) (steps : List Offer) : State :=
  { s with account := a, seq := q, chan := chanLanded s steps }

/-- R180: with this owed count nothing moves, or the sweep that yields offers its kept step. -/
def SweepJudged (s : State) (owed : Int) (q : Sequencer) (steps : List Offer) : Prop :=
  (calm s s.agree.live.threshold owed ∧ q = s.seq ∧ steps = []) ∨
    ∃ w, s.seq.sweep = some w ∧ s.seq.yielding = true ∧
      ¬presses s s.agree.live.threshold owed ∧ q = seqOffers false s.seq ∧
      steps = [stepOf w.lane w.delay]

theorem judgeAccount_landed {s : State} {a : Account} {q : Sequencer} {steps : List Offer}
    (ht : a.timer = s.account.timer) (hh : a.hold = s.account.hold)
    (hj : SweepJudged s a.owed q steps) :
    judgeAccount ((landMaint .active s).setAccount a) = accountLanded s a q steps := by
  have hland : (landMaint .active s).setAccount a = accountLanded s a s.seq [] := by
    rw [accountLanded, chanLanded_nil]
    rfl
  have hpresses : ∀ n o, presses (accountLanded s a s.seq []) n o ↔ presses s n o := by
    simp [presses, accountLanded, ht]
  rw [hland]
  rcases hj with ⟨hc, rfl, rfl⟩ | ⟨w, hw, hy, hp, rfl, rfl⟩
  · refine judgeAccount_calm ?_
    unfold calm at hc ⊢
    rw [hpresses, accountLanded]
    rwa [hh]
  · have hp' : ¬presses (accountLanded s a s.seq []) s.agree.live.threshold a.owed := by
      rwa [hpresses]
    rw [judgeAccount_goesOn (s := accountLanded s a s.seq []) hw hy hp',
      offerStep_offers (s := accountLanded s a s.seq []) hw hp']
    simp [accountLanded, chanLanded, seqOffers]

section AfterAccountOp

variable {s : State} {a : Account} {q : Sequencer} {steps : List Offer}

/-- R98: a calibration that is due goes first. -/
theorem afterAccountOp_calibrates (hc : a.calDue = true) :
    afterAccountOp (accountLanded s a q steps) = { s with
      gate := { s.gate with refresh := true }
      account := { a with offer := .shortCal }
      seq := q
      chan := chanLanded s (steps ++ [⟨.shortCal, .account⟩]) } := by
  rw [afterAccountOp, if_pos (by exact hc), makeAccountOffer_shortCal (by exact hc)]
  simp [accountLanded, chanLanded]

/-- R98: a pressure hold pays the refreshes that are owed. -/
theorem afterAccountOp_pays (hc : a.calDue = false) (hh : a.hold = true) (ho : 1 ≤ a.owed) :
    afterAccountOp (accountLanded s a q steps) = { s with
      gate := { s.gate with refresh := true }
      account := { a with offer := .refresh }
      seq := q
      chan := chanLanded s (steps ++ [⟨.refresh, .account⟩]) } := by
  have hnot : ¬(accountLanded s a q steps).account.calDue = true := by simp [accountLanded, hc]
  rw [afterAccountOp, if_neg hnot, if_pos (by exact hh), if_pos (by exact ho),
    makeAccountOffer_refresh (by exact hc)]
  simp [accountLanded, chanLanded]

/-- R98: otherwise the hold ends, and the account's reason leaves the gate. -/
theorem afterAccountOp_ends (hc : a.calDue = false) (hh : a.hold = false ∨ a.owed ≤ 0)
    (hq : noWaiters s) :
    afterAccountOp (accountLanded s a q steps) = { s with
      gate := { s.gate with refresh := false }
      account := { a with hold := false }
      seq := q
      chan := chanLanded s steps } := by
  have hgate : ∀ a', removeReason .refresh (accountLanded s a' q steps) =
      (accountLanded s a' q steps).setGate { s.gate with refresh := false } := fun a' =>
    removeReason_noWaiters (s := accountLanded s a' q steps) .refresh hq
  have hnot : ¬(accountLanded s a q steps).account.calDue = true := by simp [accountLanded, hc]
  rw [afterAccountOp, if_neg hnot]
  cases hhold : a.hold with
  | false =>
    rw [if_neg (by simp [accountLanded, hhold]), hgate, ← hhold]
    rfl
  | true =>
    have howed : ¬1 ≤ a.owed := by
      rcases hh with h | h
      · simp [hhold] at h
      · omega
    rw [if_pos (by exact hhold), if_neg (by exact howed)]
    exact hgate { a with hold := false }

end AfterAccountOp

/-! ## The two completions (R97, R99) -/

/-- R97: the 128th refresh since the last calibration calls for one. -/
theorem afterRefresh_128th {a : Account} (h : a.sinceCal = 127) : a.afterRefresh =
    { a with owed := a.owed - 1, sinceCal := 0, calDue := true, offer := .none } :=
  if_pos (by rw [h]; rfl)

theorem afterRefresh_before {a : Account} (h : a.sinceCal ≠ 127) : a.afterRefresh =
    { a with owed := a.owed - 1, sinceCal := a.sinceCal + 1, offer := .none } :=
  if_neg fun e => h (Nat.succ.inj e)

theorem afterRefresh_kept (a : Account) : a.afterRefresh.timer = a.timer ∧
    a.afterRefresh.hold = a.hold ∧ a.afterRefresh.owed = a.owed - 1 := by
  unfold Account.afterRefresh
  split <;> exact ⟨rfl, rfl, rfl⟩

theorem exec_refreshCompletion {s : State} {by_ : Requester} {q : Sequencer} {steps : List Offer}
    (hl : Lands s .refresh by_) (hj : SweepJudged s (s.account.owed - 1) q steps) :
    exec .refreshCompletion s =
      .next (afterAccountOp (accountLanded s s.account.afterRefresh q steps)) := by
  obtain ⟨htimer, hhold, howed⟩ := afterRefresh_kept s.account
  rw [← judgeAccount_landed htimer hhold (howed ▸ hj)]
  exact if_pos (inFlight_maintDue hl)

theorem exec_shortCalCompletion {s : State} {by_ : Requester} (hl : Lands s .shortCal by_)
    (hc : calm s s.agree.live.threshold s.account.owed) :
    exec .shortCalCompletion s = .next (afterAccountOp
      (accountLanded s { s.account with calDue := false, offer := .none } s.seq [])) := by
  have hj : SweepJudged s s.account.owed s.seq [] := .inl ⟨hc, rfl, rfl⟩
  rw [← judgeAccount_landed (a := { s.account with calDue := false, offer := .none }) rfl rfl hj]
  exact if_pos (inFlight_maintDue hl)

/-- Settles O39: a request and a completion each lead to one offer at most, as the counts say. -/
theorem accountOffersAndCompletions : Obligations.AccountOffersAndCompletions := by
  intro s
  refine ⟨fun ht hn hb => ⟨fun hc => ?_, fun hc hw => ?_⟩, fun by_ q steps hl hj =>
    ⟨fun hcal => ?_, fun hcal hc => ⟨fun hh ho => ?_, fun hend hq => ?_⟩⟩,
    fun by_ hl hcalm => ⟨fun hh ho => ?_, fun hend hq => ?_⟩⟩
  · rw [exec_refreshRequest ht hn hb (.inl hc), makeAccountOffer_shortCal hc]
  · rw [exec_refreshRequest ht hn hb (.inr hw), makeAccountOffer_refresh hc]
  · rw [exec_refreshCompletion hl hj, afterRefresh_128th hcal, afterAccountOp_calibrates rfl]
  · rw [exec_refreshCompletion hl hj, afterRefresh_before hcal,
      afterAccountOp_pays (by exact hc) (by exact hh) (by exact Int.le_sub_one_of_lt ho)]
  · rw [exec_refreshCompletion hl hj, afterRefresh_before hcal,
      afterAccountOp_ends (by exact hc) (by exact hend.imp_right Int.sub_nonpos_of_le) hq]
  · rw [exec_shortCalCompletion hl hcalm, afterAccountOp_pays (by rfl) (by exact hh) (by exact ho),
      List.nil_append]
  · rw [exec_shortCalCompletion hl hcalm, afterAccountOp_ends (by rfl) (by exact hend) hq]

end Sys2Proof.Refresh
end

section
/-! PROOFS. The ACCEPT that makes a ballot unanimous (R91, R93, R106, R115 to R117, R125, O47). -/

namespace Sys2Proof.Refresh

open Sys2Proof Sys2Proof.Machine Sys2Proof.Safety Sys2Proof.Leases Sys2Proof.Configuration

/-! ## The last vote (R114, R115) -/

/-- R115: the state with the last vote answered and counted, the ballot still to be acted on. -/
def lastVoted (s : State) (h : HostId) (f : FrameHdr) (tag : Tag) (p : Proposal) : State :=
  (s.setHost h (sideAnswered s h f [plain tag .vote .ok])).setAgree
    { s.agree with proposal := some { p with accepted := p.electorate } }

/-- R115: the VOTE of an elector that has not voted is cast. -/
theorem takeVote_cast {s : State} {h : HostId} {p : Proposal} (tag : Tag)
    (hs : s.agree.state = .ballot) (hp : s.agree.proposal = some p)
    (he : p.electorate.get h = true) (ha : p.accepted.get h = false) :
    takeVote h tag p.number true s = castVote h tag true p s := by
  have hrefusal : voteRefusal h p.number p = none := by simp [voteRefusal, he, ha]
  simp only [takeVote, hs, hp, hrefusal]

section LastVote

variable {s : State} {h : HostId} {f : FrameHdr} {tag : Tag} {p : Proposal}

theorem exec_lastVote (harr : RequestArrives s h f tag) (hport : s.port h = .attached)
    (hs : s.agree.state = .ballot) (hp : s.agree.proposal = some p)
    (he : p.electorate.get h = true) (ha : p.accepted.get h = false)
    (hall : p.accepted.set h true = p.electorate) :
    exec (.vote h f tag p.number true) s =
      .next (if p.heavy then startDrain (lastVoted s h f tag p)
        else applyLight (lastVoted s h f tag p)) := by
  have hcast : castVote h tag true p (s.setHost h (sideTaken s h f tag .vote)) =
      judgeBallot (lastVoted s h f tag p) := by
    simp only [castVote, answerStatus_taken .vote .ok harr, if_true, hall]
    rfl
  have hwon : judgeBallot (lastVoted s h f tag p) =
      if p.heavy then startDrain (lastVoted s h f tag p)
        else applyLight (lastVoted s h f tag p) := by
    simp only [judgeBallot, ballotWon, lastVoted, State.setAgree_agree, if_true]
  simp only [exec, execVote]
  rw [request_attached .vote _ harr hport, takeVote_cast tag (by exact hs) (by exact hp) he ha,
    hcast, hwon]

/-- The last vote is answered to its host alone. -/
theorem lastVoted_host (g : HostId) : (lastVoted s h f tag p).host g =
    if g = h then sideAnswered s h f [plain tag .vote .ok] else s.host g :=
  PerHost.get_set s.hosts g h _

theorem lastVoted_port (g : HostId) : (lastVoted s h f tag p).port g = s.port g := by
  rw [State.port, lastVoted_host]
  split
  next hg =>
    subst hg
    rfl
  · rfl

theorem lastVoted_notes (g : HostId) :
    ((lastVoted s h f tag p).host g).notes = (s.host g).notes := by
  rw [lastVoted_host]
  split
  next hg =>
    subst hg
    rfl
  · rfl

theorem changesOnly_lastVoted : ChangesOnly [.agree, .hosts] s (lastVoted s h f tag p) :=
  (changesOnly_setHost s h _).trans' (changesOnly_setAgree _ _) (by decide) (by decide)

/-! ## A light proposal (R116) -/

/-- R116: the staged record is live and the proposal resolved, the account still to be judged. -/
def lightResolved (s : State) (h : HostId) (f : FrameHdr) (tag : Tag) (p : Proposal) : State :=
  (notifyAttached (.proposalResolved p.number .applied (s.agree.epoch + 1#16))
    (lastVoted s h f tag p)).setAgree (appliedUnit s.agree)

theorem applyLight_lastVoted : applyLight (lastVoted s h f tag p) =
    judgeAccount (lightResolved s h f tag p) := rfl

/-- R116: PROPOSAL_RESOLVED goes to the attached set, behind the answer of the vote. -/
theorem lightResolved_host (g : HostId) : (lightResolved s h f tag p).host g =
    sideResolved s p.number .applied (s.agree.epoch + 1#16) g
      (if g = h then sideAnswered s h f [plain tag .vote .ok] else s.host g) := by
  rw [← lastVoted_host, lightResolved, State.setAgree_host, notifyAttached_host, sideResolved,
    inSet, inSet, lastVoted_port]

theorem changesOnly_lightResolved :
    ChangesOnly [.agree, .hosts] s (lightResolved s h f tag p) :=
  (changesOnly_lastVoted.trans' (changesOnly_notifyEach _ _) (by decide) (by decide)).trans
    ((changesOnly_setAgree _ _).mono (by decide))

/-- R93: the new threshold presses the account: its pressure hold begins. -/
theorem judgeAccount_lightResolved (hh : s.account.hold = false) (hw : s.seq.sweep = none)
    (hp : presses s s.agree.staged.threshold s.account.owed) :
    judgeAccount (lightResolved s h f tag p) = enterPressed (lightResolved s h f tag p) := by
  have hpressed : (lightResolved s h f tag p).pressed = true := (pressed_iff _).mpr hp
  rw [judgeAccount_enters hpressed hh]
  exact judgeYield_stays (s := enterPressed (lightResolved s h f tag p)) hpressed (.inl hw)

/-! ## A heavy proposal (R117) -/

/-- R117: the drain has begun, and the banks are still to be looked at. -/
def drainBegun (s : State) (h : HostId) (f : FrameHdr) (tag : Tag) (p : Proposal) : State :=
  draining { p with accepted := p.electorate } (lastVoted s h f tag p)

theorem startDrain_lastVoted : startDrain (lastVoted s h f tag p) =
    if s.allClosed then beginApply (drainBegun s h f tag p) else drainBegun s h f tag p := by
  have hclosed : (drainBegun s h f tag p).allClosed = s.allClosed := rfl
  have hstart : startDrain (lastVoted s h f tag p) =
      if (drainBegun s h f tag p).allClosed then beginApply (drainBegun s h f tag p)
        else drainBegun s h f tag p :=
    startDrain_eq (p := { p with accepted := p.electorate }) rfl
  rw [hstart, hclosed]

theorem changesOnly_drainBegun :
    ChangesOnly [.gate, .agree, .hosts] s (drainBegun s h f tag p) :=
  ((changesOnly_lastVoted.trans' (changesOnly_setGate _ _) (by decide) (by decide)).trans
    ((changesOnly_notifyEach _ _).mono (by decide))).trans
      ((changesOnly_setAgree _ _).mono (by decide))

theorem drainBegun_host (g : HostId) : (drainBegun s h f tag p).host g =
    (askToClose .config (addReason .config (lastVoted s h f tag p))).host g := rfl

/-- Of a side a notification reads its port and its queue. -/
theorem sideNotified_notes_congr {x y : HostSide} (a : Bool) (n : Notification)
    (hport : x.port = y.port) (hnotes : x.notes = y.notes) :
    (sideNotified a n x).notes = (sideNotified a n y).notes := by
  unfold sideNotified
  rw [hport, hnotes]
  split <;> simp [hnotes]

/-- R117: every holding host is asked to close. -/
theorem drainBegun_asked : AskedToClose .config s (drainBegun s h f tag p) := by
  intro g
  obtain ⟨set, hset, hnotes⟩ :=
    askToClose_asked .config (addReason .config (lastVoted s h f tag p)) g
  refine ⟨set, hset, ?_⟩
  rw [drainBegun_host, hnotes]
  exact sideNotified_notes_congr (x := (lastVoted s h f tag p).host g) _ _ (lastVoted_port g)
    (lastVoted_notes g)

/-- R115, R117: beside the queues of notifications the hosts see the answer of the vote alone. -/
theorem drainBegun_sides (g : HostId) : (drainBegun s h f tag p).host g =
    { (if g = h then sideAnswered s h f [plain tag .vote .ok] else s.host g) with
      notes := ((drainBegun s h f tag p).host g).notes } := by
  rw [← lastVoted_host (p := p), drainBegun_host]
  exact askToClose_notes .config (addReason .config (lastVoted s h f tag p)) g

/-- R117, R125: with every bank CLOSED the apply begins on what the drain leaves of the record. -/
theorem drainBegun_applies : ApplyBegun s (beginApply (drainBegun s h f tag p)) s.agree
    { p with accepted := p.electorate, ballotDeadline := none } := by
  have hbegun := beginApply_begun (s := drainBegun s h f tag p) (p := { p with
    accepted := p.electorate, ballotDeadline := none
    drainDeadline := some (s.now + s.agree.live.drainTimeout.toNat * 1000) }) rfl
  exact hbegun

/-- What a heavy ballot leaves once it is won, whether its apply begins at once or not. -/
theorem startDrain_spec {t : State}
    (ht : ChangesOnly [.agree, .chan, .seq] (drainBegun s h f tag p) t) :
    ChangesOnly [.gate, .agree, .hosts, .chan, .seq] s t ∧
      t.gate = { s.gate with config := true } ∧ AskedToClose .config s t ∧
      t.host h = { sideAnswered s h f [plain tag .vote .ok] with notes := (t.host h).notes } ∧
      ∀ g, g ≠ h → t.host g = { s.host g with notes := (t.host g).notes } := by
  have hgate : t.gate = (drainBegun s h f tag p).gate := ht .gate (by decide)
  have hhosts : t.hosts = (drainBegun s h f tag p).hosts := ht .hosts (by decide)
  have hhost : ∀ g, t.host g = (drainBegun s h f tag p).host g := fun g => by
    rw [State.host, hhosts]
    rfl
  refine ⟨changesOnly_drainBegun.trans' ht (by decide) (by decide), hgate, fun g => ?_, ?_,
    fun g hg => ?_⟩
  · rw [hhost]
    exact drainBegun_asked g
  · have hside := drainBegun_sides (s := s) (h := h) (f := f) (tag := tag) (p := p) h
    rw [if_pos rfl] at hside
    rw [hhost]
    exact hside
  · have hside := drainBegun_sides (s := s) (h := h) (f := f) (tag := tag) (p := p) g
    rw [if_neg hg] at hside
    rw [hhost]
    exact hside

end LastVote

/-- Settles O47: the last vote is counted; a light proposal is then applied and the account judged, a
heavy one begins its drain, or its apply where nothing is to be drained. -/
theorem unanimousBallotActs : Obligations.UnanimousBallotActs := by
  intro s h f tag p harr hport hs hp he ha hall
  have hexec := exec_lastVote harr hport hs hp he ha hall
  refine ⟨fun hlight hcalm => ?_, fun hlight hh hw hpress => ?_, fun hheavy => ?_⟩
  · rw [hlight, if_neg Bool.false_ne_true, applyLight_lastVoted,
      judgeAccount_calm (s := lightResolved s h f tag p) hcalm] at hexec
    refine ⟨_, hexec, changesOnly_lightResolved, rfl, ?_, fun g hg => ?_⟩
    · rw [lightResolved_host, if_pos rfl]
    · rw [lightResolved_host, if_neg hg]
  · rw [hlight, if_neg Bool.false_ne_true, applyLight_lastVoted,
      judgeAccount_lightResolved hh hw hpress] at hexec
    refine ⟨_, hexec, changesOnly_lightResolved.trans' (changesOnly_enterPressed _) (by decide)
      (by decide), rfl, rfl, rfl, fun g => ⟨s.heldBanks g, isHeldSet_heldBanks s g, ?_⟩⟩
    have hheld : (lightResolved s h f tag p).heldBanks g = s.heldBanks g := rfl
    rw [← lightResolved_host, enterPressed_host, hheld]
  · rw [hheavy, if_pos rfl, startDrain_lastVoted] at hexec
    by_cases hclosed : s.allClosed = true
    · rw [if_pos hclosed] at hexec
      obtain ⟨hch, hgate, hasked, hside, hsides⟩ :=
        startDrain_spec (changesOnly_beginApply (drainBegun s h f tag p))
      exact ⟨_, hexec, hch, hgate, hasked, hside, hsides,
        fun ⟨b, hb⟩ => absurd ((allClosed_iff s).mp hclosed b) hb, fun _ => drainBegun_applies⟩
    · rw [if_neg hclosed] at hexec
      obtain ⟨hch, hgate, hasked, hside, hsides⟩ :=
        startDrain_spec (ChangesOnly.refl _ (drainBegun s h f tag p))
      exact ⟨_, hexec, hch, hgate, hasked, hside, hsides, fun _ => ⟨rfl, rfl, rfl⟩,
        fun hb => absurd ((allClosed_iff s).mpr hb) hclosed⟩

end Sys2Proof.Refresh
end

section
/-! PROOFS. The operations of the lease table, the transfer engine, the links and the ports, seen from the
ports (R155): answers, notifications and leases leave every port as it is (`PortsKept`), and of the rest
most leave every attached host attached (`StillAttached`). -/

namespace Sys2Proof.Agreements

open Sys2Proof Sys2Proof.Machine Sys2Proof.Safety Sys2Proof.Leases Sys2Proof.Maintenance

/-! ## Every port as it was -/

def PortsKept (s t : State) : Prop := ∀ g, t.port g = s.port g

namespace PortsKept

variable {s t u : State}

theorem refl (s : State) : PortsKept s s := fun _ => rfl

theorem trans (h : PortsKept s t) (k : PortsKept t u) : PortsKept s u := fun g => (k g).trans (h g)

/-- An operation that follows an update of other parts. -/
theorem after (k : PortsKept t u) (h : PortsKept s t) : PortsKept s u := h.trans k

theorem ite {p : Prop} [Decidable p] (ht : PortsKept s t) (hu : PortsKept s u) :
    PortsKept s (if p then t else u) := by
  split
  · exact ht
  · exact hu

theorem foldl {ι : Type} {f : State → ι → State} (hf : ∀ s i, PortsKept s (f s i)) (l : List ι)
    (s : State) : PortsKept s (l.foldl f s) :=
  foldl_rel refl (fun _ _ _ => trans) hf l s

theorem of_unit (h : UnitMoves s t) : PortsKept s t := h.port

/-- The frame of a step that leaves the hosts alone. -/
theorem of_changes {l : List Part} (h : ChangesOnly l s t) (hl : Part.hosts ∉ l) : PortsKept s t := by
  have hhosts : t.hosts = s.hosts := h .hosts hl
  intro g
  simp only [State.port, State.host, hhosts]

end PortsKept

theorem portsKept_setHost {s : State} {h : HostId} {x : HostSide} (hx : x.port = s.port h) :
    PortsKept s (s.setHost h x) := by
  intro g
  by_cases hg : g = h
  · subst hg
    rw [State.setHost_port_same, hx]
  · exact State.setHost_port_other s x hg

theorem portsKept_modLink (h : HostId) (f : Link → Link) (s : State) : PortsKept s (s.modLink h f) :=
  portsKept_setHost rfl

theorem portsKept_answer (h : HostId) (tag : Tag) (st : Status) (p : Payload) (s : State) :
    PortsKept s (answer h tag st p s) := by
  rw [answer_eq]
  exact portsKept_setHost (answeredSide_port tag st p _)

theorem portsKept_answerStatus (h : HostId) (tag : Tag) (st : Status) (s : State) :
    PortsKept s (answerStatus h tag st s) := portsKept_answer h tag st .none s

theorem portsKept_answerOpt (h : HostId) (tag : Option Tag) (st : Status) (s : State) :
    PortsKept s (answerOpt h tag st s) := by
  rw [answerOpt_eq]
  exact portsKept_setHost (answeredOptSide_port tag st _)

theorem portsKept_notify (h : HostId) (n : Notification) (s : State) :
    PortsKept s (notify h n s) := by
  rw [notify_eq]
  exact portsKept_setHost (sideNotified_port true n _)

theorem portsKept_notifyEach (f : HostId → Option Notification) (s : State) :
    PortsKept s (notifyEach f s) := .of_unit (unitMoves_notifyEach f s)

theorem portsKept_notifyAttached (n : Notification) (s : State) :
    PortsKept s (notifyAttached n s) := portsKept_notifyEach _ s

/-! ### Holders and waiters (chapter 1) -/

theorem portsKept_removeHolder (b : Bank) (h : HostId) (s : State) :
    PortsKept s (removeHolder b h s) := .ite (fun _ => rfl) (fun _ => rfl)

theorem portsKept_withdrawWaiter (b : Bank) (h : HostId) (st : Status) (s : State) :
    PortsKept s (withdrawWaiter b h st s) := by
  unfold withdrawWaiter
  split
  · exact .refl s
  · exact .after (portsKept_answerStatus _ _ _ _) fun _ => rfl

theorem portsKept_finishHolder (b : Bank) (h : HostId) (s : State) :
    PortsKept s (finishHolder b h s) := by
  have hr := portsKept_removeHolder b h s
  unfold finishHolder
  split
  · exact .refl s
  · refine .ite ?_ (.refl s)
    split
    · exact .refl s
    · exact hr.trans (portsKept_answerOpt _ _ _ _)
    · exact hr
    · exact (hr.trans (portsKept_notify _ _ _)).trans (portsKept_answerOpt _ _ _ _)

theorem portsKept_closeHolder (b : Bank) (h : HostId) (tag : Option Tag) (s : State) :
    PortsKept s (closeHolder b h tag s) := by
  unfold closeHolder
  split
  · exact .refl s
  · exact .after (portsKept_finishHolder b h _) fun _ => rfl

theorem portsKept_withdrawAndClose (h : HostId) (s : State) :
    PortsKept s (withdrawAndClose h s) := by
  refine .foldl (fun u b => ?_) allBanks s
  have hw := portsKept_withdrawWaiter b h .withdrawn u
  dsimp only
  split
  · exact hw
  · exact .ite (hw.trans (portsKept_closeHolder b h none _)) hw

theorem portsKept_cancelUnbegun (b : Bank) (h : HostId) (s : State) :
    PortsKept s (cancelUnbegun b h s) :=
  .after (.foldl (fun u (e : Transfer) => portsKept_answerStatus h e.tag .revoked u) _ _) fun _ => rfl

theorem portsKept_revoke (b : Bank) (h : HostId) (r : RevokeReason) (s : State) :
    PortsKept s (revoke b h r s) := by
  have hfin := fun u => portsKept_finishHolder b h u
  unfold revoke
  split
  · exact .refl s
  · split
    · exact .after (hfin _) fun _ => rfl
    · exact .refl s
    · exact .after (hfin _) (.after (portsKept_cancelUnbegun b h _) fun _ => rfl)

theorem portsKept_settleHolder (b : Bank) (h : HostId) (s : State) :
    PortsKept s (settleHolder b h s) := by
  have hset : ∀ x st tag, PortsKept s (answerStatus h tag st (setHolder b h x s)) :=
    fun x st tag => .after (portsKept_answerStatus _ _ _ _) fun _ => rfl
  have hr := portsKept_removeHolder b h s
  unfold settleHolder
  split
  · exact .refl s
  · split
    · exact hset _ _ _
    · exact (hset _ _ _).trans (portsKept_finishHolder b h _)
    · exact hr
    · exact (hr.trans (portsKept_answerStatus _ _ _ _)).trans (portsKept_answerOpt _ _ _ _)

theorem portsKept_serveBank (b : Bank) (s : State) : PortsKept s (serveBank b s) :=
  .of_unit (unitMoves_serveBank b s)

/-! ### The transfer engine (chapter 3) -/

theorem portsKept_checkTransfer (q : TransferReq) (s : State) :
    PortsKept s (checkTransfer q s) := by
  unfold checkTransfer
  split
  · exact portsKept_answerStatus _ _ _ s
  · split
    · exact portsKept_answerStatus _ _ _ s
    · exact fun _ => rfl

theorem portsKept_takeIntake (s : State) : PortsKept s (takeIntake s) := by
  refine .foldl (fun u _ => ?_) _ s
  unfold takeFromIntake
  refine .ite ?_ (.refl u)
  split
  · exact .refl u
  · exact .after (portsKept_checkTransfer _ _) fun _ => rfl

theorem portsKept_revokeOverstayed (b : Bank) (s : State) :
    PortsKept s (revokeOverstayed b s) :=
  .ite (.refl s) (.after (portsKept_takeIntake _)
    (.foldl (fun u (x : Holder) => portsKept_revoke b x.host .holdExpired u) _ s))

theorem portsKept_massRevoke (r : RevokeReason) (s : State) : PortsKept s (massRevoke r s) :=
  .after (portsKept_takeIntake _) (.foldl (fun u b =>
    .foldl (fun v (x : Holder) => portsKept_revoke b x.host r v) _ u) allBanks s)

theorem portsKept_tearDown (h : HostId) (s : State) : PortsKept s (tearDown h s) :=
  .after (.foldl (fun u b => .trans (t := dropWaiter b h u) (.ite (fun _ => rfl) (.refl u))
    (portsKept_revoke b h .hostLost _)) allBanks _) fun _ => rfl

theorem portsKept_retireEntry (i : Nat) (e : Transfer) (s : State) :
    PortsKept s (retireEntry i e s) := by
  have hlist : PortsKept s (s.setList (s.xfer.list.eraseIdx i)) := fun _ => rfl
  have hend : ∀ u, PortsKept s u → PortsKept s (takeIntake (finishHolder e.bank e.host u)) :=
    fun u hu => (hu.trans (portsKept_finishHolder _ _ u)).trans (portsKept_takeIntake _)
  refine hend _ ?_
  split
  · exact .ite hlist (hlist.trans (portsKept_answer _ _ _ _ _))
  · exact hlist

theorem portsKept_completeBurst (b : Bank) (s : State) : PortsKept s (completeBurst b s) := by
  have hcount : ∀ i u, PortsKept u (countBurst i u) := by
    intro i u
    unfold countBurst
    split
    · exact .refl u
    · exact .ite (portsKept_retireEntry _ _ u) fun _ => rfl
  unfold completeBurst
  dsimp only
  split
  · exact fun _ => rfl
  · exact .after (hcount _ _) fun _ => rfl

theorem portsKept_issueBurst (i : Nat) (s : State) : PortsKept s (issueBurst i s) := by
  unfold issueBurst
  split
  · exact .refl s
  · dsimp only
    split
    · exact fun _ => rfl
    · exact .ite (.after (portsKept_answerStatus _ _ _ _) fun _ => rfl) fun _ => rfl

/-! ### Requests to the lease table and the transfer engine -/

theorem portsKept_takeOpen (h : HostId) (tag : Tag) (bank : Byte) (row : BitVec 16)
    (mode : LeaseMode) (wait : BitVec 16) (s : State) :
    PortsKept s (takeOpen h tag bank row mode wait s) := by
  have hans := fun st => portsKept_answerStatus h tag st s
  have hjoin : ∀ b, PortsKept s (joinBank h tag b s) := fun b =>
    .ite (.after (portsKept_answerStatus _ _ _ _) fun _ => rfl) fun _ => rfl
  unfold takeOpen
  split
  · split
    · exact hans _
    · exact .ite (hjoin _) (.ite (fun _ => rfl) (.after (portsKept_revokeOverstayed _ _) fun _ => rfl))
  · exact hans _

theorem portsKept_takeClose (h : HostId) (tag : Tag) (bank : Byte) (s : State) :
    PortsKept s (takeClose h tag bank s) := by
  have hans := fun st => portsKept_answerStatus h tag st s
  unfold takeClose closeAsHolder closeAsWaiter
  split
  · exact hans _
  · split
    · split
      · exact portsKept_closeHolder _ h (some tag) s
      · exact fun _ => rfl
      · exact hans _
      · exact hans _
    · exact .ite ((portsKept_withdrawWaiter _ h .withdrawn s).trans
        (portsKept_answerStatus _ _ _ _)) (hans _)

theorem portsKept_transferRequest (q : TransferReq) (s : State) :
    PortsKept s (transferRequest q s) := by
  have hhand : PortsKept s (handTransfer q s) := .ite (portsKept_checkTransfer q s) fun _ => rfl
  unfold transferRequest
  split
  · exact hhand
  · exact hhand
  all_goals exact portsKept_answerStatus _ _ _ s

theorem portsKept_expireHold (b : Bank) (h : HostId) (x : Holder) (s : State) :
    PortsKept s (expireHold b h x s) :=
  .ite (.after (portsKept_notify _ _ _) fun _ => rfl)
    (.after (portsKept_takeIntake _) (portsKept_revoke b h .holdExpired s))

theorem portsKept_takeQueryBank (h : HostId) (tag : Tag) (bank : Byte) (s : State) :
    PortsKept s (takeQueryBank h tag bank s) := by
  unfold takeQueryBank
  split <;> exact portsKept_answer _ _ _ _ s

/-! ### Links and notification queues (chapters 8 and 9) -/

theorem portsKept_discardFrame (h : HostId) (f : FrameHdr) (s : State) :
    PortsKept s (discardFrame h f s) := by
  unfold discardFrame
  split
  · exact .refl s
  all_goals exact portsKept_modLink h _ s

theorem portsKept_takeNoteAck (h : HostId) (n : Seq) (s : State) :
    PortsKept s (takeNoteAck h n s) := .ite (portsKept_setHost rfl) (portsKept_notify _ _ _)

theorem portsKept_deliverNote (h : HostId) (s : State) :
    PortsKept s (s.setHost h (s.host h).deliverNote) := by
  refine portsKept_setHost ?_
  unfold HostSide.deliverNote
  split
  · split <;> rfl
  · rfl

/-! ## Every attached host still attached -/

def StillAttached (s t : State) : Prop := ∀ g, s.port g = .attached → t.port g = .attached

theorem PortsKept.attached {s t : State} (h : PortsKept s t) : StillAttached s t :=
  fun g hg => (h g).trans hg

theorem StillAttached.trans {s t u : State} (h : StillAttached s t) (k : StillAttached t u) :
    StillAttached s u := fun g hg => k g (h g hg)

/-- A host that is not attached may be given any port. -/
theorem stillAttached_setHost {s : State} {h : HostId} (x : HostSide) (hp : s.port h ≠ .attached) :
    StillAttached s (s.setHost h x) := by
  intro g hg
  have hne : g ≠ h := fun e => hp (e ▸ hg)
  rw [State.setHost_port_other s x hne, hg]

/-- R158: the joins bring hosts into the attached set and take none out. -/
theorem stillAttached_completeJoins (s : State) : StillAttached s (completeJoins s) := by
  have hjoined : StillAttached s { s with hosts := s.hosts.imap fun _ p =>
      if p.port = .joining then { p with port := .attached } else p } := by
    intro g hg
    have hport : (s.hosts.get g).port = .attached := hg
    simp [State.port, State.host, hport]
  have hall : StillAttached s (attachJoining s) := by
    refine hjoined.trans (PortsKept.attached (.foldl (fun t h => ?_) _ _))
    refine .after (portsKept_notifyEach _ _) ?_
    split
    · exact portsKept_answer _ _ _ _ t
    · exact .refl t
  unfold completeJoins
  split
  · exact hall
  · exact fun _ hg => hg

/-- R182: only JOINING ports are refused. -/
theorem stillAttached_refuseJoining (s : State) : StillAttached s (refuseJoining s) := by
  intro g hg
  rw [State.port, refuseJoining_other (by simp [hg])]
  exact hg

/-- R160: the port of a LEAVE that completes is LEAVING. -/
theorem stillAttached_completeLeave (h : HostId) (s : State) :
    StillAttached s (completeLeave h s) := by
  cases hr : s.leaveReady h with
  | false =>
    rw [completeLeave, if_neg (by simp [hr])]
    exact fun _ hg => hg
  | true =>
    have hleaving : s.port h = .leaving := ((leaveReady_iff s h).mp hr).1
    rw [completeLeave_eq hr]
    exact (stillAttached_setHost _ (by simp [hleaving])).trans (portsKept_notifyAttached _ _).attached

/-- R147: where ports follow their links, a link that comes up is that of a DOWN port. -/
theorem stillAttached_countIdle {s : State} {h : HostId} (hs : PortsSound s)
    (hl : (s.link h).state = .listening) : StillAttached s (countIdle h s) := by
  have hdown : s.port h = .down := by
    by_contra hne
    have := (hs h).1.mpr hne
    simp [hl] at this
  have hset : ∀ x, StillAttached s (s.setHost h x) := fun x =>
    stillAttached_setHost x (by simp [hdown])
  unfold countIdle
  dsimp only
  split
  · unfold linkUp State.setPort State.modLink
    simp only [State.setHost_setHost]
    exact hset _
  · exact hset _

end Sys2Proof.Agreements
end

section
/-! PROOFS. The operations that leave the agreement unit, CONFIG in the gate and the attached hosts alone
(`AgreementKept`): those of the account, the sequencer, the standby controller and the ports. -/

namespace Sys2Proof.Agreements

open Sys2Proof Sys2Proof.Machine Sys2Proof.Safety Sys2Proof.Leases Sys2Proof.Configuration
  Sys2Proof.Maintenance Sys2Proof.Refresh

/-- A step that leaves the agreement unit and CONFIG in the gate, and takes no host out of the attached
set. -/
structure AgreementKept (s t : State) : Prop where
  unit : t.agree = s.agree
  config : t.gate.config = s.gate.config
  attached : StillAttached s t

namespace AgreementKept

variable {s t u : State}

theorem refl (s : State) : AgreementKept s s := ⟨rfl, rfl, fun _ => id⟩

theorem trans (h : AgreementKept s t) (k : AgreementKept t u) : AgreementKept s u :=
  ⟨k.unit.trans h.unit, k.config.trans h.config, h.attached.trans k.attached⟩

/-- An operation that follows an update of other parts. -/
theorem after (k : AgreementKept t u) (h : AgreementKept s t) : AgreementKept s u := h.trans k

theorem ite {p : Prop} [Decidable p] (ht : AgreementKept s t) (hu : AgreementKept s u) :
    AgreementKept s (if p then t else u) := by
  split
  · exact ht
  · exact hu

/-- An update of parts other than the unit, CONFIG and the ports. -/
theorem of_same (ha : t.agree = s.agree) (hg : t.gate.config = s.gate.config) (hp : PortsKept s t) :
    AgreementKept s t := ⟨ha, hg, hp.attached⟩

/-- An operation of the lease table, the transfer engine or the links. -/
theorem of_moves (h : LeaseMoves s t) (hp : StillAttached s t) : AgreementKept s t := by
  have hunit : t.agree = s.agree := by rw [h]
  have hgate : t.gate = s.gate := by rw [h]
  exact ⟨hunit, by rw [hgate], hp⟩

/-- The frame of a step that leaves the unit, the gate and the hosts alone. -/
theorem of_changes {l : List Part} (h : ChangesOnly l s t)
    (hl : l ⊆ [.pending, .now, .resetN, .seq, .banks, .chan, .xfer, .account, .standby, .dram,
      .dramGen]) : AgreementKept s t := by
  have hunit : t.agree = s.agree := h .agree fun hm => absurd (hl hm) (by decide)
  have hgate : t.gate = s.gate := h .gate fun hm => absurd (hl hm) (by decide)
  exact .of_same hunit (by rw [hgate]) (.of_changes h fun hm => absurd (hl hm) (by decide))

end AgreementKept

theorem agreementKept_answer (h : HostId) (tag : Tag) (st : Status) (p : Payload) (s : State) :
    AgreementKept s (answer h tag st p s) :=
  .of_moves (leaseMoves_answer h tag st p s) (portsKept_answer h tag st p s).attached

theorem agreementKept_answerStatus (h : HostId) (tag : Tag) (st : Status) (s : State) :
    AgreementKept s (answerStatus h tag st s) := agreementKept_answer h tag st .none s

theorem agreementKept_setHost {s : State} {h : HostId} {x : HostSide} (hx : x.port = s.port h) :
    AgreementKept s (s.setHost h x) := .of_same rfl rfl (portsKept_setHost hx)

theorem agreementKept_modLink (h : HostId) (f : Link → Link) (s : State) :
    AgreementKept s (s.modLink h f) := agreementKept_setHost rfl

theorem agreementKept_notify (h : HostId) (n : Notification) (s : State) :
    AgreementKept s (notify h n s) := .of_same rfl rfl (portsKept_notify h n s)

theorem agreementKept_notifyEach (f : HostId → Option Notification) (s : State) :
    AgreementKept s (notifyEach f s) := .of_same rfl rfl (portsKept_notifyEach f s)

theorem agreementKept_notifyAttached (n : Notification) (s : State) :
    AgreementKept s (notifyAttached n s) := agreementKept_notifyEach _ s

theorem agreementKept_notifySet (l : HostSet) (n : Notification) (s : State) :
    AgreementKept s (notifySet l n s) := agreementKept_notifyEach _ s

theorem agreementKept_takeIntake (s : State) : AgreementKept s (takeIntake s) :=
  .of_moves (leaseMoves_takeIntake s) (portsKept_takeIntake s).attached

theorem agreementKept_massRevoke (r : RevokeReason) (s : State) :
    AgreementKept s (massRevoke r s) :=
  .of_moves (leaseMoves_massRevoke r s) (portsKept_massRevoke r s).attached

theorem agreementKept_tearDown (h : HostId) (s : State) : AgreementKept s (tearDown h s) :=
  .of_moves (leaseMoves_tearDown h s) (portsKept_tearDown h s).attached

theorem agreementKept_completeJoins (s : State) : AgreementKept s (completeJoins s) :=
  .of_moves (leaseMoves_completeJoins s) (stillAttached_completeJoins s)

theorem agreementKept_refuseJoining (s : State) : AgreementKept s (refuseJoining s) :=
  .of_moves (leaseMoves_refuseJoining s) (stillAttached_refuseJoining s)

theorem agreementKept_completeLeave (h : HostId) (s : State) : AgreementKept s (completeLeave h s) :=
  .of_moves (leaseMoves_completeLeave h s) (stillAttached_completeLeave h s)

/-! ## Updates of the other blocks -/

section Updates

variable (s : State)

theorem agreementKept_setSeq (q : Sequencer) : AgreementKept s (s.setSeq q) :=
  .of_changes (changesOnly_setSeq s q) (by decide)

theorem agreementKept_setChan (c : Channel) : AgreementKept s (s.setChan c) :=
  .of_changes (changesOnly_setChan s c) (by decide)

theorem agreementKept_setAccount (a : Account) : AgreementKept s (s.setAccount a) :=
  .of_changes (changesOnly_setAccount s a) (by decide)

theorem agreementKept_setStandby (x : Standby) : AgreementKept s (s.setStandby x) :=
  .of_changes (changesOnly_setStandby s x) (by decide)

theorem agreementKept_offer (op : MaintOp) (by_ : Requester) : AgreementKept s (offer op by_ s) :=
  agreementKept_setChan s _

theorem agreementKept_withdraw (by_ : Requester) : AgreementKept s (withdraw by_ s) :=
  agreementKept_setChan s _

theorem agreementKept_landMaint (c : ChannelState) : AgreementKept s (landMaint c s) :=
  agreementKept_setChan s _

theorem agreementKept_issueMaint (o : Offer) : AgreementKept s (issueMaint o s) :=
  agreementKept_setChan s _

end Updates

/-! ## The grant gate (R9) -/

theorem gate_put_config {r : GateReason} (g : Gate) (v : Bool) (hr : r ≠ .config) :
    (g.put r v).config = g.config := by
  cases r with
  | config => exact absurd rfl hr
  | startup | refresh | standby => rfl

theorem agreementKept_addReason {r : GateReason} (s : State) (hr : r ≠ .config) :
    AgreementKept s (addReason r s) :=
  .of_same rfl (gate_put_config s.gate true hr) fun _ => rfl

/-- R11: the queues served once a reason has left leave the unit, CONFIG and the ports. -/
theorem agreementKept_serves (r : GateReason) (s : State) :
    AgreementKept (s.setGate (s.gate.put r false)) (removeReason r s) := by
  refine .ite (.of_moves (leaseMoves_serveAll _) ?_) (.refl _)
  exact (PortsKept.foldl (fun u b => portsKept_serveBank b u) allBanks _).attached

theorem agreementKept_removeReason {r : GateReason} (s : State) (hr : r ≠ .config) :
    AgreementKept s (removeReason r s) := by
  have hput : AgreementKept s (s.setGate (s.gate.put r false)) :=
    .of_same rfl (gate_put_config s.gate false hr) fun _ => rfl
  exact hput.trans (agreementKept_serves r s)

/-! ## The account and the sweep (chapters 5 and 10) -/

theorem agreementKept_offerStep (s : State) : AgreementKept s (offerStep s) :=
  .of_changes (changesOnly_offerStep s) (by decide)

theorem agreementKept_judgeYield (s : State) : AgreementKept s (judgeYield s) :=
  .ite (.refl s) (.ite (.ite (.after (agreementKept_withdraw _ _) (agreementKept_setSeq s _))
    (.refl s)) (.ite (agreementKept_offerStep s) (.refl s)))

theorem agreementKept_enterPressed (s : State) : AgreementKept s (enterPressed s) :=
  ((agreementKept_setAccount s _).trans (agreementKept_addReason _ (by decide))).trans
    (agreementKept_notifyEach _ _)

theorem agreementKept_judgeAccount (s : State) : AgreementKept s (judgeAccount s) :=
  .after (agreementKept_judgeYield _) (.ite (agreementKept_enterPressed s) (.refl s))

theorem agreementKept_makeAccountOffer (s : State) : AgreementKept s (makeAccountOffer s) := by
  have hgate : ∀ a, AgreementKept s (addReason .refresh (s.setAccount a)) := fun a =>
    (agreementKept_setAccount s a).trans (agreementKept_addReason _ (by decide))
  exact .ite ((hgate _).trans (agreementKept_offer _ _ _)) ((hgate _).trans (agreementKept_offer _ _ _))

theorem agreementKept_afterAccountOp (s : State) : AgreementKept s (afterAccountOp s) := by
  have hoffer := agreementKept_makeAccountOffer s
  refine .ite hoffer (.ite (.ite hoffer ?_) (agreementKept_removeReason s (by decide)))
  exact .after (agreementKept_removeReason _ (by decide)) (agreementKept_setAccount s _)

/-- R97 to R99: an operation of the account has completed. -/
theorem agreementKept_landAccountOp (a : Account) (s : State) :
    AgreementKept s (afterAccountOp (judgeAccount ((landMaint .active s).setAccount a))) :=
  (((agreementKept_landMaint s _).trans (agreementKept_setAccount _ a)).trans
    (agreementKept_judgeAccount _)).trans (agreementKept_afterAccountOp _)

theorem agreementKept_expireInterval (s : State) : AgreementKept s (expireInterval s) := by
  have hnext : AgreementKept s (restartInterval s) := agreementKept_setAccount s _
  have hraise : ∀ u, AgreementKept u (raiseOwed u) := fun u => by
    have hjudged := (agreementKept_setAccount u { u.account with owed := u.account.owed + 1 }).trans
      (agreementKept_judgeAccount _)
    exact .ite (hjudged.trans (agreementKept_massRevoke .refresh _)) hjudged
  have hmiss : ∀ u, AgreementKept u (missRefresh u) := fun u =>
    (agreementKept_setAccount u _).trans (agreementKept_notifyAttached _ _)
  exact .ite (hnext.trans (hraise _)) (hnext.trans (hmiss _))

theorem agreementKept_beginAttempt (lane : Lane) (kind : SweepKind) (s : State) :
    AgreementKept s (beginAttempt lane kind s) := by
  unfold beginAttempt
  split
  · exact (agreementKept_setSeq s _).trans (agreementKept_offerStep _)
  · split
    · exact .refl s
    · exact (agreementKept_setSeq s _).trans (agreementKept_offerStep _)

/-! ## The standby controller (chapter 7) -/

theorem agreementKept_leavePark (h : HostId) (s : State) : AgreementKept s (leavePark h s) :=
  agreementKept_setStandby s _

theorem agreementKept_offerExit (s : State) : AgreementKept s (offerExit s) :=
  .ite (.refl s) (agreementKept_offer s _ _)

theorem agreementKept_exitCause (s : State) : AgreementKept s (exitCause s) := by
  unfold exitCause
  split
  · exact .refl s
  · exact .refl s
  · exact .ite (.after (agreementKept_offerExit _) (agreementKept_setStandby s _))
      (.after (agreementKept_removeReason _ (by decide))
        (.after (agreementKept_withdraw _ _) (agreementKept_setStandby s _)))
  · exact agreementKept_offerExit s

theorem agreementKept_stopAccount (s : State) : AgreementKept s (stopAccount s) :=
  .after (agreementKept_removeReason _ (by decide))
    (.after (agreementKept_withdraw _ _) (agreementKept_setAccount s _))

theorem agreementKept_landEnter (s : State) : AgreementKept s (landEnter s) := by
  have hrefreshing : AgreementKept s (refreshing s) := .of_same rfl rfl fun _ => rfl
  have htold : AgreementKept s (notifyAttached .standbyEntered (stopAccount (refreshing s))) :=
    (hrefreshing.trans (agreementKept_stopAccount _)).trans (agreementKept_notifyAttached _ _)
  exact .ite (htold.trans (agreementKept_offerExit _)) htold

theorem agreementKept_landExit (s : State) : AgreementKept s (landExit s) := by
  have hrunning : ∀ x, AgreementKept s
      (removeReason .standby ((landMaint .active s).setStandby x)) := fun x =>
    ((agreementKept_landMaint s _).trans (agreementKept_setStandby _ x)).trans
      (agreementKept_removeReason _ (by decide))
  have hjudged : ∀ u, AgreementKept u (judgeAccount (restartInterval u)) := fun u =>
    (agreementKept_setAccount u _).trans (agreementKept_judgeAccount _)
  exact ((hrunning _).trans (hjudged _)).trans (agreementKept_notifyAttached _ _)

theorem agreementKept_takePark (h : HostId) (tag : Tag) (s : State) :
    AgreementKept s (takePark h tag s) := by
  unfold takePark
  split
  · exact agreementKept_answerStatus _ _ _ s
  · exact (agreementKept_setStandby s _).trans (agreementKept_answerStatus _ _ _ _)

theorem agreementKept_takeUnpark (h : HostId) (tag : Tag) (s : State) :
    AgreementKept s (takeUnpark h tag s) := by
  have hans := agreementKept_answerStatus h tag .ok s
  exact .ite ((hans.trans (agreementKept_leavePark h _)).trans (agreementKept_exitCause _)) hans

/-- R158: a LINKED port that goes JOINING was not attached. -/
theorem agreementKept_takeJoin (h : HostId) (tag : Tag) (s : State) :
    AgreementKept s (takeJoin h tag s) := by
  have hans := fun st => agreementKept_answerStatus h tag st s
  unfold takeJoin
  split
  next hlinked =>
    have hjoining : AgreementKept s (s.setPort h .joining) :=
      ⟨rfl, rfl, stillAttached_setHost _ (by simp [hlinked])⟩
    exact .ite (hans _) ((hjoining.trans (agreementKept_exitCause _)).trans
      (agreementKept_completeJoins _))
  all_goals exact hans _

/-! ## Start-up (chapter 10) -/

theorem agreementKept_offerModeLoad (s : State) : AgreementKept s (offerModeLoad s) :=
  (agreementKept_setSeq s _).trans (agreementKept_offer _ _ _)

theorem agreementKept_endSettle (s : State) : AgreementKept s (endSettle s) :=
  ((agreementKept_setSeq s _).trans (agreementKept_setChan _ _)).trans (agreementKept_offerModeLoad _)

theorem agreementKept_endLock (s : State) : AgreementKept s (endLock s) := by
  have hcal : AgreementKept s (calibrating s) := .of_same rfl rfl fun _ => rfl
  have hjudged := hcal.trans (agreementKept_judgeAccount _)
  rw [endLock_eq]
  exact .ite (hjudged.trans (agreementKept_makeAccountOffer _)) hjudged

theorem agreementKept_landLongCal (s : State) : AgreementKept s (landLongCal s) :=
  .after (agreementKept_beginAttempt 0 .startUp _) (.of_same rfl rfl fun _ => rfl)

theorem agreementKept_loadSetting (m : ModeSetting) (s : State) :
    AgreementKept s (loadSetting m s) := by
  cases m with
  | burst o => exact agreementKept_setChan s _
  | latency | drive | selfRefresh => exact .refl s

theorem agreementKept_countModeLoad (s : State) : AgreementKept s (countModeLoad s) :=
  .ite ((agreementKept_setSeq s _).trans (agreementKept_offerModeLoad _))
    ((agreementKept_setSeq s _).trans (agreementKept_setSeq _ _))

theorem agreementKept_becomeReady (s : State) : AgreementKept s (becomeReady s) :=
  ((agreementKept_setSeq s _).trans (agreementKept_removeReason _ (by decide))).trans
    (agreementKept_completeJoins _)

theorem agreementKept_restoreCapture (lane : Lane) (s : State) :
    AgreementKept s (restoreCapture lane s) := agreementKept_setChan s _

end Sys2Proof.Agreements
end

section
/-! PROOFS. The laws of the agreement unit (R105, R106, R108, R110, R111, R155), kept by its own operations:
a ballot and its end, a drain, an apply, a commit, an abandonment, and a detach. -/

namespace Sys2Proof.Agreements

open Sys2Proof Sys2Proof.Machine Sys2Proof.Safety Sys2Proof.Leases Sys2Proof.Configuration
  Sys2Proof.Maintenance

/-! ## The laws, taken apart -/

/-- R105, R106, R108, R110, R111: the laws that read the unit and CONFIG in the gate alone. -/
def UnitSound (a : Agreement) (config : Bool) : Prop :=
  (a.state = .idle ↔ a.proposal = none) ∧ (a.state = .idle → a.staged = a.live) ∧
    (config = true ↔ a.state = .draining ∨ a.state = .applying) ∧
    ∀ p, a.proposal = some p → ProposalSound a p

theorem agreementSound_iff (s : State) : AgreementSound s ↔ UnitSound s.agree s.gate.config ∧
    ∀ p, s.agree.proposal = some p → ∀ g, p.electorate.get g = true → s.port g = .attached := by
  constructor
  · rintro ⟨hidle, hlive, hgate, hp⟩
    exact ⟨⟨hidle, hlive, hgate, fun p h => (hp p h).1⟩, fun p h => (hp p h).2⟩
  · rintro ⟨⟨hidle, hlive, hgate, hp⟩, he⟩
    exact ⟨hidle, hlive, hgate, fun p h => ⟨hp p h, he p h⟩⟩

/-- R111: the unit with a proposal is not IDLE, and CONFIG is in the gate as its state says. -/
theorem unitSound_of_proposal {a : Agreement} {p : Proposal} {config : Bool}
    (hp : a.proposal = some p) (hn : a.state ≠ .idle)
    (hg : config = true ↔ a.state = .draining ∨ a.state = .applying) (hs : ProposalSound a p) :
    UnitSound a config := by
  refine ⟨by simp [hn, hp], fun hi => absurd hi hn, hg, fun q hq => ?_⟩
  rw [hp] at hq
  exact Option.some.inj hq ▸ hs

/-- The laws speak of the unit, CONFIG and the attached hosts alone. -/
theorem AgreementKept.sound {s t : State} (h : AgreementKept s t) (hs : AgreementSound s) :
    AgreementSound t := by
  rw [agreementSound_iff] at hs ⊢
  obtain ⟨hunit, he⟩ := hs
  rw [h.unit, h.config]
  exact ⟨hunit, fun p hp g hg => h.attached g (he p hp g hg)⟩

/-- R105, R111: the IDLE unit. -/
theorem sound_of_idle {s : State} (hst : s.agree.state = .idle) (hp : s.agree.proposal = none)
    (hl : s.agree.staged = s.agree.live) (hc : s.gate.config = false) : AgreementSound s :=
  ⟨by simp [hst, hp], fun _ => hl, by simp [hst, hc], fun p h => by simp [hp] at h⟩

/-- The step of an apply is none of the laws' matters. -/
theorem setApplyStep_sound {s : State} (x : Option ApplyStep) (hs : AgreementSound s) :
    AgreementSound (s.setAgree { s.agree with applyStep := x }) := hs

/-- R111: a unit that is not IDLE has a proposal. -/
theorem exists_proposal {s : State} (hs : AgreementSound s) (hn : s.agree.state ≠ .idle) :
    ∃ p, s.agree.proposal = some p := by
  obtain ⟨hidle, -⟩ := hs
  exact Option.ne_none_iff_exists'.mp fun h => hn (hidle.mpr h)

/-- R117: CONFIG joins the gate only once a ballot is won. -/
theorem config_absent {s : State} (hs : AgreementSound s)
    (hst : s.agree.state = .idle ∨ s.agree.state = .ballot) : s.gate.config = false := by
  obtain ⟨-, -, hgate, -⟩ := hs
  rw [Bool.eq_false_iff, ne_eq, hgate]
  rcases hst with h | h <;> simp [h]

/-! ## The end of a proposal (R116, R128, R129) -/

theorem removeReason_config (s : State) : (removeReason .config s).gate.config = false :=
  (agreementKept_serves .config s).config

theorem resolveProposal_gate (o : ProposalOutcome) (s : State) :
    (resolveProposal o s).gate = s.gate := by
  unfold resolveProposal
  split <;> rfl

theorem resolveProposal_none {s : State} (o : ProposalOutcome) (hp : s.agree.proposal = none) :
    resolveProposal o s = s := by
  simp only [resolveProposal, hp]

theorem abandon_config (r : AbandonReason) (s : State) : (abandon r s).gate.config = false := by
  rw [abandon, resolveProposal_gate]
  exact removeReason_config _

/-- R129: an abandonment takes the unit back to IDLE, the staged record to the live one. -/
theorem abandon_sound (r : AbandonReason) {s : State} (hs : UnitSound s.agree s.gate.config) :
    AgreementSound (abandon r s) := by
  cases hp : s.agree.proposal with
  | some p =>
    have ha := abandon_agree r hp
    exact sound_of_idle (by rw [ha]; rfl) (by rw [ha]; rfl) (by rw [ha]; rfl) (abandon_config r s)
  | none =>
    have ha : (abandon r s).agree = { s.agree with staged := s.agree.live } := by
      have hu := removeReason_agree .config (s.setAgree { s.agree with staged := s.agree.live })
      rw [abandon, resolveProposal_none _ (by rw [hu]; exact hp), hu]
      rfl
    obtain ⟨hidle, -⟩ := hs
    exact sound_of_idle (by rw [ha]; exact hidle.mpr hp) (by rw [ha]; exact hp) (by rw [ha])
      (abandon_config r s)

/-- R116: a light proposal that is applied takes the unit back to IDLE. -/
theorem applyLight_sound {s : State} {p : Proposal} (hp : s.agree.proposal = some p)
    (hc : s.gate.config = false) : AgreementSound (applyLight s) := by
  have ha := applyLight_agree hp
  have hg : (applyLight s).gate.config = false := by
    rw [applyLight, (agreementKept_judgeAccount _).config, resolveProposal_gate]
    exact hc
  exact sound_of_idle (by rw [ha]; rfl) (by rw [ha]; rfl) (by rw [ha]; rfl) hg

/-- R128: so does a commit, which takes CONFIG out of the gate. -/
theorem commitProposal_sound {s : State} {p : Proposal} (hp : s.agree.proposal = some p) :
    AgreementSound (commitProposal s) := by
  have ha := commitProposal_agree hp
  have hg : (commitProposal s).gate.config = false := by
    rw [commitProposal_eq, (agreementKept_judgeAccount _).config, resolveProposal_gate]
    exact removeReason_config _
  exact sound_of_idle (by rw [ha]; rfl) (by rw [ha]; rfl) (by rw [ha]; rfl) hg

/-! ## Drain and apply (R117, R123 to R125) -/

/-- R117: a heavy proposal whose ballot is won begins to drain. -/
theorem draining_sound {s : State} {p : Proposal} (hp : s.agree.proposal = some p)
    (hheavy : p.heavy = true) (hs : AgreementSound s) : AgreementSound (draining p s) := by
  obtain ⟨⟨-, -, -, hprop⟩, he⟩ := (agreementSound_iff s).mp hs
  obtain ⟨hstaged, hitems, -, hself, hvotes, -, -⟩ := hprop p hp
  have hports := (unitMoves_draining p s).port
  refine (agreementSound_iff _).mpr ⟨unitSound_of_proposal rfl (by simp [draining]) ?_
    ⟨hstaged, hitems, fun _ => hheavy, hself, hvotes, by simp, by simp [draining]⟩,
    fun q hq g hg => ?_⟩
  · exact iff_of_true rfl (.inl rfl)
  · cases hq
    rw [hports g]
    exact he p hp g hg

/-- R125: what the first step of an apply makes of the unit. -/
theorem beginApply_unit {s : State} {p : Proposal} (hp : s.agree.proposal = some p) :
    ∃ step, (beginApply s).agree = applyingUnit s.agree p step := by
  by_cases hr : ChangeItem.retrain ∈ p.items
  · rw [beginApply_retrains hp hr, offerStep_agree]
    exact ⟨.retrain, rfl⟩
  · by_cases hb : s.agree.staged.burstOrder = s.agree.live.burstOrder
    · rw [beginApply_commits hp hr hb]
      exact ⟨.commit, rfl⟩
    · rw [beginApply_loads hp hr hb]
      exact ⟨.load, rfl⟩

/-- R123: the apply of a drained proposal: no deadline is left. -/
theorem beginApply_sound {s : State} (hd : s.agree.state = .draining) (hs : AgreementSound s) :
    AgreementSound (beginApply s) := by
  obtain ⟨p, hp⟩ := exists_proposal hs (by simp [hd])
  obtain ⟨⟨-, -, hgate, hprop⟩, he⟩ := (agreementSound_iff s).mp hs
  obtain ⟨hstaged, hitems, hheavy, hself, hvotes, hballot, -⟩ := hprop p hp
  obtain ⟨step, ha⟩ := beginApply_unit hp
  have hg : (beginApply s).gate = s.gate := changesOnly_beginApply s .gate (by decide)
  have hports := (unitMoves_beginApply s).port
  rw [agreementSound_iff, ha, hg]
  refine ⟨unitSound_of_proposal rfl (by simp [applyingUnit])
    ⟨fun _ => .inr rfl, fun _ => hgate.mpr (.inl hd)⟩
    ⟨hstaged, hitems, fun _ => hheavy (by simp [hd]), hself, hvotes, fun hb => ?_, by simp⟩,
    fun q hq g hg' => ?_⟩
  · exact absurd (hballot hb) (by simp [hd])
  · cases hq
    rw [hports g]
    exact he p hp g hg'

theorem applyBurstOrder_sound {s : State} (hs : AgreementSound s) :
    AgreementSound (applyBurstOrder s) := by
  unfold applyBurstOrder
  split
  · exact setApplyStep_sound _ hs
  · exact (agreementKept_offer _ _ _).sound (setApplyStep_sound _ hs)

theorem startDrain_sound {s : State} {p : Proposal} (hp : s.agree.proposal = some p)
    (hheavy : p.heavy = true) (hs : AgreementSound s) : AgreementSound (startDrain s) := by
  have hdraining := draining_sound hp hheavy hs
  rw [startDrain_eq hp]
  split
  · exact beginApply_sound rfl hdraining
  · exact hdraining

/-- R124: no second drain deadline is set. -/
theorem clearDrainDeadline_sound {s : State} (hs : AgreementSound s) :
    AgreementSound (clearDrainDeadline s) := by
  unfold clearDrainDeadline
  split
  · exact hs
  next p hp =>
    obtain ⟨⟨hidle, -, hgate, hprop⟩, he⟩ := (agreementSound_iff s).mp hs
    obtain ⟨hstaged, hitems, hheavy, hself, hvotes, hballot, -⟩ := hprop p hp
    have hn : s.agree.state ≠ .idle := fun h => by simp [hidle.mp h] at hp
    refine (agreementSound_iff _).mpr ⟨unitSound_of_proposal rfl hn hgate
      ⟨hstaged, hitems, hheavy, hself, hvotes, hballot, by simp⟩, fun q hq => ?_⟩
    cases hq
    exact he p hp

/-! ## Ballots (R113 to R118) -/

/-- R115, R121: a ballot that is won drains or is applied; an open one goes on. -/
theorem judgeBallot_sound {s : State} (hb : s.agree.state = .ballot) (hs : AgreementSound s) :
    AgreementSound (judgeBallot s) := by
  obtain ⟨p, hp⟩ := exists_proposal hs (by simp [hb])
  simp only [judgeBallot, ballotWon, hp]
  split
  · split
    next hheavy => exact startDrain_sound hp hheavy hs
    · exact applyLight_sound hp (config_absent hs (.inr hb))
  · exact hs

/-- R115: the vote of an elector keeps the accepted set within the electorate. -/
theorem accepted_sound {s : State} {p : Proposal} {h : HostId} (hb : s.agree.state = .ballot)
    (hp : s.agree.proposal = some p) (he : p.electorate.get h = true) (hs : AgreementSound s) :
    AgreementSound (s.setAgree { s.agree with
      proposal := some { p with accepted := p.accepted.set h true } }) := by
  obtain ⟨⟨-, -, hgate, hprop⟩, hatt⟩ := (agreementSound_iff s).mp hs
  obtain ⟨hstaged, hitems, hheavy, hself, hvotes, hballot, hdrain⟩ := hprop p hp
  have hset : ∀ g, (p.accepted.set h true).get g = true → p.electorate.get g = true := by
    intro g hg
    rw [PerHost.get_set] at hg
    split at hg
    next e => exact e ▸ he
    · exact hvotes g hg
  refine (agreementSound_iff _).mpr ⟨unitSound_of_proposal rfl (by simp [hb]) hgate
    ⟨hstaged, hitems, hheavy, hself, hset, hballot, hdrain⟩, fun q hq => ?_⟩
  cases hq
  exact hatt p hp

/-- R114: the checks of a VOTE, in order. -/
theorem voteRefusal_none_iff (h : HostId) (number : Seq) (p : Proposal) :
    voteRefusal h number p = none ↔
      number = p.number ∧ p.electorate.get h = true ∧ p.accepted.get h = false := by
  simp only [voteRefusal]
  split
  · simp [*]
  · split
    · simp [*]
    · split <;> simp_all

theorem takeVote_sound (h : HostId) (tag : Tag) (number : Seq) (accept : Bool) {s : State}
    (hs : AgreementSound s) : AgreementSound (takeVote h tag number accept s) := by
  have hans := fun st => agreementKept_answerStatus h tag st s
  unfold takeVote
  split
  next p hb hp =>
    split
    · exact (hans _).sound hs
    next hpass =>
      obtain ⟨-, he, -⟩ := (voteRefusal_none_iff h number p).mp hpass
      have hok := (hans .ok).sound hs
      have hunit := (hans .ok).unit
      unfold castVote
      dsimp only
      split
      · exact judgeBallot_sound (by simp [hunit, hb])
          (accepted_sound (by rw [hunit, hb]) (by rw [hunit, hp]) he hok)
      · exact abandon_sound _ ((agreementSound_iff _).mp hok).1
  · exact (hans _).sound hs

/-- R113: the unit once a PROPOSE has been taken, the ballot still to be judged. -/
def postedUnit (s : State) (h : HostId) (items : List ChangeItem) : Agreement :=
  { s.agree with
    counter := s.agree.counter + 1#8, proposal := some (newProposal h items s), state := .ballot
    staged := applyItems s.agree.live items }

/-- R113: a new proposal's electorate is the attached set without its proposer. -/
theorem newProposal_electorate (h : HostId) (items : List ChangeItem) (s : State) (g : HostId) :
    (newProposal h items s).electorate.get g = (inSet s g && decide (g ≠ h)) := by
  simp only [newProposal, HostSet.without, PerHost.get_set, attachedSet_get]
  by_cases hg : g = h <;> simp [hg]

/-- R113: the state with a PROPOSE taken, answered and told, the ballot still to be judged. -/
def posted (h : HostId) (tag : Tag) (items : List ChangeItem) (s : State) : State :=
  let p := newProposal h items s
  notifySet p.electorate (.proposalPosted p.number h items.length p.heavy)
    (answer h tag .ok (.number p.number) (s.setAgree (postedUnit s h items)))

theorem postProposal_eq (h : HostId) (tag : Tag) (items : List ChangeItem) (s : State) :
    postProposal h tag items s = judgeBallot (posted h tag items s) := rfl

theorem agreementKept_posted (h : HostId) (tag : Tag) (items : List ChangeItem) (s : State) :
    AgreementKept (s.setAgree (postedUnit s h items)) (posted h tag items s) :=
  (agreementKept_answer _ _ _ _ _).trans (agreementKept_notifySet _ _ _)

theorem posted_agree (h : HostId) (tag : Tag) (items : List ChangeItem) (s : State) :
    (posted h tag items s).agree = postedUnit s h items := (agreementKept_posted h tag items s).unit

theorem posted_sound {s : State} (h : HostId) (tag : Tag) (items : List ChangeItem)
    (hi : s.agree.state = .idle) (hs : AgreementSound s) :
    AgreementSound (posted h tag items s) := by
  refine (agreementKept_posted h tag items s).sound ?_
  have hc := config_absent hs (.inl hi)
  refine (agreementSound_iff _).mpr ⟨unitSound_of_proposal rfl (by simp [postedUnit])
    (by simp [hc, postedUnit]) ⟨rfl, rfl, fun hn => absurd rfl hn, ?_, ?_, fun _ => rfl,
      fun hd => absurd rfl hd⟩, fun q hq g hg => ?_⟩
  · exact (newProposal_electorate h items s h).trans (by simp)
  · intro g hg
    simp [newProposal] at hg
  · cases hq
    rw [newProposal_electorate, Bool.and_eq_true] at hg
    exact of_decide_eq_true hg.1

theorem takePropose_sound (h : HostId) (tag : Tag) (base : BitVec 16) (items : List RawItem)
    {s : State} (hs : AgreementSound s) : AgreementSound (takePropose h tag base items s) := by
  have hans := fun st p => (agreementKept_answer h tag st p s).sound hs
  unfold takePropose
  split
  · exact hans _ _
  split
  · exact hans _ _
  next hi =>
    split
    · exact hans _ _
    split
    · exact hans _ _
    next l _ =>
      rw [postProposal_eq]
      exact judgeBallot_sound (by rw [posted_agree]; rfl) (posted_sound h tag l (not_not.mp hi) hs)

/-! ## Detaches (R119 to R122) -/

/-- R110, R155: a record that loses a host from its electorate and its accepted set. -/
theorem withoutElector_sound {a : Agreement} {p : Proposal} (h : HostId)
    (hs : ProposalSound a p) :
    ProposalSound { a with proposal := some (p.withoutElector h) } (p.withoutElector h) := by
  obtain ⟨hstaged, hitems, hheavy, hself, hvotes, hballot, hdrain⟩ := hs
  refine ⟨hstaged, hitems, hheavy, ?_, fun g => ?_, hballot, hdrain⟩
  · simp only [Proposal.withoutElector, HostSet.without, PerHost.get_set, hself, ite_self]
  · simp only [Proposal.withoutElector, HostSet.without, PerHost.get_set]
    by_cases hg : g = h
    · simp [hg]
    · simpa [hg] using hvotes g

/-- R155: the host that detaches is the one elector that need not be attached: the detach takes it out. -/
theorem detachAgreement_sound {s : State} {h : HostId} (hu : UnitSound s.agree s.gate.config)
    (he : ∀ p, s.agree.proposal = some p →
      ∀ g, g ≠ h → p.electorate.get g = true → s.port g = .attached) :
    AgreementSound (detachAgreement h s) := by
  have ⟨hidle, hlive, hgate, hprop⟩ := hu
  have hgone : ∀ p, s.agree.proposal = some p →
      AgreementSound (s.setAgree { s.agree with proposal := some (p.withoutElector h) }) := by
    intro p hp
    have hn : s.agree.state ≠ .idle := fun hi => by simp [hidle.mp hi] at hp
    refine (agreementSound_iff _).mpr
      ⟨unitSound_of_proposal rfl hn hgate (withoutElector_sound h (hprop p hp)), fun q hq g hg => ?_⟩
    cases hq
    simp only [Proposal.withoutElector, HostSet.without, PerHost.get_set] at hg
    split at hg
    · cases hg
    next hne => exact he p hp g hne hg
  have hnone : s.agree.proposal = none → AgreementSound s := fun hp =>
    (agreementSound_iff s).mpr ⟨hu, fun p h => by simp [hp] at h⟩
  unfold detachAgreement
  split
  next p hb hp =>
    split
    · exact abandon_sound _ hu
    · split
      · exact judgeBallot_sound hb (hgone p hp)
      next hout =>
        refine (agreementSound_iff s).mpr ⟨hu, fun q hq g hg => he q hq g ?_ hg⟩
        rintro rfl
        rw [hp] at hq
        exact hout (Option.some.inj hq ▸ hg)
  next p _ hp => exact hgone p hp
  next p _ hp => exact hgone p hp
  next hi => exact hnone (hidle.mp hi)
  next hp _ => exact hnone hp

/-- R155: the laws where a host's side has been replaced and the lease table has dealt with what it held. -/
theorem detached_sound {s t : State} {h : HostId} {x : HostSide} (hm : LeaseMoves s t)
    (hp : PortsKept (s.setHost h x) t) (hs : AgreementSound s) :
    AgreementSound (detachAgreement h t) := by
  have ⟨hu, he⟩ := (agreementSound_iff s).mp hs
  have hunit : t.agree = s.agree := by rw [hm]
  have hgate : t.gate = s.gate := by rw [hm]
  refine detachAgreement_sound (by rw [hunit, hgate]; exact hu) fun p hq g hg hin => ?_
  rw [hp g, State.setHost_port_other s x hg]
  exact he p (hunit ▸ hq) g hin

/-- R159: a LEAVE takes its host out of the electorate. -/
theorem takeLeave_sound (h : HostId) {s : State} (hs : AgreementSound s) :
    AgreementSound (takeLeave h s) := by
  have hdetached : AgreementSound
      (detachAgreement h (withdrawAndClose h (s.setPort h .leaving))) :=
    detached_sound (.after (leaseMoves_withdrawAndClose h _) rfl) (portsKept_withdrawAndClose h _) hs
  exact ((agreementKept_leavePark h _).trans (agreementKept_completeLeave h _)).sound hdetached

/-- R154, R161: so does a link that goes DOWN; a host that was not attached is in no electorate. -/
theorem linkDown_sound (h : HostId) {s : State} (hs : AgreementSound s) :
    AgreementSound (linkDown h s) := by
  have htear : ∀ x, LeaseMoves s (tearDown h (s.setHost h x)) := fun x =>
    .after (leaseMoves_tearDown h _) rfl
  have hend : ∀ u, AgreementKept u (takeIntake (notifyAttached (.hostLeft h true) u)) := fun u =>
    (agreementKept_notifyAttached _ u).trans (agreementKept_takeIntake _)
  have hdown : ∀ x, s.port h ≠ .attached → AgreementKept s (s.setHost h x) := fun x hp =>
    ⟨rfl, rfl, stillAttached_setHost x hp⟩
  unfold linkDown
  dsimp only
  split
  · exact ((agreementKept_leavePark h _).trans (hend _)).sound
      (detached_sound (htear _) (portsKept_tearDown h _) hs)
  next hp =>
    have hkept := hdown (HostSide.down (some (s.now + Config.quietTime))) (by simp [hp])
    exact ((hkept.trans (agreementKept_tearDown h _)).trans (hend _)).sound hs
  all_goals
    next hp => exact (hdown _ (by simp [hp])).sound hs

/-! ## Training steps (R129, R181 to R184) -/

theorem laneTrained_sound (w : Sweep) {s : State} (hs : AgreementSound s) :
    AgreementSound (laneTrained w s) := by
  have hatt : ∀ lane kind q, AgreementKept s (beginAttempt lane kind (s.setSeq q)) :=
    fun lane kind q => (agreementKept_setSeq s q).trans (agreementKept_beginAttempt lane kind _)
  unfold laneTrained
  split
  · dsimp only
    split
    · exact ((agreementKept_setSeq s _).trans (agreementKept_becomeReady _)).sound hs
    · exact (hatt _ _ _).sound hs
  · split
    · exact hs
    · dsimp only
      split
      · exact applyBurstOrder_sound
          (((agreementKept_setSeq s _).trans (agreementKept_setChan _ _)).sound hs)
      · exact (hatt _ _ _).sound hs

theorem attemptEnds_sound (w : Sweep) {s : State} (hs : AgreementSound s) :
    AgreementSound (attemptEnds w s) := by
  have hatt : ∀ kind, AgreementSound (beginAttempt w.lane kind s) := fun kind =>
    (agreementKept_beginAttempt w.lane kind s).sound hs
  unfold attemptEnds
  split
  · split
    · exact hatt _
    · exact ((agreementKept_setSeq s _).trans (agreementKept_refuseJoining _)).sound hs
  · split
    · exact hs
    · split
      · exact hatt _
      · exact abandon_sound _ ((agreementSound_iff s).mp hs).1

theorem landTrainStep_sound (lane : Lane) (sample : Bool) {s : State} (hs : AgreementSound s) :
    AgreementSound (landTrainStep lane sample s) := by
  have hland : AgreementSound (sampled s) :=
    ((agreementKept_landMaint s .active).trans (agreementKept_setSeq _ _)).sound hs
  have hact : ∀ w, AgreementSound (actOnSample sample w (sampled s)) := by
    intro w
    unfold actOnSample
    split
    · exact laneTrained_sound w hland
    · split
      · exact attemptEnds_sound w hland
      · exact ((agreementKept_setSeq _ _).trans (agreementKept_offerStep _)).sound hland
  refine (agreementKept_restoreCapture lane _).sound ?_
  split
  · exact hland
  · exact hact _

/-- R127: the agreement unit's own mode load moves its apply on to the commit. -/
theorem landModeLoad_sound (m : ModeSetting) (by_ : Requester) {s : State}
    (hs : AgreementSound s) : AgreementSound (landModeLoad m by_ s) := by
  have hload := ((agreementKept_landMaint s .active).trans (agreementKept_loadSetting m _)).sound hs
  unfold landModeLoad
  dsimp only
  split
  · exact (agreementKept_countModeLoad _).sound hload
  · exact setApplyStep_sound _ hload

end Sys2Proof.Agreements
end

section
/-! PROOFS. The commands one by one: each keeps the laws of the agreement unit, where the ports follow their
links (O9). -/

namespace Sys2Proof.Agreements

open Sys2Proof Sys2Proof.Machine Sys2Proof.Safety Sys2Proof.Leases Sys2Proof.Maintenance
  Sys2Proof.Refresh

/-- A step keeps the laws of the agreement unit. -/
def KeepsAgreement (s t : State) : Prop := AgreementSound s → AgreementSound t

/-- A relation that composes and holds of every step that leaves the unit, CONFIG and the attached hosts
alone. -/
structure UnitFrame (R : State → State → Prop) : Prop where
  kept : ∀ {s t}, AgreementKept s t → R s t
  trans : ∀ {s t u}, R s t → R t u → R s u

theorem unitFrame_stillAttached : UnitFrame StillAttached := ⟨AgreementKept.attached, StillAttached.trans⟩

theorem unitFrame_keepsAgreement : UnitFrame KeepsAgreement := ⟨AgreementKept.sound, fun h k hs => k (h hs)⟩

section Frames

variable {R : State → State → Prop} (hR : UnitFrame R) {s : State}

include hR

theorem UnitFrame.refl (s : State) : R s s := hR.kept (.refl s)

theorem UnitFrame.next_refl (s : State) : NextIn R s (.next s) := nextIn_next (hR.refl s)

/-- Log 3: an event acts where its condition holds, and leaves the state as it is otherwise. -/
theorem UnitFrame.ite {p : Prop} [Decidable p] {t : State} (h : p → R s t) :
    NextIn R s (if p then .next t else .next s) := by
  split
  next hp => exact nextIn_next (h hp)
  · exact hR.next_refl s

theorem UnitFrame.deliver {act : State → State} (ha : ∀ u, R u (act u)) (h : HostId) (f : FrameHdr)
    (tagged : Bool) (s : State) : R s (deliver h f tagged act s) := by
  unfold Machine.deliver
  split
  · exact hR.trans (hR.kept (agreementKept_modLink h _ s)) (ha _)
  · exact hR.kept (.of_moves (leaseMoves_discardFrame h f s) (portsKept_discardFrame h f s).attached)

theorem UnitFrame.request {act : State → State} (ha : ∀ u, R u (act u)) (h : HostId) (f : FrameHdr)
    (tag : Tag) (kind : ReqKind) (s : State) : R s (request h f tag kind act s) := by
  refine hR.deliver (fun u => ?_) h f true s
  unfold takeRequest
  split
  · exact hR.refl u
  · split
    · exact hR.kept (agreementKept_notify _ _ u)
    · have htaken : ∀ tags, R u (u.setHost h { u.host h with tags := tags }) :=
        fun _ => hR.kept (agreementKept_setHost rfl)
      exact hR.trans (htaken _) (ha _)

theorem UnitFrame.requestAttached {act : State → State} (ha : ∀ u, R u (act u)) (h : HostId)
    (f : FrameHdr) (tag : Tag) (kind : ReqKind) (s : State) :
    R s (Machine.request h f tag kind (attachedOnly h tag act) s) := by
  refine hR.request (fun u => ?_) h f tag kind s
  unfold attachedOnly
  split
  · exact ha u
  · exact hR.kept (agreementKept_answerStatus _ _ _ u)

theorem UnitFrame.malformed (h : HostId) (f : FrameHdr) (tagged : Bool) (s : State) :
    R s (Machine.deliver h f tagged (Machine.malformed h) s) :=
  hR.deliver (fun u => hR.kept (agreementKept_notify h _ u)) h f tagged s

end Frames

/-! ## The commands of the lease table, the transfer engine and the links -/

section LeaseCommands

variable {s : State}

theorem nextIn_ports {t : State} (h : PortsKept s t) : NextIn StillAttached s (.next t) :=
  nextIn_next h.attached

theorem nextIn_itePorts {p : Prop} [Decidable p] {t : State} (h : PortsKept s t) :
    NextIn StillAttached s (if p then .next t else .next s) :=
  unitFrame_stillAttached.ite fun _ => h.attached

theorem execWrite_attached (h : HostId) (f : FrameHdr) (tag : Tag) (bank bursts : Byte)
    (col : BitVec 16) (payload : List WriteBurst) (s : State) :
    NextIn StillAttached s (execWrite h f tag bank bursts col payload s) := by
  have hF := unitFrame_stillAttached
  unfold execWrite
  split
  · exact nextIn_next
      (hF.request (fun u => (portsKept_transferRequest _ u).attached) h f tag .write s)
  · exact nextIn_next (hF.malformed h f true s)

theorem execReceiveIdleFrame_attached (h : HostId) (f : FrameHdr) (hs : PortsSound s) :
    NextIn StillAttached s (execReceiveIdleFrame h f s) := by
  unfold execReceiveIdleFrame
  split
  · exact unitFrame_stillAttached.next_refl s
  next hl => exact nextIn_next (stillAttached_countIdle hs hl)
  · exact nextIn_ports (portsKept_modLink h _ s)

/-- A command of the lease table, the transfer engine or the links takes no host out of the attached set,
where the ports follow their links. -/
theorem exec_leaseCommand_attached {c : Instr} (hc : isLeaseCommand c = true) (hs : PortsSound s) :
    NextIn StillAttached s (exec c s) := by
  have hF := unitFrame_stillAttached
  have hstay := hF.next_refl s
  cases c with
  | holdDeadlineExpiry b h =>
    simp only [exec, execHoldDeadlineExpiry]
    split
    · exact hstay
    · exact nextIn_itePorts (portsKept_expireHold b h _ s)
  | waitDeadlineExpiry b h =>
    simp only [exec, execWaitDeadlineExpiry]
    split
    · exact hstay
    · exact nextIn_itePorts (portsKept_withdrawWaiter b h .timedOut s)
  | quietEnd h | sendTimerExpiry h | sendFrame h => exact nextIn_itePorts (portsKept_modLink h _ s)
  | receiveIdleFrame h f => exact execReceiveIdleFrame_attached h f hs
  | receiveCorruptedFrame h =>
    simp only [exec, execReceiveCorruptedFrame]
    split
    · exact hstay
    all_goals exact nextIn_ports (portsKept_modLink h _ s)
  | messageFrameDiscarded h f tagged =>
    simp only [exec, execMessageFrameDiscarded]
    split
    · exact hstay
    · exact nextIn_ports (portsKept_discardFrame h f s)
  | malformedMessage h f tagged => exact nextIn_next (hF.malformed h f tagged s)
  | joinComplete => exact nextIn_next (stillAttached_completeJoins s)
  | leaveComplete h => exact nextIn_next (stillAttached_completeLeave h s)
  | openLease h f tag bank row mode wait =>
    exact nextIn_next (hF.requestAttached
      (fun u => (portsKept_takeOpen h tag bank row mode wait u).attached) h f tag _ s)
  | closeLease h f tag bank =>
    exact nextIn_next (hF.requestAttached
      (fun u => (portsKept_takeClose h tag bank u).attached) h f tag _ s)
  | closeComplete b h | revocationFinish b h => exact nextIn_itePorts (portsKept_finishHolder b h s)
  | grantFromQueue b => exact nextIn_ports (portsKept_serveBank b s)
  | read h f tag bank bursts col =>
    exact nextIn_next
      (hF.request (fun u => (portsKept_transferRequest _ u).attached) h f tag .read s)
  | write h f tag bank bursts col payload => exact execWrite_attached h f tag bank bursts col payload s
  | intakeTake => exact nextIn_ports (portsKept_takeIntake s)
  | query h f tag =>
    exact nextIn_next (hF.request (fun u => (portsKept_answer h tag .ok _ u).attached) h f tag .query s)
  | queryBank h f tag bank =>
    exact nextIn_next (hF.requestAttached
      (fun u => (portsKept_takeQueryBank h tag bank u).attached) h f tag _ s)
  | noteAck h f n =>
    exact nextIn_next (hF.deliver (fun u => (portsKept_takeNoteAck h n u).attached) h f false s)
  | notificationDelivery h => exact nextIn_ports (portsKept_deliverNote h s)
  | setupEnd b | commandSlotEnd | writeRecoveryEnd b => exact nextIn_itePorts fun _ => rfl
  | activateIssue =>
    have hissue : ∀ b, PortsKept s (issueActivate b s) := fun b => by
      unfold issueActivate
      split <;> exact fun _ => rfl
    simp only [exec, execActivateIssue]
    split
    · exact nextIn_ports (hissue _)
    all_goals exact hstay
  | prechargeIssue =>
    simp only [exec, execPrechargeIssue]
    split
    · exact nextIn_ports fun _ => rfl
    all_goals exact hstay
  | burstIssue =>
    simp only [exec, execBurstIssue]
    split
    · exact nextIn_ports (portsKept_issueBurst _ s)
    all_goals exact hstay
  | activateCompletion b =>
    have hland : ∀ row, PortsKept s (landActivate b row (keepPlace s)) := fun row =>
      .after (.foldl (fun u (x : Holder) => portsKept_settleHolder b x.host u) _ _) fun _ => rfl
    simp only [exec, execActivateCompletion]
    split
    · exact nextIn_itePorts (hland _)
    all_goals exact hstay
  | prechargeCompletion b =>
    simp only [exec, execPrechargeCompletion]
    split
    · exact nextIn_itePorts (.after (portsKept_serveBank b _) fun _ => rfl)
    all_goals exact hstay
  | burstCompletion b =>
    exact nextIn_itePorts (.after (portsKept_completeBurst b (keepPlace s)) fun _ => rfl)
  | _ => cases hc

end LeaseCommands

/-! ## The commands of the other units -/

section Commands

variable {s : State}

theorem nextIn_kept {t : State} (h : AgreementKept s t) : NextIn KeepsAgreement s (.next t) :=
  nextIn_next h.sound

theorem nextIn_iteKept {p : Prop} [Decidable p] {t : State} (h : AgreementKept s t) :
    NextIn KeepsAgreement s (if p then .next t else .next s) :=
  unitFrame_keepsAgreement.ite fun _ => h.sound

/-- An offer that the arbiter takes and that is of the kind the command names is issued. -/
theorem nextIn_issue {f : Offer → State} {op : MaintOp}
    (hf : ∀ o, AgreementKept (issueMaint o s) (f o)) :
    NextIn KeepsAgreement s (match s.maintTaken with
      | none => .next s
      | some o => if o.op = op then .next (f o) else .next s) := by
  split
  · exact unitFrame_keepsAgreement.next_refl s
  · exact nextIn_iteKept ((agreementKept_issueMaint s _).trans (hf _))

theorem agreementKept_stepUnderWay (s : State) : AgreementKept s (stepUnderWay s) :=
  agreementKept_setSeq s _

theorem execModeLoadIssue_keeps (s : State) : NextIn KeepsAgreement s (execModeLoadIssue s) := by
  unfold execModeLoadIssue
  split
  · exact unitFrame_keepsAgreement.next_refl s
  next o _ =>
    have hissue := agreementKept_issueMaint s o
    split
    · split
      · exact nextIn_kept (hissue.trans (agreementKept_stepUnderWay _))
      · exact nextIn_kept hissue
    all_goals exact unitFrame_keepsAgreement.next_refl s

theorem execTrainStepIssue_keeps (s : State) : NextIn KeepsAgreement s (execTrainStepIssue s) := by
  unfold execTrainStepIssue
  split
  · exact unitFrame_keepsAgreement.next_refl s
  · split
    · exact nextIn_kept ((agreementKept_issueMaint s _).trans (agreementKept_stepUnderWay _))
    all_goals exact unitFrame_keepsAgreement.next_refl s

theorem execModeLoadCompletion_keeps (s : State) :
    NextIn KeepsAgreement s (execModeLoadCompletion s) := by
  unfold execModeLoadCompletion
  split
  · exact unitFrame_keepsAgreement.next_refl s
  · split
    · exact nextIn_next (landModeLoad_sound _ _)
    all_goals exact unitFrame_keepsAgreement.next_refl s

theorem execTrainStepCompletion_keeps (sample : Bool) (s : State) :
    NextIn KeepsAgreement s (execTrainStepCompletion sample s) := by
  unfold execTrainStepCompletion
  split
  · exact unitFrame_keepsAgreement.next_refl s
  · split
    · exact nextIn_next (landTrainStep_sound _ sample)
    all_goals exact unitFrame_keepsAgreement.next_refl s

theorem execResetNRelease_keeps (s : State) : NextIn KeepsAgreement s (execResetNRelease s) := by
  have hrelease : AgreementKept s (releaseReset s) :=
    .of_same rfl rfl fun g => by simp [State.port, releaseReset_host]
  unfold execResetNRelease
  split
  · exact unitFrame_keepsAgreement.next_refl s
  · exact nextIn_kept hrelease

/-- R153: the fifth replay takes the link DOWN, and every other NAK moves its link at most. -/
theorem takeNak_sound (h : HostId) (n : Seq) {s : State} (hs : AgreementSound s) :
    AgreementSound (takeNak h n s) := by
  have hlink : ∀ f, AgreementSound (s.modLink h f) := fun f =>
    (agreementKept_modLink h f s).sound hs
  unfold takeNak
  dsimp only
  split
  · split
    · exact linkDown_sound h hs
    · exact hlink _
  · split
    · exact hlink _
    · exact hs

theorem execReceiveNakFrame_keeps (h : HostId) (f : FrameHdr) (n : Seq) (s : State) :
    NextIn KeepsAgreement s (execReceiveNakFrame h f n s) := by
  have hlink := fun k => agreementKept_modLink h k s
  unfold execReceiveNakFrame
  split
  · exact unitFrame_keepsAgreement.next_refl s
  · exact nextIn_kept (hlink _)
  · exact nextIn_next fun hs => takeNak_sound h n ((hlink _).sound hs)

theorem execPropose_keeps (h : HostId) (f : FrameHdr) (tag : Tag) (base : BitVec 16)
    (items : List RawItem) (s : State) :
    NextIn KeepsAgreement s (execPropose h f tag base items s) := by
  have hF := unitFrame_keepsAgreement
  unfold execPropose
  split
  · exact nextIn_next
      (hF.requestAttached (fun _ => takePropose_sound h tag base items) h f tag _ s)
  · exact nextIn_next (hF.malformed h f true s)

/-- R118: the ballot deadline abandons the proposal. -/
theorem execBallotDeadlineExpiry_keeps (s : State) :
    NextIn KeepsAgreement s (execBallotDeadlineExpiry s) :=
  unitFrame_keepsAgreement.ite fun _ hs => abandon_sound .timeout ((agreementSound_iff s).mp hs).1

/-- R123: all banks are closed while DRAINING. -/
theorem execDrainComplete_keeps (s : State) : NextIn KeepsAgreement s (execDrainComplete s) := by
  refine unitFrame_keepsAgreement.ite fun hr hs => beginApply_sound ?_ hs
  simp only [State.drainReady, Bool.and_eq_true, decide_eq_true_eq] at hr
  exact hr.1

/-- R128: a commit stands at the end of an apply, and an apply has a proposal. -/
theorem execCommit_keeps (s : State) : NextIn KeepsAgreement s (execCommit s) := by
  refine unitFrame_keepsAgreement.ite fun hr hs => ?_
  simp only [State.commitReady, Bool.and_eq_true, decide_eq_true_eq] at hr
  obtain ⟨happly, -⟩ := hr
  obtain ⟨p, hp⟩ := exists_proposal hs (by simp [happly])
  exact commitProposal_sound hp

/-- R131: RESET_N gives the agreement unit its reset values. -/
theorem assertReset_sound (s : State) : AgreementSound (assertReset s) :=
  AgreementKept.sound (s := State.reset) (.of_same rfl rfl fun _ => rfl) resetState_agreementSound

end Commands

/-- Every command keeps the laws of the agreement unit: those of the lease table, the transfer engine and
the links take no host out of the attached set, and the rest are looked at one by one. -/
theorem exec_keepsAgreement (c : Instr) {s : State} (hs : PortsSound s) :
    NextIn KeepsAgreement s (exec c s) := by
  by_cases hc : isLeaseCommand c = true
  · exact fun t ht => (AgreementKept.of_moves (exec_leaseCommand hc s t ht)
      (exec_leaseCommand_attached hc hs t ht)).sound
  have hF := unitFrame_keepsAgreement
  cases c with
  | resetNAssert => exact nextIn_next fun _ => assertReset_sound s
  | resetNRelease => exact execResetNRelease_keeps s
  | holdPhaseEnd => exact nextIn_iteKept ((agreementKept_setSeq s _).trans (agreementKept_setChan _ _))
  | settlePhaseEnd => exact nextIn_iteKept (agreementKept_endSettle s)
  | lockPhaseEnd => exact nextIn_iteKept (agreementKept_endLock s)
  | intervalExpiry =>
    exact nextIn_iteKept (.after (agreementKept_expireInterval _) (agreementKept_setChan s _))
  | ballotDeadlineExpiry => exact execBallotDeadlineExpiry_keeps s
  | drainDeadlineExpiry =>
    exact hF.ite fun _ hs => (agreementKept_massRevoke .config _).sound (clearDrainDeadline_sound hs)
  | silenceDeadlineExpiry h => exact hF.ite fun _ => linkDown_sound h
  | receiveNakFrame h f n => exact execReceiveNakFrame_keeps h f n s
  | join h f tag =>
    exact nextIn_next (hF.request (fun u => (agreementKept_takeJoin h tag u).sound) h f tag .join s)
  | leave h f tag => exact nextIn_next (hF.requestAttached (fun _ => takeLeave_sound h) h f tag .leave s)
  | propose h f tag base items => exact execPropose_keeps h f tag base items s
  | vote h f tag number accept =>
    exact nextIn_next
      (hF.requestAttached (fun _ => takeVote_sound h tag number accept) h f tag .vote s)
  | drainComplete => exact execDrainComplete_keeps s
  | commit => exact execCommit_keeps s
  | park h f tag =>
    exact nextIn_next
      (hF.requestAttached (fun u => (agreementKept_takePark h tag u).sound) h f tag .park s)
  | unpark h f tag =>
    exact nextIn_next
      (hF.requestAttached (fun u => (agreementKept_takeUnpark h tag u).sound) h f tag .unpark s)
  | standbyEntering =>
    exact nextIn_iteKept ((agreementKept_setStandby s _).trans (agreementKept_addReason _ (by decide)))
  | standbyEnterOffer => exact nextIn_iteKept (agreementKept_offer s _ _)
  | refreshRequest => exact nextIn_iteKept (agreementKept_makeAccountOffer s)
  | refreshIssue | shortCalIssue | standbyEnterIssue => exact nextIn_issue fun _ => .refl _
  | longCalIssue => exact nextIn_issue fun _ => agreementKept_stepUnderWay _
  | modeLoadIssue => exact execModeLoadIssue_keeps s
  | trainStepIssue => exact execTrainStepIssue_keeps s
  | standbyExitIssue =>
    exact nextIn_issue fun _ => (agreementKept_setChan _ _).trans (agreementKept_setStandby _ _)
  | refreshCompletion | shortCalCompletion => exact nextIn_iteKept (agreementKept_landAccountOp _ s)
  | longCalCompletion => exact nextIn_iteKept (agreementKept_landLongCal s)
  | modeLoadCompletion => exact execModeLoadCompletion_keeps s
  | trainStepCompletion sample => exact execTrainStepCompletion_keeps sample s
  | standbyEnterCompletion => exact nextIn_iteKept (agreementKept_landEnter s)
  | standbyExitCompletion => exact nextIn_iteKept (agreementKept_landExit s)
  | _ => exact absurd rfl hc

/-- Settles O9: the command at the front of the queue keeps the laws, and a tick moves the clock
alone. -/
theorem stepKeepsAgreementLaws : Obligations.StepKeepsAgreementLaws := by
  intro s t hs hports ht
  cases hp : s.pending with
  | nil =>
    rw [step_nil s hp] at ht
    cases ht
    unfold State.idle
    split <;> exact hs
  | cons c rest =>
    rw [step_cons s c rest hp] at ht
    exact exec_keepsAgreement c (s := { s with pending := rest }) hports t ht hs

end Sys2Proof.Agreements
end

section
/-! PROOFS. What an abandonment makes of the state where no queue is served (R129), and the training steps of
a retraining (R126, R178 to R180, R183, R184, O43). -/

namespace Sys2Proof.Agreements

open Sys2Proof Sys2Proof.Machine Sys2Proof.Safety Sys2Proof.Leases Sys2Proof.Configuration
  Sys2Proof.Maintenance

/-! ## Abandonment (R129) -/

/-- R129: PROPOSAL_RESOLVED has gone to the attached set, and the unit is IDLE with its live record. -/
def abandoned (s : State) (p : Proposal) (r : AbandonReason) : State :=
  (notifyAttached (.proposalResolved p.number (.abandoned r) s.agree.epoch) s).setAgree
    (abandonedUnit s.agree)

theorem abandoned_host (s : State) (p : Proposal) (r : AbandonReason) (g : HostId) :
    (abandoned s p r).host g =
      sideResolved s p.number (.abandoned r) s.agree.epoch g (s.host g) := by
  rw [abandoned, State.setAgree_host, notifyAttached_host, sideResolved]

theorem changesOnly_abandoned (s : State) (p : Proposal) (r : AbandonReason) :
    ChangesOnly [.agree, .hosts] s (abandoned s p r) :=
  (changesOnly_notifyEach _ s).trans' (changesOnly_setAgree _ _) (by decide) (by decide)

theorem resolveProposal_some {s : State} {p : Proposal} (o : ProposalOutcome)
    (hp : s.agree.proposal = some p) : resolveProposal o s =
      (notifyAttached (.proposalResolved p.number o s.agree.epoch) s).setAgree
        { s.agree with state := .idle, proposal := none, applyStep := none } := by
  simp only [resolveProposal, hp]
  rfl

section Abandon

variable {s : State} {p : Proposal} (r : AbandonReason) (hp : s.agree.proposal = some p)
include hp

/-- With no waiter on any bank, CONFIG leaves the gate and serves nothing. -/
theorem abandon_noWaiters (hn : noWaiters s) :
    abandon r s = (abandoned s p r).setGate { s.gate with config := false } := by
  have hgate := removeReason_noWaiters .config
    (s := s.setAgree { s.agree with staged := s.agree.live }) hn
  rw [abandon, hgate]
  exact resolveProposal_some _ hp

/-- R117: in BALLOT no CONFIG is in the gate. -/
theorem abandon_ballot (hg : s.gate.config = false) : abandon r s = abandoned s p r := by
  have hput : s.gate.put .config false = s.gate := by simp only [Gate.put, ← hg]
  have hgate := removeReason_absent (r := .config)
    (s := s.setAgree { s.agree with staged := s.agree.live }) hput
  rw [abandon, hgate]
  exact resolveProposal_some _ hp

end Abandon

/-! ## The attempts of a retraining (R179, R183) -/

/-- R183: an attempt on a lane of a retraining begins, its first step still to be offered. -/
def reattempting (lane : Lane) (st : Vector StagedLane 4) (q : Sequencer) : Sequencer :=
  { q with
    staged := some (st.set lane.val { st[lane.val] with attempts := st[lane.val].attempts + 1 })
    sweep := some (firstStep lane (st[lane.val].attempts + 1) .retrain) }

theorem beginAttempt_retrain {s : State} {st : Vector StagedLane 4} (lane : Lane) {press : Bool}
    (hst : s.seq.staged = some st)
    (hp : press = true ↔ presses s s.agree.live.threshold s.account.owed) :
    beginAttempt lane .retrain s = (s.setSeq (seqOffers press (reattempting lane st s.seq))).setChan
      { s.chan with offers := s.chan.offers ++ stepOffers press lane 0#6 } := by
  have hbegin : beginAttempt lane .retrain s = offerStep (s.setSeq (reattempting lane st s.seq)) := by
    simp only [beginAttempt, hst]
    rfl
  rw [hbegin]
  exact offerStep_eq (s := s.setSeq (reattempting lane st s.seq)) rfl hp

/-- R183: the staged results once a lane has found its transition. -/
def stagedTrained (w : Sweep) (st : Vector StagedLane 4) : Vector StagedLane 4 :=
  st.set w.lane.val { st[w.lane.val] with delay := some w.delay, status := .trained }

section Retrain

variable {s : State} {w : Sweep} {st : Vector StagedLane 4} (hk : w.kind = .retrain)
  (hst : s.seq.staged = some st)
include hk hst

theorem laneTrained_staged (hl : w.lane ≠ 3) :
    laneTrained w s = beginAttempt (w.lane + 1) .retrain
      (s.setSeq { s.seq with staged := some (stagedTrained w st) }) := by
  simp only [laneTrained, hk, hst, if_neg hl]
  rfl

theorem laneTrained_retrained (hl : w.lane = 3) :
    laneTrained w s = retrainSuccess (stagedTrained w st) s := by
  simp only [laneTrained, hk, hst, if_pos hl]
  rfl

theorem attemptEnds_reattempts (ha : st[w.lane.val].attempts < 3) :
    attemptEnds w s = beginAttempt w.lane .retrain s := by
  simp only [attemptEnds, hk, hst]
  exact if_pos ha

theorem attemptEnds_fails (ha : 3 ≤ st[w.lane.val].attempts) :
    attemptEnds w s = retrainFailure s := by
  simp only [attemptEnds, hk, hst]
  exact if_neg (Nat.not_lt.mpr ha)

end Retrain

/-! ## The end of a retraining (R126, R184) -/

/-- R184: the lane records that the staged results of a retraining become. -/
def recordsOf (st : Vector StagedLane 4) (lanes : Vector LaneRecord 4) : Vector LaneRecord 4 :=
  Vector.ofFn fun i =>
    ⟨st[i.val].delay.getD lanes[i.val].delay, .trained, st[i.val].attempts⟩

theorem recordsOf_get (st : Vector StagedLane 4) (lanes : Vector LaneRecord 4) (i : Lane) :
    (recordsOf st lanes)[i.val] =
      ⟨st[i.val].delay.getD lanes[i.val].delay, .trained, st[i.val].attempts⟩ := by
  simp [recordsOf]

/-- R184: the retraining is over, and every lane captures with its record. -/
def retrained (st : Vector StagedLane 4) (s : State) : State :=
  (s.setSeq { s.seq with
    lanes := recordsOf st s.seq.lanes, sweep := none, staged := none, stepOffer := .none
    yielding := false }).setChan
    { s.chan with capture := (recordsOf st s.seq.lanes).map fun r => some r.delay }

theorem retrainSuccess_eq (st : Vector StagedLane 4) (s : State) :
    retrainSuccess st s = applyBurstOrder (retrained st s) := rfl

/-- R83: every lane captures with its record already, so that the step's own lane changes nothing. -/
theorem restoreCapture_captured {s : State} {lane : Lane}
    (hc : s.chan.capture[lane.val] = some s.seq.lanes[lane.val].delay) :
    restoreCapture lane s = s := by
  rw [restoreCapture, setCapture, ← hc, Vector.set_getElem_self]
  rfl

/-- R125: the steps of an apply that follow a retraining leave the sequencer and the captures alone. -/
theorem applyBurstOrder_captures (s : State) : (applyBurstOrder s).seq = s.seq ∧
    (applyBurstOrder s).chan.capture = s.chan.capture ∧
    ChangesOnly [.chan, .agree] s (applyBurstOrder s) := by
  unfold applyBurstOrder
  split
  · exact ⟨rfl, rfl, (changesOnly_setAgree s _).mono (by decide)⟩
  · exact ⟨rfl, rfl,
      (changesOnly_setAgree s _).trans' (changesOnly_setChan _ _) (by decide) (by decide)⟩

/-- R184: with lane 3 trained the staged results are the records, and the apply goes on. -/
theorem restoreCapture_retrained (lane : Lane) (st : Vector StagedLane 4) (s : State) :
    restoreCapture lane (retrainSuccess st s) = applyBurstOrder (retrained st s) := by
  obtain ⟨hseq, hcapture, -⟩ := applyBurstOrder_captures (retrained st s)
  rw [retrainSuccess_eq]
  refine restoreCapture_captured ?_
  rw [hseq, hcapture]
  simp [retrained]

/-- R184: the staged results are dropped, and the proposal is abandoned. -/
def retrainDropped (s : State) : State :=
  s.setSeq { s.seq with
    sweep := none, staged := none, stepOffer := .none, yielding := false }

theorem retrainFailure_eq {s : State} {p : Proposal} (hp : s.agree.proposal = some p)
    (hn : noWaiters s) : retrainFailure s =
      (abandoned (retrainDropped s) p .trainingFailed).setGate { s.gate with config := false } :=
  abandon_noWaiters .trainingFailed (s := retrainDropped s) hp hn

theorem changesOnly_sampled (s : State) : ChangesOnly [.seq, .chan] s (sampled s) :=
  (changesOnly_setChan s _).trans' (changesOnly_setSeq _ _) (by decide) (by decide)

/-- R184: lane 3's transition has put the staged results into the records, and the apply is still to go
on. -/
def allRetrained (w : Sweep) (st : Vector StagedLane 4) (s : State) : State :=
  retrained (stagedTrained w st) (sampled s)

theorem changesOnly_allRetrained (w : Sweep) (st : Vector StagedLane 4) (s : State) :
    ChangesOnly [.seq, .chan] s (allRetrained w st s) :=
  (changesOnly_sampled s).trans
    ((changesOnly_setSeq _ _).trans' (changesOnly_setChan _ _) (by decide) (by decide))

theorem allRetrained_lanes (w : Sweep) (st : Vector StagedLane 4) (s : State) (i : Lane) :
    (allRetrained w st s).seq.lanes[i.val] =
      ⟨(stagedTrained w st)[i.val].delay.getD s.seq.lanes[i.val].delay, .trained,
        (stagedTrained w st)[i.val].attempts⟩ := recordsOf_get _ _ i

/-- Settles O43: a step's sample leads to the next delay, to the next lane or to the new records, or to the
next attempt or to the end of the proposal. -/
theorem retrainingStep : Obligations.RetrainingStep := by
  intro s lane d by_ sample w st own press hl hw hk hlane hst hown hp
  subst hlane hown
  rw [exec_trainStepCompletion sample hl hw]
  have hp' : press = true ↔ presses (sampled s) (sampled s).agree.live.threshold
      (sampled s).account.owed := hp
  have hst' : (sampled s).seq.staged = some st := hst
  refine ⟨fun ht hd => ?_, fun ht => ⟨?_, fun hlast => ?_⟩, fun ht hd ha => ?_,
    fun ht hd ha p hprop hn => ?_⟩
  · rw [actOnSample_next ht hd, offerStep_eq rfl (by exact hp'), restoreCapture_eq rfl]
    simp only [sampled, landMaint, State.setSeq, State.setChan, seqOffers, chanStepped, chanLanded]
  · rintro next hmore rfl
    have hother : (stagedTrained w st)[(w.lane + 1).val] = st[(w.lane + 1).val] :=
      Vector.getElem_set_ne w.lane.isLt _ nextLane_ne.symm
    rw [actOnSample_transition ht, laneTrained_staged hk hst' hmore,
      beginAttempt_retrain (w.lane + 1) rfl (by exact hp'), restoreCapture_eq rfl, reattempting,
      hother, stagedTrained]
    simp only [sampled, landMaint, State.setSeq, State.setChan, seqOffers, chanStepped, chanLanded]
  · obtain ⟨hseq, hcapture, happly⟩ := applyBurstOrder_captures (allRetrained w st s)
    have hlanes := allRetrained_lanes w st s
    rw [← hseq] at hlanes
    have hgoes : restoreCapture w.lane (retrainSuccess (stagedTrained w st) (sampled s)) =
        applyBurstOrder (allRetrained w st s) := restoreCapture_retrained _ _ _
    rw [actOnSample_transition ht, laneTrained_retrained hk hst' hlast, hgoes]
    refine ⟨_, rfl, (changesOnly_allRetrained w st s).trans' happly (by decide) (by decide), ?_, ?_,
      fun i hi => ?_, fun i => ?_, fun hb => ?_, fun hb => ?_⟩
    · rw [hseq]
      rfl
    · exact (hlanes 3).trans (by simp [stagedTrained, hlast])
    · have hne : w.lane.val ≠ i.val := fun e => hi (hlast ▸ (Fin.ext e).symm)
      rw [hlanes i, stagedTrained, Vector.getElem_set_ne _ _ hne]
    · rw [hcapture, hseq]
      exact Vector.getElem_map _ i.isLt
    · rw [chanLanded_nil, applyBurstOrder, if_pos (by exact hb)]
      exact ⟨rfl, rfl⟩
    · rw [applyBurstOrder, if_neg (by exact hb)]
      exact ⟨rfl, rfl⟩
  · rw [actOnSample_last ht hd, attemptEnds_reattempts hk hst' ha,
      beginAttempt_retrain w.lane hst' hp', restoreCapture_eq rfl]
    simp only [reattempting, sampled, landMaint, State.setSeq, State.setChan, seqOffers, chanStepped,
      chanLanded]
  · rw [actOnSample_last ht hd, attemptEnds_fails hk hst' ha,
      retrainFailure_eq (s := sampled s) hprop hn, restoreCapture_eq rfl]
    have hdropped : ChangesOnly [.seq, .chan] s (retrainDropped (sampled s)) :=
      (changesOnly_sampled s).trans ((changesOnly_setSeq _ _).mono (by decide))
    refine ⟨_, rfl, ((hdropped.trans' (changesOnly_abandoned _ _ _) (by decide) (by decide)).trans
      ((changesOnly_setGate _ _).mono (by decide))).trans ((changesOnly_setChan _ _).mono (by decide)),
      rfl, ?_, rfl, rfl, abandoned_host _ p .trainingFailed⟩
    rw [chanStepped, chanLanded_nil]
    rfl

end Sys2Proof.Agreements
end

section
/-! PROOFS. VOTE that is refused, that leaves the ballot open or that rejects the proposal, and the ballot
deadline (R114, R115, R118, R129, O46). -/

namespace Sys2Proof.Agreements

open Sys2Proof Sys2Proof.Machine Sys2Proof.Safety Sys2Proof.Leases

/-! ## The checks of a VOTE (R114) -/

theorem takeVote_noBallot {s : State} (h : HostId) (tag : Tag) (n : Seq) (y : Bool)
    (hs : s.agree.state ≠ .ballot) :
    takeVote h tag n y s = answerStatus h tag .noBallot s := by
  unfold takeVote
  split
  next hb _ => exact absurd hb hs
  · rfl

section Ballot

variable {s : State} {p : Proposal} (h : HostId) (tag : Tag) {n : Seq} (y : Bool)
  (hs : s.agree.state = .ballot) (hp : s.agree.proposal = some p)
include hs hp

theorem takeVote_refused {st : Status} (hr : voteRefusal h n p = some st) :
    takeVote h tag n y s = answerStatus h tag st s := by
  simp only [takeVote, hs, hp, hr]

theorem takeVote_passes (hr : voteRefusal h n p = none) :
    takeVote h tag n y s = castVote h tag y p s := by
  simp only [takeVote, hs, hp, hr]

end Ballot

section Vote

variable {s : State} {h : HostId} {f : FrameHdr} {tag : Tag} {n : Seq} {y : Bool}
  (harr : RequestArrives s h f tag) (hport : s.port h = .attached)
include harr hport

theorem exec_vote : exec (.vote h f tag n y) s =
    .next (takeVote h tag n y (s.setHost h (sideTaken s h f tag .vote))) := by
  simp only [exec, execVote]
  rw [request_attached .vote _ harr hport]

/-- R114: a VOTE that fails a check is answered, and that is all. -/
theorem exec_vote_refused {p : Proposal} {st : Status} (hs : s.agree.state = .ballot)
    (hp : s.agree.proposal = some p) (hr : voteRefusal h n p = some st) :
    exec (.vote h f tag n y) s =
      .next (s.setHost h (sideAnswered s h f [plain tag .vote st])) := by
  rw [exec_vote harr hport, takeVote_refused h tag y (by exact hs) (by exact hp) hr,
    answerStatus_taken .vote st harr]

/-- R115: a VOTE that passes its checks is answered OK first. -/
theorem exec_vote_passes {p : Proposal} (hs : s.agree.state = .ballot)
    (hp : s.agree.proposal = some p) (hr : voteRefusal h n p = none) :
    exec (.vote h f tag n y) s = .next (castVote h tag y p (s.setHost h (sideTaken s h f tag .vote))) := by
  rw [exec_vote harr hport, takeVote_passes h tag y (by exact hs) (by exact hp) hr]

end Vote

/-! ## A VOTE that acts (R115) -/

/-- R115: the ballot goes on where an elector is still to accept. -/
theorem judgeBallot_open {s : State} {p : Proposal} (hp : s.agree.proposal = some p)
    (hne : p.accepted ≠ p.electorate) : judgeBallot s = s := by
  simp only [judgeBallot, hp, if_neg hne]

/-- R155: the attached set is that of the ports. -/
theorem inSet_of_ports {s t : State} (h : PortsKept s t) (g : HostId) : inSet t g = inSet s g := by
  rw [inSet, inSet, h g]

/-- R129: a REJECT is answered to its host, and the resolution is queued behind the answer. -/
theorem abandoned_setHost (s : State) (p : Proposal) (r : AbandonReason) {h : HostId} {x : HostSide}
    (hx : x.port = s.port h) (g : HostId) : (abandoned (s.setHost h x) p r).host g =
      sideResolved s p.number (.abandoned r) s.agree.epoch g (if g = h then x else s.host g) := by
  have hside : (s.setHost h x).host g = if g = h then x else s.host g := PerHost.get_set s.hosts g h x
  rw [abandoned_host, hside, sideResolved, sideResolved, inSet_of_ports (portsKept_setHost hx),
    State.setHost_agree]

/-- Settles O46: a VOTE that fails a check is answered and no more; an ACCEPT is counted; a REJECT and the
ballot deadline abandon the proposal, for which no reason is in the gate. -/
theorem votesAndBallotDeadline : Obligations.VotesAndBallotDeadline := by
  refine fun s => ⟨fun h f tag n y harr hport => ⟨fun hn => ?_, fun p hs hp => ⟨fun hn => ?_,
    fun hn he => ?_, fun hn he ha => ?_, fun hn he ha => ?_⟩⟩, fun p hs hp hd hg => ?_⟩
  · rw [exec_vote harr hport, takeVote_noBallot h tag n y (by exact hn),
      answerStatus_taken .vote .noBallot harr]
  · exact exec_vote_refused harr hport hs hp (by simp [voteRefusal, hn])
  · exact exec_vote_refused harr hport hs hp (by simp [voteRefusal, hn, he])
  · exact exec_vote_refused harr hport hs hp (by simp [voteRefusal, hn, he, ha])
  · have hpasses := exec_vote_passes (y := y) harr hport hs hp
      ((voteRefusal_none_iff h n p).mpr ⟨hn, he, ha⟩)
    rw [castVote, answerStatus_taken .vote .ok harr] at hpasses
    refine ⟨fun hy hopen => ?_, fun hy hg => ?_⟩
    · rw [hpasses, if_pos hy]
      exact congrArg _ (judgeBallot_open rfl hopen)
    · rw [if_neg (by simp [hy]), abandon_ballot _ (by exact hp) (by exact hg)] at hpasses
      have hside := abandoned_setHost s p (.rejected h) (h := h)
        (x := sideAnswered s h f [plain tag .vote .ok]) rfl
      refine ⟨_, hpasses, (changesOnly_setHost s h _).trans' (changesOnly_abandoned _ p _) (by decide)
        (by decide), rfl, ?_, fun g hne => ?_⟩
      · rw [hside, if_pos rfl]
      · rw [hside, if_neg hne]
  · have hexpired : s.ballotExpired = true := by simp [State.ballotExpired, hs, hp, hd]
    have hexec : exec .ballotDeadlineExpiry s = .next (abandon .timeout s) := if_pos hexpired
    rw [abandon_ballot _ hp hg] at hexec
    exact ⟨_, hexec, changesOnly_abandoned s p _, rfl, abandoned_host s p .timeout⟩

end Sys2Proof.Agreements
end

section
/-! PROOFS. PROPOSE (R112, R113, R116, R117, O45): its checks, the ballot that begins, and the ballot of an
empty electorate, which is won in the event that makes it. -/

namespace Sys2Proof.Agreements

open Sys2Proof Sys2Proof.Machine Sys2Proof.Safety Sys2Proof.Leases Sys2Proof.Configuration
  Sys2Proof.Refresh

/-! ## The items (R107, R112) -/

/-- R112: the first item that is not valid is named by its position. -/
theorem parseItems_error {l : List RawItem} {n : Nat} {x : RawItem} (hx : l[n]? = some x)
    (hbad : parseItem x = none)
    (hgood : ∀ m y, m < n → l[m]? = some y → parseItem y ≠ none) (k : Nat) :
    parseItems k l = .error (k + n) := by
  induction l generalizing n k with
  | nil => simp at hx
  | cons y l ih =>
    cases n with
    | zero =>
      cases hx
      simp [parseItems, hbad]
    | succ n =>
      obtain ⟨i, hi⟩ := Option.ne_none_iff_exists'.mp (hgood 0 y (Nat.zero_lt_succ n) rfl)
      have hrest := ih hx (fun m z hm hz => hgood (m + 1) z (Nat.succ_lt_succ hm) hz) (k + 1)
      simp only [parseItems, hi, hrest]
      congr 1
      omega

theorem parseItems_ok {l : List RawItem} {is : List ChangeItem}
    (h : l.map parseItem = is.map some) (k : Nat) : parseItems k l = .ok is := by
  induction l generalizing is k with
  | nil =>
    cases is with
    | nil => rfl
    | cons i is => cases h
  | cons x l ih =>
    cases is with
    | nil => cases h
    | cons i is =>
      obtain ⟨hi, hrest⟩ := List.cons.inj h
      simp only [parseItems, hi, ih hrest]

/-! ## The checks of a PROPOSE (R112) -/

section Checks

variable {s : State} {h : HostId} {f : FrameHdr} {tag : Tag} {base : BitVec 16}
  {items : List RawItem} (harr : RequestArrives s h f tag) (hport : s.port h = .attached)
  (hlen : 1 ≤ items.length ∧ items.length ≤ 16)
include harr hport hlen

theorem exec_propose : exec (.propose h f tag base items) s =
    .next (takePropose h tag base items (s.setHost h (sideTaken s h f tag .propose))) := by
  simp only [exec, execPropose, if_pos hlen]
  rw [request_attached .propose _ harr hport]

theorem exec_propose_parked (hpark : s.standby.park.get h = true) :
    exec (.propose h f tag base items) s =
      .next (s.setHost h (sideAnswered s h f [plain tag .propose .parked])) := by
  rw [exec_propose harr hport hlen, takePropose, if_pos (by exact hpark),
    answerStatus_taken .propose .parked harr]

theorem exec_propose_busy (hpark : s.standby.park.get h = false) (hs : s.agree.state ≠ .idle) :
    exec (.propose h f tag base items) s =
      .next (s.setHost h (sideAnswered s h f [plain tag .propose .busy])) := by
  rw [exec_propose harr hport hlen, takePropose, if_neg (by simp [hpark]), if_pos (by exact hs),
    answerStatus_taken .propose .busy harr]

variable (hpark : s.standby.park.get h = false) (hs : s.agree.state = .idle)
include hpark hs

theorem exec_propose_stale (hb : base ≠ s.agree.epoch) :
    exec (.propose h f tag base items) s =
      .next (s.setHost h (sideAnswered s h f [plain tag .propose .stale])) := by
  rw [exec_propose harr hport hlen, takePropose, if_neg (by simp [hpark]), if_neg (by simp [hs]),
    if_pos (by exact hb), answerStatus_taken .propose .stale harr]

variable (hb : base = s.agree.epoch)
include hb

/-- R112: past the first three checks the items decide. -/
theorem exec_propose_reads : exec (.propose h f tag base items) s =
    .next (match parseItems 0 items with
      | .error n => s.setHost h (sideAnswered s h f [⟨tag, .propose, .invalid, .position n⟩])
      | .ok l => postProposal h tag l (s.setHost h (sideTaken s h f tag .propose))) := by
  rw [exec_propose harr hport hlen, takePropose, if_neg (by simp [hpark]), if_neg (by simp [hs]),
    if_neg (by simp [hb])]
  cases parseItems 0 items with
  | error n => exact congrArg _ (answer_taken .propose .invalid (.position n) harr)
  | ok l => rfl

end Checks

/-! ## The proposal record (R113) -/

theorem attachedSet_of_ports {s t : State} (h : PortsKept s t) : t.attachedSet = s.attachedSet :=
  PerHost.ext_get fun g => by rw [attachedSet_get, attachedSet_get, inSet_of_ports h]

theorem newProposal_of_ports {s : State} {h : HostId} {x : HostSide} (hx : x.port = s.port h)
    (l : List ChangeItem) : newProposal h l (s.setHost h x) = newProposal h l s := by
  simp only [newProposal, attachedSet_of_ports (portsKept_setHost hx)]
  rfl

/-- R113: while another host is attached, the ballot has a deadline. -/
theorem newProposal_ballot {s : State} {h : HostId} (l : List ChangeItem)
    (ho : ∃ g, g ≠ h ∧ s.port g = .attached) : newProposal h l s =
      { number := s.agree.counter + 1#8, proposer := h, items := l, heavy := l.any ChangeItem.heavy
        electorate := PerHost.of fun g => inSet s g && decide (g ≠ h)
        accepted := PerHost.const false
        ballotDeadline := some (s.now + s.agree.live.ballotTimeout.toNat * 1000000)
        drainDeadline := none, outcome := none } := by
  have he : (newProposal h l s).electorate = PerHost.of fun g => inSet s g && decide (g ≠ h) :=
    PerHost.ext_get fun g => by rw [newProposal_electorate, PerHost.get_of]
  obtain ⟨g, hg, hatt⟩ := ho
  have hne : HostSet.isEmpty (s.attachedSet.without h) = false := by
    refine decide_eq_false fun hempty => ?_
    have hin := newProposal_electorate h l s g
    rw [show (newProposal h l s).electorate = PerHost.const false from hempty] at hin
    simp [inSet, hatt, hg] at hin
  rw [← he]
  simp only [newProposal, hne, Bool.false_eq_true, if_false]
  rfl

/-- R113: with no other host attached the electorate is empty, and no deadline is set. -/
theorem newProposal_alone {s : State} {h : HostId} (l : List ChangeItem)
    (ho : ∀ g, g ≠ h → s.port g ≠ .attached) : newProposal h l s =
      { number := s.agree.counter + 1#8, proposer := h, items := l, heavy := l.any ChangeItem.heavy
        electorate := PerHost.const false, accepted := PerHost.const false
        ballotDeadline := none, drainDeadline := none, outcome := none } := by
  have he : s.attachedSet.without h = PerHost.const false := PerHost.ext_get fun g => by
    refine (newProposal_electorate h l s g).trans ?_
    by_cases hg : g = h
    · simp [hg]
    · simp [inSet, ho g hg]
  simp [newProposal, he, HostSet.isEmpty]

/-! ## A PROPOSE that is taken (R113) -/

/-- R113: the state with a PROPOSE answered and its record made, nothing yet told. -/
def proposed (s : State) (h : HostId) (f : FrameHdr) (tag : Tag) (l : List ChangeItem) : State :=
  (s.setHost h (sideAnswered s h f
    [⟨tag, .propose, .ok, .number (s.agree.counter + 1#8)⟩])).setAgree (postedUnit s h l)

theorem posted_taken {s : State} {h : HostId} {f : FrameHdr} {tag : Tag} (l : List ChangeItem)
    (harr : RequestArrives s h f tag) :
    posted h tag l (s.setHost h (sideTaken s h f tag .propose)) =
      notifySet (newProposal h l s).electorate
        (.proposalPosted (s.agree.counter + 1#8) h l.length (l.any ChangeItem.heavy))
        (proposed s h f tag l) := by
  have hnew := newProposal_of_ports (s := s) (x := sideTaken s h f tag .propose) rfl l
  have hans := answer_taken (s := s.setAgree (postedUnit s h l)) .propose .ok
    (.number (s.agree.counter + 1#8)) harr
  have hunit : postedUnit (s.setHost h (sideTaken s h f tag .propose)) h l = postedUnit s h l := by
    rw [postedUnit, hnew]
    rfl
  simp only [posted, hnew, hunit]
  exact congrArg _ hans

end Sys2Proof.Agreements
end

section
/-! PROOFS. A ballot that is won in the event that answers a request: what it leaves of a state in which one
host's side and the unit have been replaced (R116, R117, R125), and PROPOSE as a whole (O45). -/

namespace Sys2Proof.Agreements

open Sys2Proof Sys2Proof.Machine Sys2Proof.Safety Sys2Proof.Leases Sys2Proof.Configuration
  Sys2Proof.Refresh

/-! ## A light proposal (R116) -/

/-- R116: the staged record is live and the proposal resolved, the account still to be judged. -/
def appliedLight (s : State) (p : Proposal) : State :=
  (notifyAttached (.proposalResolved p.number .applied (s.agree.epoch + 1#16)) s).setAgree
    (appliedUnit s.agree)

theorem applyLight_eq {s : State} {p : Proposal} (hp : s.agree.proposal = some p) :
    applyLight s = judgeAccount (appliedLight s p) :=
  congrArg judgeAccount (resolveProposal_some (s := makeLive s) .applied hp)

theorem appliedLight_host (s : State) (p : Proposal) (g : HostId) : (appliedLight s p).host g =
    sideResolved s p.number .applied (s.agree.epoch + 1#16) g (s.host g) := by
  rw [appliedLight, State.setAgree_host, notifyAttached_host, sideResolved]

theorem changesOnly_appliedLight (s : State) (p : Proposal) :
    ChangesOnly [.agree, .hosts] s (appliedLight s p) :=
  (changesOnly_notifyEach _ s).trans' (changesOnly_setAgree _ _) (by decide) (by decide)

/-! ## A heavy proposal (R117) -/

section Drain

variable {s v t : State} {p : Proposal} (hv : ChangesOnly [.agree, .hosts] s v)
  (hports : PortsKept s v) (hnotes : ∀ g, (v.host g).notes = (s.host g).notes)
include hv

theorem changesOnly_draining : ChangesOnly [.gate, .agree, .hosts] s (draining p v) :=
  ((hv.trans' (changesOnly_setGate _ _) (by decide) (by decide)).trans
    ((changesOnly_notifyEach _ _).mono (by decide))).trans
      ((changesOnly_setAgree _ _).mono (by decide))

include hports hnotes

/-- R117: every holding host is asked to close. -/
theorem draining_asked : AskedToClose .config s (draining p v) := by
  have hbanks : v.banks = s.banks := hv .banks (by decide)
  intro g
  obtain ⟨set, hset, hasked⟩ := askToClose_asked .config (addReason .config v) g
  refine ⟨set, fun b => (hset b).trans ?_, ?_⟩
  · simp only [State.holds, State.bank, addReason, State.setGate_banks, hbanks]
  · rw [draining, State.setAgree_host, hasked]
    exact sideNotified_notes_congr (x := v.host g) _ _ (hports g) (hnotes g)

/-- R117, R125: what a drain that begins leaves, whether its apply begins at once or not. -/
theorem drained_spec (ht : ChangesOnly [.agree, .chan, .seq] (draining p v) t) :
    ChangesOnly [.gate, .agree, .hosts, .chan, .seq] s t ∧
      t.gate = { s.gate with config := true } ∧ AskedToClose .config s t ∧
      ∀ g, t.host g = { v.host g with notes := (t.host g).notes } := by
  have hgate : t.gate = (draining p v).gate := ht .gate (by decide)
  have hvgate : v.gate = s.gate := hv .gate (by decide)
  have hhosts : t.hosts = (draining p v).hosts := ht .hosts (by decide)
  have hhost : ∀ g, t.host g = (draining p v).host g := fun g => by
    simp only [State.host, hhosts]
  refine ⟨(changesOnly_draining hv).trans' ht (by decide) (by decide), ?_, fun g => ?_, fun g => ?_⟩
  · rw [hgate, ← hvgate]
    rfl
  · rw [hhost]
    exact draining_asked hv hports hnotes g
  · rw [hhost]
    exact askToClose_notes .config (addReason .config v) g

end Drain

/-! ## The ballot of a PROPOSE (R113, R116, R117) -/

section Proposed

variable {s : State} {h : HostId} {f : FrameHdr} {tag : Tag} {l : List ChangeItem}

theorem proposed_host (g : HostId) : (proposed s h f tag l).host g =
    if g = h then sideAnswered s h f [⟨tag, .propose, .ok, .number (s.agree.counter + 1#8)⟩]
      else s.host g := PerHost.get_set s.hosts g h _

theorem portsKept_proposed : PortsKept s (proposed s h f tag l) :=
  .after (fun _ => rfl) (portsKept_setHost rfl)

theorem proposed_notes (g : HostId) :
    ((proposed s h f tag l).host g).notes = (s.host g).notes := by
  rw [proposed_host]
  split
  next hg => exact hg ▸ rfl
  · rfl

theorem changesOnly_proposed : ChangesOnly [.agree, .hosts] s (proposed s h f tag l) :=
  (changesOnly_setHost s h _).trans' (changesOnly_setAgree _ _) (by decide) (by decide)

/-- R113, R117: what the drain of a won ballot leaves, whether its apply begins at once or not. -/
theorem proposed_drained {p : Proposal} {t : State}
    (ht : ChangesOnly [.agree, .chan, .seq] (draining p (proposed s h f tag l)) t) :
    ChangesOnly [.gate, .agree, .hosts, .chan, .seq] s t ∧
      t.gate = { s.gate with config := true } ∧ AskedToClose .config s t ∧
      t.host h = { sideAnswered s h f [⟨tag, .propose, .ok, .number (s.agree.counter + 1#8)⟩] with
        notes := (t.host h).notes } ∧
      ∀ g, g ≠ h → t.host g = { s.host g with notes := (t.host g).notes } := by
  obtain ⟨hch, hgate, hasked, hsides⟩ :=
    drained_spec changesOnly_proposed portsKept_proposed proposed_notes ht
  refine ⟨hch, hgate, hasked, ?_, fun g hg => ?_⟩
  · have hside := hsides h
    rw [proposed_host, if_pos rfl] at hside
    exact hside
  · have hside := hsides g
    rw [proposed_host, if_neg hg] at hside
    exact hside

/-- A ballot that is won changes no bank: what is to be drained was held before. -/
theorem proposed_allClosed (p : Proposal) :
    (draining p (proposed s h f tag l)).allClosed = s.allClosed := rfl

theorem proposed_proposal : (proposed s h f tag l).agree.proposal = some (newProposal h l s) := rfl

/-- R113: with an empty electorate nobody is told of the proposal. -/
theorem notifySet_nobody (n : Notification) (s : State) : notifySet (PerHost.const false) n s = s := by
  have hhosts : (notifySet (PerHost.const false) n s).hosts = s.hosts :=
    State.hosts_ext fun g => by rw [notifySet_host, PerHost.get_const, sideNotified_false]
  rw [notifySet_changes, hhosts]

variable {base : BitVec 16} {items : List RawItem} (harr : RequestArrives s h f tag)
  (hport : s.port h = .attached) (hlen : 1 ≤ items.length ∧ items.length ≤ 16)
  (hpark : s.standby.park.get h = false) (hs : s.agree.state = .idle) (hb : base = s.agree.epoch)
  (hitems : items.map parseItem = l.map some)
include harr hport hlen hpark hs hb hitems

theorem exec_propose_taken : exec (.propose h f tag base items) s =
    .next (judgeBallot (notifySet (newProposal h l s).electorate
      (.proposalPosted (s.agree.counter + 1#8) h l.length (l.any ChangeItem.heavy))
      (proposed s h f tag l))) := by
  rw [exec_propose_reads harr hport hlen hpark hs hb, parseItems_ok hitems, ← posted_taken l harr]
  rfl

/-- R113: while another host is attached, the ballot begins. -/
theorem exec_propose_posts (ho : ∃ g, g ≠ h ∧ s.port g = .attached) :
    exec (.propose h f tag base items) s =
      .next (notifySet (newProposal h l s).electorate
        (.proposalPosted (s.agree.counter + 1#8) h l.length (l.any ChangeItem.heavy))
        (proposed s h f tag l)) := by
  have hopen : (newProposal h l s).accepted ≠ (newProposal h l s).electorate := by
    obtain ⟨g, hg, hatt⟩ := ho
    intro e
    have hin := newProposal_electorate h l s g
    rw [← e] at hin
    simp [newProposal, inSet, hatt, hg] at hin
  rw [exec_propose_taken harr hport hlen hpark hs hb hitems]
  exact congrArg _ (judgeBallot_open (p := newProposal h l s) rfl hopen)

/-- R113, R116, R117: with an empty electorate the ballot is won at once. -/
theorem exec_propose_wins (ho : ∀ g, g ≠ h → s.port g ≠ .attached) :
    exec (.propose h f tag base items) s =
      .next (if l.any ChangeItem.heavy then startDrain (proposed s h f tag l)
        else applyLight (proposed s h f tag l)) := by
  have halone := newProposal_alone l ho
  have hnobody : (newProposal h l s).electorate = PerHost.const false := by rw [halone]
  have hwon : (newProposal h l s).accepted = (newProposal h l s).electorate := by rw [halone]
  rw [exec_propose_taken harr hport hlen hpark hs hb hitems, hnobody, notifySet_nobody]
  simp only [judgeBallot, ballotWon, proposed_proposal, if_pos hwon]
  rfl

end Proposed

/-- Settles O45: a PROPOSE that fails a check is answered; one that is taken begins its ballot, which an
empty electorate wins at once, so that a light proposal is applied and a heavy one drains or begins its
apply. -/
theorem proposeIsRefusedOrPosted : Obligations.ProposeIsRefusedOrPosted := by
  intro s h f tag base items harr hport hmin hmax
  have hlen := And.intro hmin hmax
  refine ⟨exec_propose_parked harr hport hlen, exec_propose_busy harr hport hlen,
    fun hpark hs => ⟨exec_propose_stale harr hport hlen hpark hs, fun hb =>
      ⟨fun n x hx hbad hgood => ?_, fun l number hitems hnumber => ⟨fun ho => ?_, ?_⟩⟩⟩⟩
  · rw [exec_propose_reads harr hport hlen hpark hs hb, parseItems_error hx hbad hgood, Nat.zero_add]
  · subst hnumber
    refine ⟨_, exec_propose_posts harr hport hlen hpark hs hb hitems ho, changesOnly_proposed.trans
      ((changesOnly_notifyEach _ _).mono (by decide)), ?_, ?_, fun g hg => ?_⟩
    · rw [← newProposal_ballot l ho]
      rfl
    · rw [notifySet_host, newProposal_electorate, proposed_host, if_pos rfl]
      simp
    · rw [notifySet_host, newProposal_electorate, proposed_host, if_neg hg]
      simp [hg]
  · subst hnumber
    intro ho a p ha hp
    have hexec := exec_propose_wins harr hport hlen hpark hs hb hitems ho
    have hany : l.any ChangeItem.heavy = p.heavy := by rw [hp]
    rw [hany] at hexec
    refine ⟨fun hlight hcalm => ?_, fun hheavy => ?_⟩
    · rw [hlight, if_neg Bool.false_ne_true, applyLight_eq proposed_proposal,
        judgeAccount_calm (by rw [ha] at hcalm; exact hcalm)] at hexec
      refine ⟨_, hexec, changesOnly_proposed.trans (changesOnly_appliedLight _ _), fun g hg => ?_,
        by rw [ha]; rfl, ?_⟩
      · rw [appliedLight_host, sideResolved, inSet_of_ports portsKept_proposed, proposed_host,
          if_neg hg]
        simp [inSet, ho g hg]
      · rw [appliedLight_host, sideResolved, inSet_of_ports portsKept_proposed, proposed_host,
          if_pos rfl]
        rfl
    · have hnew := newProposal_alone l ho
      rw [hheavy, if_pos rfl, startDrain_eq proposed_proposal, proposed_allClosed,
        hnew] at hexec
      by_cases hclosed : s.allClosed = true
      · rw [if_pos hclosed] at hexec
        obtain ⟨hch, hgate, hasked, hside, hsides⟩ := proposed_drained (changesOnly_beginApply _)
        refine ⟨_, hexec, hch, hgate, hasked, hside, hsides,
          fun ⟨b, hb⟩ => absurd ((allClosed_iff s).mp hclosed b) hb, fun _ => ?_⟩
        rw [ha, hp]
        exact beginApply_begun (s := draining _ (proposed s h f tag l)) rfl
      · rw [if_neg hclosed] at hexec
        obtain ⟨hch, hgate, hasked, hside, hsides⟩ := proposed_drained (ChangesOnly.refl _ _)
        exact ⟨_, hexec, hch, hgate, hasked, hside, hsides, fun _ => ⟨rfl, rfl, by rw [ha, hp]; rfl⟩,
          fun hb => absurd ((allClosed_iff s).mpr hb) hclosed⟩

end Sys2Proof.Agreements
end

section
/-! PROOFS. What answers and notifications leave of a host's side (R157, R165), and the operations that
do no more to any side than answer and notify (`Told`): those of the lease table, the transfer engine and
the units. -/

namespace Sys2Proof.Ports

open Sys2Proof Sys2Proof.Machine Sys2Proof.Safety Sys2Proof.Leases Sys2Proof.Configuration
  Sys2Proof.Maintenance

/-- R157, R165: a host's side after answers and notifications to it. -/
inductive ToldSide (p : HostSide) : HostSide → Prop
  | same : ToldSide p p
  | answered {q : HostSide} (tag : Tag) (st : Status) (x : Payload) (h : ToldSide p q) :
      ToldSide p (answeredSide tag st x q)
  | notified {q : HostSide} (n : Notification) (h : ToldSide p q) :
      ToldSide p (sideNotified true n q)

namespace ToldSide

variable {p q r : HostSide}

theorem trans (h : ToldSide p q) (k : ToldSide q r) : ToldSide p r := by
  induction k with
  | same => exact h
  | answered tag st x _ ih => exact ih.answered tag st x
  | notified n _ ih => exact ih.notified n

theorem port (h : ToldSide p q) : q.port = p.port := by
  induction h with
  | same => rfl
  | answered tag st x _ ih => exact (answeredSide_port tag st x _).trans ih
  | notified n _ ih => exact (sideNotified_port true n _).trans ih

/-- Of the link, an answer moves the send queue alone, and a notification nothing. -/
theorem link (h : ToldSide p q) : q.link = { p.link with sendQueue := q.link.sendQueue } := by
  induction h with
  | same => rfl
  | @answered q tag st x _ ih =>
    unfold answeredSide
    split
    · exact ih
    · rw [sideAnswers, ih]
  | notified n _ ih => rwa [sideNotified_link]

theorem link_state (h : ToldSide p q) : q.link.state = p.link.state := by rw [h.link]

end ToldSide

/-- A step that does no more to the hosts' sides than answer and notify, and leaves the park set. -/
structure Told (s t : State) : Prop where
  side : ∀ g, ToldSide (s.host g) (t.host g)
  park : t.standby.park = s.standby.park

namespace Told

variable {s t u : State}

theorem trans (h : Told s t) (k : Told t u) : Told s u :=
  ⟨fun g => (h.side g).trans (k.side g), k.park.trans h.park⟩

/-- An update of parts other than the hosts' sides and the park set. -/
theorem rest (h : (t.hosts, t.standby.park) = (s.hosts, s.standby.park)) : Told s t := by
  obtain ⟨hhosts, hpark⟩ := Prod.mk.inj h
  exact ⟨fun g => by rw [State.host, State.host, hhosts]; exact .same, hpark⟩

theorem refl (s : State) : Told s s := rest rfl

theorem after (k : Told t u) (h : Told s t) : Told s u := h.trans k

/-- An operation that follows such an update. -/
theorem behind (k : Told t u) (h : (t.hosts, t.standby.park) = (s.hosts, s.standby.park)) :
    Told s u := k.after (rest h)

theorem ite {p : Prop} [Decidable p] (ht : Told s t) (hu : Told s u) :
    Told s (if p then t else u) := by
  split
  · exact ht
  · exact hu

theorem foldl {ι : Type} {f : State → ι → State} (hf : ∀ s i, Told s (f s i)) (l : List ι)
    (s : State) : Told s (l.foldl f s) :=
  foldl_rel refl (fun _ _ _ => trans) hf l s

end Told

/-! ## Answers and notifications -/

theorem told_setHost {s : State} {h : HostId} {x : HostSide} (hx : ToldSide (s.host h) x) :
    Told s (s.setHost h x) := by
  refine ⟨fun g => ?_, rfl⟩
  by_cases hg : g = h
  · subst hg
    rwa [State.setHost_host_same]
  · rw [State.setHost_host_other s x hg]
    exact .same

theorem told_answer (h : HostId) (tag : Tag) (st : Status) (p : Payload) (s : State) :
    Told s (answer h tag st p s) := by
  rw [answer_eq]
  exact told_setHost (.answered tag st p .same)

theorem told_answerStatus (h : HostId) (tag : Tag) (st : Status) (s : State) :
    Told s (answerStatus h tag st s) := told_answer h tag st .none s

theorem told_answerOpt (h : HostId) (tag : Option Tag) (st : Status) (s : State) :
    Told s (answerOpt h tag st s) := by
  cases tag with
  | none => exact .refl s
  | some tag => exact told_answerStatus h tag st s

theorem told_notify (h : HostId) (n : Notification) (s : State) : Told s (notify h n s) := by
  rw [notify_eq]
  exact told_setHost (.notified n .same)

theorem told_notifyEach (f : HostId → Option Notification) (s : State) :
    Told s (notifyEach f s) := by
  refine ⟨fun g => ?_, rfl⟩
  rw [notifyEach_host]
  cases f g with
  | none => exact .same
  | some n => exact .notified n .same

theorem told_notifySet (l : HostSet) (n : Notification) (s : State) :
    Told s (notifySet l n s) := told_notifyEach _ s

theorem told_notifyAttached (n : Notification) (s : State) :
    Told s (notifyAttached n s) := told_notifyEach _ s

/-! ## Holders and waiters (chapter 1) -/

theorem told_removeHolder (b : Bank) (h : HostId) (s : State) : Told s (removeHolder b h s) :=
  .ite (.rest rfl) (.rest rfl)

theorem told_withdrawWaiter (b : Bank) (h : HostId) (st : Status) (s : State) :
    Told s (withdrawWaiter b h st s) := by
  unfold withdrawWaiter
  split
  · exact .refl s
  · exact .behind (told_answerStatus _ _ _ _) rfl

theorem told_finishHolder (b : Bank) (h : HostId) (s : State) : Told s (finishHolder b h s) := by
  have hr := told_removeHolder b h s
  unfold finishHolder
  split
  · exact .refl s
  · refine .ite ?_ (.refl s)
    split
    · exact .refl s
    · exact hr.trans (told_answerOpt _ _ _ _)
    · exact hr
    · exact (hr.trans (told_notify _ _ _)).trans (told_answerOpt _ _ _ _)

theorem told_closeHolder (b : Bank) (h : HostId) (tag : Option Tag) (s : State) :
    Told s (closeHolder b h tag s) := by
  unfold closeHolder
  split
  · exact .refl s
  · exact .behind (told_finishHolder b h _) rfl

theorem told_withdrawAndClose (h : HostId) (s : State) : Told s (withdrawAndClose h s) := by
  refine .foldl (fun u b => ?_) allBanks s
  have hw := told_withdrawWaiter b h .withdrawn u
  dsimp only
  split
  · exact hw
  · exact .ite (hw.trans (told_closeHolder b h none _)) hw

theorem told_cancelUnbegun (b : Bank) (h : HostId) (s : State) : Told s (cancelUnbegun b h s) :=
  .behind (.foldl (fun u (e : Transfer) => told_answerStatus h e.tag .revoked u) _ _) rfl

theorem told_revoke (b : Bank) (h : HostId) (r : RevokeReason) (s : State) :
    Told s (revoke b h r s) := by
  have hfin := fun u => told_finishHolder b h u
  unfold revoke
  split
  · exact .refl s
  · split
    · exact .behind (hfin _) rfl
    · exact .refl s
    · exact .after (hfin _) (.behind (told_cancelUnbegun b h _) rfl)

theorem told_settleHolder (b : Bank) (h : HostId) (s : State) : Told s (settleHolder b h s) := by
  have hset : ∀ x st tag, Told s (answerStatus h tag st (setHolder b h x s)) :=
    fun x st tag => .behind (told_answerStatus _ _ _ _) rfl
  have hr := told_removeHolder b h s
  unfold settleHolder
  split
  · exact .refl s
  · split
    · exact hset _ _ _
    · exact (hset _ _ _).trans (told_finishHolder b h _)
    · exact hr
    · exact (hr.trans (told_answerStatus _ _ _ _)).trans (told_answerOpt _ _ _ _)

theorem told_landActivate (b : Bank) (row : Row) (s : State) : Told s (landActivate b row s) :=
  .behind (.foldl (fun u (x : Holder) => told_settleHolder b x.host u) _ _) rfl

theorem told_serveBank (b : Bank) (s : State) : Told s (serveBank b s) := by
  refine .ite ?_ (.refl s)
  split
  · exact .refl s
  · exact .rest rfl

theorem told_landPrecharge (b : Bank) (s : State) : Told s (landPrecharge b s) :=
  .behind (told_serveBank b _) rfl

theorem told_recheckWaiters (s : State) : Told s (recheckWaiters s) :=
  .foldl (fun u b => .foldl (fun v (w : Waiter) =>
    .ite (told_withdrawWaiter b w.host .noRight v) (.refl v)) _ u) allBanks s

/-! ## The transfer engine (chapter 3) -/

theorem told_checkTransfer (q : TransferReq) (s : State) : Told s (checkTransfer q s) := by
  unfold checkTransfer
  split
  · exact told_answerStatus _ _ _ s
  · split
    · exact told_answerStatus _ _ _ s
    · exact .rest rfl

theorem told_takeIntake (s : State) : Told s (takeIntake s) := by
  refine .foldl (fun u _ => .ite ?_ (.refl u)) _ s
  split
  · exact .refl u
  · exact .behind (told_checkTransfer _ _) rfl

theorem told_revokeOverstayed (b : Bank) (s : State) : Told s (revokeOverstayed b s) :=
  .ite (.refl s) (.after (told_takeIntake _)
    (.foldl (fun u (x : Holder) => told_revoke b x.host .holdExpired u) _ _))

theorem told_massRevoke (r : RevokeReason) (s : State) : Told s (massRevoke r s) :=
  .after (told_takeIntake _)
    (.foldl (fun u b => .foldl (fun v (x : Holder) => told_revoke b x.host r v) _ u) allBanks s)

theorem told_tearDown (h : HostId) (s : State) : Told s (tearDown h s) :=
  .behind (.foldl (fun u b => .trans (t := dropWaiter b h u) (.ite (.rest rfl) (.refl u))
    (told_revoke b h .hostLost _)) allBanks _) rfl

theorem told_retireEntry (i : Nat) (e : Transfer) (s : State) : Told s (retireEntry i e s) := by
  have hend : ∀ u, Told s u → Told s (takeIntake (finishHolder e.bank e.host u)) :=
    fun u hu => (hu.trans (told_finishHolder _ _ u)).trans (told_takeIntake _)
  refine hend _ ?_
  split
  · exact .ite (.rest rfl) (.behind (told_answer _ _ _ _ _) rfl)
  · exact .rest rfl

theorem told_completeBurst (b : Bank) (s : State) : Told s (completeBurst b s) := by
  have hcount : ∀ i u, Told u (countBurst i u) := by
    intro i u
    unfold countBurst
    split
    · exact .refl u
    · exact .ite (told_retireEntry _ _ u) (.rest rfl)
  unfold completeBurst
  dsimp only
  split
  · exact .rest rfl
  · exact .behind (hcount _ _) rfl

theorem told_issueBurst (i : Nat) (s : State) : Told s (issueBurst i s) := by
  unfold issueBurst
  split
  · exact .refl s
  · dsimp only
    split
    · exact .rest rfl
    · split
      · exact .behind (told_answerStatus _ _ _ _) rfl
      · exact .rest rfl

theorem told_issueActivate (b : Bank) (s : State) : Told s (issueActivate b s) := by
  unfold issueActivate
  split <;> exact .rest rfl

/-! ## Requests to the lease table and the transfer engine -/

theorem told_takeOpen (h : HostId) (tag : Tag) (bank : Byte) (row : BitVec 16) (mode : LeaseMode)
    (wait : BitVec 16) (s : State) : Told s (takeOpen h tag bank row mode wait s) := by
  have hans := fun st => told_answerStatus h tag st s
  have hjoin : ∀ b, Told s (joinBank h tag b s) := fun b =>
    .ite (.behind (told_answerStatus _ _ _ _) rfl) (.rest rfl)
  unfold takeOpen
  split
  · split
    · exact hans _
    · exact .ite (hjoin _) (.ite (.rest rfl) (.behind (told_revokeOverstayed _ _) rfl))
  · exact hans _

theorem told_takeClose (h : HostId) (tag : Tag) (bank : Byte) (s : State) :
    Told s (takeClose h tag bank s) := by
  have hans := fun st => told_answerStatus h tag st s
  unfold takeClose closeAsHolder closeAsWaiter
  split
  · exact hans _
  · split
    · split
      · exact told_closeHolder _ h (some tag) s
      · exact .rest rfl
      · exact hans _
      · exact hans _
    · exact .ite ((told_withdrawWaiter _ h .withdrawn s).trans (told_answerStatus _ _ _ _)) (hans _)

theorem told_transferRequest (q : TransferReq) (s : State) : Told s (transferRequest q s) := by
  have hhand : Told s (handTransfer q s) := .ite (told_checkTransfer q s) (.rest rfl)
  unfold transferRequest
  split
  · exact hhand
  · exact hhand
  all_goals exact told_answerStatus _ _ _ s

theorem told_expireHold (b : Bank) (h : HostId) (x : Holder) (s : State) :
    Told s (expireHold b h x s) :=
  .ite (.behind (told_notify _ _ _) rfl)
    ((told_revoke b h .holdExpired s).trans (told_takeIntake _))

theorem told_takeQueryBank (h : HostId) (tag : Tag) (bank : Byte) (s : State) :
    Told s (takeQueryBank h tag bank s) := by
  unfold takeQueryBank
  split <;> exact told_answer _ _ _ _ s

/-! ## The gate, the account and the sweep (R9, chapters 5 and 10) -/

theorem told_removeReason (r : GateReason) (s : State) : Told s (removeReason r s) :=
  .ite (.behind (.foldl (fun u b => told_serveBank b u) allBanks _) rfl) (.rest rfl)

theorem told_offerStep (s : State) : Told s (offerStep s) := by
  unfold offerStep
  split
  · exact .refl s
  · exact .ite (.rest rfl) (.rest rfl)

theorem told_judgeYield (s : State) : Told s (judgeYield s) :=
  .ite (.refl s) (.ite (.ite (.rest rfl) (.refl s)) (.ite (told_offerStep s) (.refl s)))

theorem told_enterPressed (s : State) : Told s (enterPressed s) :=
  .behind (told_notifyEach _ (addReason .refresh _)) rfl

theorem told_judgeAccount (s : State) : Told s (judgeAccount s) :=
  .after (told_judgeYield _) (.ite (told_enterPressed s) (.refl s))

theorem told_makeAccountOffer (s : State) : Told s (makeAccountOffer s) :=
  .ite (.rest rfl) (.rest rfl)

theorem told_afterAccountOp (s : State) : Told s (afterAccountOp s) := by
  have hoffer := told_makeAccountOffer s
  exact .ite hoffer
    (.ite (.ite hoffer (.behind (told_removeReason _ _) rfl)) (told_removeReason _ s))

/-- R97 to R99: an operation of the account has completed. -/
theorem told_landAccountOp (a : Account) (s : State) :
    Told s (afterAccountOp (judgeAccount ((landMaint .active s).setAccount a))) :=
  .after (told_afterAccountOp _) (.behind (told_judgeAccount _) rfl)

theorem told_expireInterval (s : State) : Told s (expireInterval s) := by
  have hraise : ∀ u, Told u (raiseOwed u) := fun u => by
    have hjudged : Told u
        (judgeAccount (u.setAccount { u.account with owed := u.account.owed + 1 })) :=
      .behind (told_judgeAccount _) rfl
    exact .ite (hjudged.trans (told_massRevoke .refresh _)) hjudged
  exact .ite (.behind (hraise _) rfl) (.behind (told_notifyAttached _ _) rfl)

theorem told_beginAttempt (lane : Lane) (kind : SweepKind) (s : State) :
    Told s (beginAttempt lane kind s) := by
  unfold beginAttempt
  split
  · exact .behind (told_offerStep _) rfl
  · split
    · exact .refl s
    · exact .behind (told_offerStep _) rfl

/-! ## The agreement unit (chapter 6) -/

theorem told_setAgree (a : Agreement) (s : State) : Told s (s.setAgree a) := .rest rfl

theorem told_resolveProposal (o : ProposalOutcome) (s : State) : Told s (resolveProposal o s) := by
  unfold resolveProposal
  split
  · exact .refl s
  · exact (told_notifyAttached _ s).trans (told_setAgree _ _)

theorem told_applyLight (s : State) : Told s (applyLight s) :=
  .after (told_judgeAccount _) (.behind (told_resolveProposal _ _) rfl)

theorem told_abandon (r : AbandonReason) (s : State) : Told s (abandon r s) :=
  .after (told_resolveProposal _ _) (.behind (told_removeReason _ _) rfl)

theorem told_applyBurstOrder (s : State) : Told s (applyBurstOrder s) :=
  .ite (.rest rfl) (.rest rfl)

theorem told_beginApply (s : State) : Told s (beginApply s) := by
  unfold beginApply
  split
  · exact .refl s
  · exact .ite (.behind (told_beginAttempt 0 .retrain _) rfl)
      (.behind (told_applyBurstOrder _) rfl)

theorem told_draining (p : Proposal) (s : State) : Told s (draining p s) :=
  have hask : Told s (askToClose .config (addReason .config s)) :=
    .behind (told_notifyEach _ _) rfl
  hask.trans (told_setAgree _ _)

theorem told_startDrain (s : State) : Told s (startDrain s) := by
  cases hp : s.agree.proposal with
  | none =>
    rw [startDrain, hp]
    exact .refl s
  | some p =>
    rw [startDrain_eq hp]
    exact .ite ((told_draining p s).trans (told_beginApply _)) (told_draining p s)

theorem told_judgeBallot (s : State) : Told s (judgeBallot s) := by
  unfold judgeBallot ballotWon
  split
  · exact .refl s
  · refine .ite ?_ (.refl s)
    split
    · exact .refl s
    · exact .ite (told_startDrain s) (told_applyLight s)

theorem told_detachAgreement (h : HostId) (s : State) : Told s (detachAgreement h s) := by
  unfold detachAgreement
  split
  · exact .ite (told_abandon _ s) (.ite (.behind (told_judgeBallot _) rfl) (.refl s))
  all_goals exact .rest rfl

theorem told_clearDrainDeadline (s : State) : Told s (clearDrainDeadline s) := by
  unfold clearDrainDeadline
  split <;> exact .rest rfl

theorem told_commitProposal (s : State) : Told s (commitProposal s) := by
  have hjudged : Told s (recheckWaiters (stagedLive s)) := .behind (told_recheckWaiters _) rfl
  have hr : Told s (recordTaken s) := hjudged.trans (told_setAgree _ _)
  rw [commitProposal_eq]
  exact ((hr.trans (told_removeReason _ _)).trans (told_resolveProposal _ _)).trans
    (told_judgeAccount _)

theorem told_takePropose (h : HostId) (tag : Tag) (base : BitVec 16) (items : List RawItem)
    (s : State) : Told s (takePropose h tag base items s) := by
  have hans : ∀ st p, Told s (answer h tag st p s) := fun st p => told_answer h tag st p s
  have hpost : ∀ l, Told s (postProposal h tag l s) := fun l =>
    .after (told_judgeBallot _) (.after (told_notifySet _ _ _)
      (.behind (told_answer h tag .ok _ _) rfl))
  refine .ite (hans _ _) (.ite (hans _ _) (.ite (hans _ _) ?_))
  split
  · exact hans _ _
  · exact hpost _

theorem told_takeVote (h : HostId) (tag : Tag) (number : Seq) (accept : Bool) (s : State) :
    Told s (takeVote h tag number accept s) := by
  have hans : ∀ st, Told s (answerStatus h tag st s) := fun st => told_answerStatus h tag st s
  unfold takeVote
  split
  · split
    · exact hans _
    · exact .ite ((hans .ok).trans (.behind (told_judgeBallot _) rfl))
        ((hans _).trans (told_abandon _ _))
  · exact hans _

/-! ## The standby controller and start-up (chapters 7 and 10) -/

theorem told_offerExit (s : State) : Told s (offerExit s) := .ite (.refl s) (.rest rfl)

theorem told_exitCause (s : State) : Told s (exitCause s) := by
  unfold exitCause
  split
  · exact .refl s
  · exact .refl s
  · exact .ite (.behind (told_offerExit _) rfl) (.behind (told_removeReason _ _) rfl)
  · exact told_offerExit s

theorem told_landEnter (s : State) : Told s (landEnter s) := by
  have htold : Told s (notifyAttached .standbyEntered (stopAccount (refreshing s))) :=
    .after (told_notifyAttached _ _) (.behind (told_removeReason _ _) rfl)
  exact .ite (htold.trans (told_offerExit _)) htold

theorem told_landExit (s : State) : Told s (landExit s) := by
  have hrunning : Told s (removeReason .standby
      ((landMaint .active s).setStandby { s.standby with state := .running })) :=
    .behind (told_removeReason _ _) rfl
  have hjudged : ∀ u, Told u (judgeAccount (restartInterval u)) := fun u =>
    .behind (told_judgeAccount _) rfl
  exact (hrunning.trans (hjudged _)).trans (told_notifyAttached _ _)

theorem told_endLock (s : State) : Told s (endLock s) := by
  have hjudged : Told s (judgeAccount (calibrating s)) := .behind (told_judgeAccount _) rfl
  rw [endLock_eq]
  exact .ite (hjudged.trans (told_makeAccountOffer _)) hjudged

theorem told_landModeLoad (m : ModeSetting) (by_ : Requester) (s : State) :
    Told s (landModeLoad m by_ s) := by
  have hload : Told s (loadSetting m (landMaint .active s)) := by cases m <;> exact .rest rfl
  exact .ite (hload.trans (.ite (.rest rfl) (.rest rfl))) (hload.trans (told_setAgree _ _))

end Sys2Proof.Ports
end

section
/-! PROOFS. The laws of the ports (R132, R155), kept by the operations that leave ports, link states and
the park set alone, and by those that move a port or a host of the park set: a link that comes up or goes
DOWN, a JOIN, a LEAVE, a PARK and an UNPARK. -/

namespace Sys2Proof.Ports

open Sys2Proof Sys2Proof.Machine Sys2Proof.Safety Sys2Proof.Leases Sys2Proof.Maintenance
  Sys2Proof.Agreements

/-! ## The laws, host by host -/

/-- R132, R155: the laws of one host's port, where it is parked or not. -/
def PortSound (x : HostSide) (parked : Bool) : Prop :=
  (x.link.state = .up ↔ x.port ≠ .down) ∧ (parked = true → x.port = .attached)

theorem portsSound_iff (s : State) :
    PortsSound s ↔ ∀ g, PortSound (s.host g) (s.standby.park.get g) := Iff.rfl

section Laws

variable {s : State} {h : HostId}

theorem link_up (hs : PortsSound s) (hp : s.port h ≠ .down) : (s.link h).state = .up :=
  (hs h).1.mpr hp

theorem port_down (hs : PortsSound s) (hl : (s.link h).state ≠ .up) : s.port h = .down := by
  by_contra hp
  exact hl (link_up hs hp)

theorem not_parked (hs : PortsSound s) (hp : s.port h ≠ .attached) :
    s.standby.park.get h = false := by
  rw [Bool.eq_false_iff]
  exact fun hpark => hp ((hs h).2 hpark)

/-- The side of one host may be replaced by one that is within the laws. -/
theorem portsSound_setHost {x : HostSide} (hs : PortsSound s)
    (hx : PortSound x (s.standby.park.get h)) : PortsSound (s.setHost h x) := by
  rw [portsSound_iff]
  intro g
  by_cases hg : g = h
  · subst hg
    rw [State.setHost_host_same]
    exact hx
  · rw [State.setHost_host_other s x hg]
    exact hs g

/-- R132: of a host that is not attached, and so not parked, only port and link must agree. -/
theorem portsSound_setUnparked {x : HostSide} (hs : PortsSound s) (hp : s.port h ≠ .attached)
    (hx : x.link.state = .up ↔ x.port ≠ .down) : PortsSound (s.setHost h x) :=
  portsSound_setHost hs (not_parked hs hp ▸ ⟨hx, nofun⟩)

theorem leavePark_get (h g : HostId) (s : State) : (leavePark h s).standby.park.get g =
    if g = h then false else s.standby.park.get g := PerHost.get_set _ g h false

/-- R132: a host that leaves the park set may leave the attached set with it. -/
theorem portsSound_leavePark_setHost {x : HostSide} (hs : PortsSound s) (hx : PortSound x false) :
    PortsSound (leavePark h (s.setHost h x)) := by
  rw [portsSound_iff]
  intro g
  rw [leavePark_get]
  by_cases hg : g = h
  · subst hg
    have hside : (leavePark g (s.setHost g x)).host g = x := State.setHost_host_same s g x
    rw [hside, if_pos rfl]
    exact hx
  · have hside : (leavePark h (s.setHost h x)).host g = s.host g := State.setHost_host_other s x hg
    rw [hside, if_neg hg]
    exact hs g

end Laws

/-! ## Steps that leave ports, link states and the park set alone -/

/-- What the laws read of the state is as it was. -/
structure StandingKept (s t : State) : Prop where
  port : PortsKept s t
  up : ∀ g, (t.link g).state = (s.link g).state
  park : t.standby.park = s.standby.park

theorem StandingKept.sound {s t : State} (h : StandingKept s t) (hs : PortsSound s) :
    PortsSound t := by
  intro g
  rw [h.port g, h.up g, h.park]
  exact hs g

/-- R144: a host that leaves the park set leaves it in both states. -/
theorem StandingKept.leavePark {s t : State} (h : StandingKept s t) (g : HostId) :
    StandingKept (leavePark g s) (leavePark g t) :=
  ⟨h.port, h.up, congrArg (HostSet.without · g) h.park⟩

theorem Told.standing {s t : State} (h : Told s t) : StandingKept s t :=
  ⟨fun g => (h.side g).port, fun g => (h.side g).link_state, h.park⟩

theorem standingKept_setHost {s : State} {h : HostId} {x : HostSide} (hp : x.port = s.port h)
    (hl : x.link.state = (s.link h).state) : StandingKept s (s.setHost h x) := by
  refine ⟨portsKept_setHost hp, fun g => ?_, rfl⟩
  by_cases hg : g = h
  · subst hg
    rw [State.setHost_link_same, hl]
  · rw [State.setHost_link_other s x hg]

theorem standingKept_modLink {s : State} {h : HostId} {f : Link → Link}
    (hf : (f (s.link h)).state = (s.link h).state) : StandingKept s (s.modLink h f) :=
  standingKept_setHost rfl hf

theorem standingKept_modNotes (h : HostId) (f : NoteQueue → NoteQueue) (s : State) :
    StandingKept s (s.modNotes h f) := standingKept_setHost rfl rfl

theorem standingKept_setTags (h : HostId) (tags : Vector (Option ReqKind) 16) (s : State) :
    StandingKept s (s.setHost h { s.host h with tags := tags }) := standingKept_setHost rfl rfl

/-! ## Steps that keep the laws -/

/-- A step keeps the laws of the ports. -/
def KeepsPorts (s t : State) : Prop := PortsSound s → PortsSound t

namespace KeepsPorts

variable {s t u : State}

theorem refl (s : State) : KeepsPorts s s := id

theorem trans (h : KeepsPorts s t) (k : KeepsPorts t u) : KeepsPorts s u := k ∘ h

theorem after (k : KeepsPorts t u) (h : KeepsPorts s t) : KeepsPorts s u := h.trans k

theorem ite {p : Prop} [Decidable p] (ht : KeepsPorts s t) (hu : KeepsPorts s u) :
    KeepsPorts s (if p then t else u) := by
  split
  · exact ht
  · exact hu

theorem foldl {ι : Type} {f : State → ι → State} (hf : ∀ s i, KeepsPorts s (f s i)) (l : List ι)
    (s : State) : KeepsPorts s (l.foldl f s) :=
  foldl_rel refl (fun _ _ _ => trans) hf l s

end KeepsPorts

theorem Told.keeps {s t : State} (h : Told s t) : KeepsPorts s t := h.standing.sound

/-! ## The park set (R132 to R134, R144) -/

theorem leavePark_keepsPorts (h : HostId) (s : State) : KeepsPorts s (leavePark h s) := by
  intro hs
  have hgone := portsSound_leavePark_setHost (h := h) (x := s.host h) hs ⟨(hs h).1, nofun⟩
  rwa [State.setHost_self] at hgone

/-- R133: only an ATTACHED host is parked. -/
theorem takePark_keepsPorts (h : HostId) (tag : Tag) {s : State} (hp : s.port h = .attached) :
    KeepsPorts s (takePark h tag s) := by
  have hparked : KeepsPorts s
      (s.setStandby { s.standby with park := s.standby.park.set h true }) := by
    refine fun hs g => ⟨(hs g).1, fun hg => ?_⟩
    by_cases hgh : g = h
    · exact hgh ▸ hp
    · exact (hs g).2 ((PerHost.get_set_other _ _ hgh).symm.trans hg)
  unfold takePark
  split
  · exact (told_answerStatus _ _ _ s).keeps
  · exact hparked.trans (told_answerStatus _ _ _ _).keeps

theorem takeUnpark_keepsPorts (h : HostId) (tag : Tag) (s : State) :
    KeepsPorts s (takeUnpark h tag s) := by
  have hans := (told_answerStatus h tag .ok s).keeps
  exact .ite ((hans.trans (leavePark_keepsPorts h _)).trans (told_exitCause _).keeps) hans

/-! ## Joins (R158, R182) -/

/-- R158: every JOINING port attaches. -/
theorem completeJoins_keepsPorts (s : State) : KeepsPorts s (completeJoins s) := by
  have hjoined : KeepsPorts s { s with hosts := s.hosts.imap fun _ p =>
      if p.port = .joining then { p with port := .attached } else p } := by
    rw [KeepsPorts, portsSound_iff, portsSound_iff]
    intro hs g
    rw [State.host, PerHost.get_imap]
    split
    next hp =>
      have hup : (s.link g).state = .up := link_up hs (by rw [State.port, State.host, hp]; simp)
      exact ⟨iff_of_true hup nofun, fun _ => rfl⟩
    · exact hs g
  have hall : KeepsPorts s (attachJoining s) := by
    refine hjoined.trans (Told.foldl (fun t h => ?_) _ _).keeps
    refine .trans ?_ (told_notifySet _ _ _)
    split
    · exact told_answer _ _ _ _ t
    · exact .refl t
  exact .ite hall (.refl s)

/-- R182: every JOINING port returns to LINKED. -/
theorem refuseJoining_keepsPorts (s : State) : KeepsPorts s (refuseJoining s) := by
  refine .foldl (fun u h => ?_) allHosts s
  have htold := told_answerOpt h (u.tagOfKind h .join) .deviceFailed u
  split
  next hp =>
    intro hu
    have hv := htold.keeps hu
    have hport : (answerOpt h (u.tagOfKind h .join) .deviceFailed u).port h = .joining :=
      ((htold.side h).port).trans hp
    exact portsSound_setUnparked hv (by simp [hport])
      (iff_of_true (link_up hv (by simp [hport])) nofun)
  · exact .refl u

/-- R158: a LINKED port goes JOINING. -/
theorem takeJoin_keepsPorts (h : HostId) (tag : Tag) (s : State) :
    KeepsPorts s (takeJoin h tag s) := by
  have hans := fun st => (told_answerStatus h tag st s).keeps
  unfold takeJoin
  split
  next hp =>
    have hjoining : KeepsPorts s (s.setPort h .joining) := fun hs =>
      portsSound_setUnparked hs (by simp [hp]) (iff_of_true (link_up hs (by simp [hp])) nofun)
    exact .ite (hans _)
      ((hjoining.trans (told_exitCause _).keeps).trans (completeJoins_keepsPorts _))
  all_goals exact hans _

/-! ## Leaves (R159, R160) -/

/-- R160: a LEAVING port returns to LINKED. -/
theorem completeLeave_keepsPorts (h : HostId) (s : State) : KeepsPorts s (completeLeave h s) := by
  unfold completeLeave
  split
  next hr =>
    obtain ⟨hp, -⟩ := (leaveReady_iff s h).mp hr
    have hlinked : KeepsPorts s (s.setHost h { (s.host h).dropNotes with port := .linked }) :=
      fun hs => portsSound_setUnparked hs (by simp [hp])
        (iff_of_true (link_up hs (by simp [hp])) nofun)
    exact (hlinked.trans (told_answerOpt _ _ _ _).keeps).trans (told_notifyAttached _ _).keeps
  · exact .refl s

/-- R144, R159: an ATTACHED port goes LEAVING, and its host leaves the park set in the same event. -/
theorem takeLeave_keepsPorts {h : HostId} {s : State} (hp : s.port h = .attached) :
    KeepsPorts s (takeLeave h s) := by
  intro hs
  have hleaving : PortsSound (leavePark h (s.setPort h .leaving)) :=
    portsSound_leavePark_setHost hs ⟨iff_of_true (link_up hs (by simp [hp])) nofun, nofun⟩
  have hdetached : Told (s.setPort h .leaving)
      (detachAgreement h (withdrawAndClose h (s.setPort h .leaving))) :=
    (told_withdrawAndClose h _).trans (told_detachAgreement h _)
  exact completeLeave_keepsPorts h _ ((hdetached.standing.leavePark h).sound hleaving)

/-! ## Links (R147, R149, R153, R154) -/

/-- R144, R154: a link that goes DOWN takes its port along, and the host out of the park set. -/
theorem linkDown_keepsPorts (h : HostId) (s : State) : KeepsPorts s (linkDown h s) := by
  intro hs
  have hdown : ∀ quiet, (HostSide.down quiet).link.state = .up ↔
      (HostSide.down quiet).port ≠ .down := fun _ => iff_of_false nofun (not_not.mpr rfl)
  have htold : ∀ u, Told u (takeIntake (notifyAttached (.hostLeft h true) u)) := fun u =>
    (told_notifyAttached _ u).trans (told_takeIntake _)
  unfold linkDown
  dsimp only
  split
  · have hgone := fun quiet => portsSound_leavePark_setHost (h := h) hs ⟨hdown quiet, nofun⟩
    have hdetached : ∀ x, Told (s.setHost h x) (detachAgreement h (tearDown h (s.setHost h x))) :=
      fun x => (told_tearDown h _).trans (told_detachAgreement h _)
    exact (htold _).keeps (((hdetached _).standing.leavePark h).sound (hgone _))
  next hp =>
    exact ((told_tearDown h _).trans (htold _)).keeps
      (portsSound_setUnparked hs (by simp [hp]) (hdown _))
  all_goals
    next hp => exact portsSound_setUnparked hs (by simp [hp]) (hdown _)

/-- R147: a link that comes up makes its DOWN port LINKED. -/
theorem countIdle_keepsPorts {h : HostId} {s : State} (hl : (s.link h).state = .listening) :
    KeepsPorts s (countIdle h s) := by
  refine .ite (fun hs => ?_) (standingKept_modLink rfl).sound
  have hp : s.port h = .down := port_down hs (by simp [hl])
  simp only [linkUp, State.setPort, State.modLink, State.setHost_setHost]
  exact portsSound_setUnparked hs (by simp [hp]) (iff_of_true (by simp) nofun)

@[simp] theorem takeValid_state (l : Link) (now : Time) (f : FrameHdr) :
    (l.takeValid now f).state = l.state := takeAck_state _ _

@[simp] theorem discard_state (l : Link) : l.discard.state = l.state := by
  unfold Link.discard
  split <;> rfl

@[simp] theorem discardMessage_state (l : Link) (f : FrameHdr) :
    (l.discardMessage f).state = l.state := by
  unfold Link.discardMessage
  split
  · exact discard_state l
  · rfl

@[simp] theorem compareIdle_state (l : Link) (f : FrameHdr) :
    (l.compareIdle f).state = l.state := by
  unfold Link.compareIdle
  split <;> rfl

@[simp] theorem sendNext_state (l : Link) (now : Time) : (l.sendNext now).state = l.state := by
  unfold Link.sendNext
  split
  · rfl
  · split
    · rfl
    · split
      · split
        · rfl
        · split <;> rfl
      · split <;> rfl

@[simp] theorem sendExpired_state (l : Link) (now : Time) :
    (l.sendExpired now).state = l.state := by
  unfold Link.sendExpired
  split
  · rfl
  · rfl
  · exact sendNext_state l now

theorem standingKept_discardFrame (h : HostId) (f : FrameHdr) (s : State) :
    StandingKept s (discardFrame h f s) := by
  unfold discardFrame
  split
  · exact (Told.refl s).standing
  · exact standingKept_modLink rfl
  · exact standingKept_modLink (by simp)

/-- R153: the fifth replay takes the link DOWN; every other NAK leaves its state. -/
theorem takeNak_keepsPorts (h : HostId) (n : Seq) (s : State) : KeepsPorts s (takeNak h n s) :=
  .ite (.ite (linkDown_keepsPorts h s) (standingKept_modLink rfl).sound)
    (.ite (standingKept_modLink rfl).sound (.refl s))

/-! ## Notification queues (chapter 9) -/

theorem takeNoteAck_keepsPorts (h : HostId) (n : Seq) (s : State) :
    KeepsPorts s (takeNoteAck h n s) :=
  .ite (standingKept_modNotes h _ s).sound (told_notify _ _ _).keeps

theorem standingKept_deliverNote (h : HostId) (s : State) :
    StandingKept s (s.setHost h (s.host h).deliverNote) := by
  unfold HostSide.deliverNote
  split
  · split <;> exact standingKept_setHost rfl rfl
  · exact standingKept_setHost rfl rfl

/-! ## The lane sweep (R179 to R184) -/

theorem laneTrained_keepsPorts (w : Sweep) (s : State) : KeepsPorts s (laneTrained w s) := by
  have hatt : ∀ lane kind q, KeepsPorts s (beginAttempt lane kind (s.setSeq q)) :=
    fun lane kind q => Told.keeps (.behind (told_beginAttempt lane kind _) rfl)
  have hready : ∀ q, KeepsPorts s (becomeReady (s.setSeq q)) := fun q =>
    .after (completeJoins_keepsPorts _) (Told.keeps (.behind (told_removeReason _ _) rfl))
  unfold laneTrained
  split
  · exact .ite (hready _) (hatt _ _ _)
  · split
    · exact .refl s
    · exact .ite (Told.keeps (.behind (told_applyBurstOrder _) rfl)) (hatt _ _ _)

theorem attemptEnds_keepsPorts (w : Sweep) (s : State) : KeepsPorts s (attemptEnds w s) := by
  have hatt : ∀ kind, KeepsPorts s (beginAttempt w.lane kind s) := fun kind =>
    (told_beginAttempt w.lane kind s).keeps
  have hfailed : ∀ q, KeepsPorts s (refuseJoining (s.setSeq q)) := fun q =>
    .trans (t := s.setSeq q) id (refuseJoining_keepsPorts _)
  unfold attemptEnds
  split
  · exact .ite (hatt _) (hfailed _)
  · split
    · exact .refl s
    · exact .ite (hatt _) (Told.keeps (.behind (told_abandon _ _) rfl))

theorem actOnSample_keepsPorts (sample : Bool) (w : Sweep) (s : State) :
    KeepsPorts s (actOnSample sample w s) :=
  .ite (laneTrained_keepsPorts w s)
    (.ite (attemptEnds_keepsPorts w s) (Told.keeps (.behind (told_offerStep _) rfl)))

theorem landTrainStep_keepsPorts (lane : Lane) (sample : Bool) (s : State) :
    KeepsPorts s (landTrainStep lane sample s) := by
  have hcapture : ∀ u, KeepsPorts u (restoreCapture lane u) := fun _ => id
  have hlanded : ∀ q, KeepsPorts s ((landMaint .active s).setSeq q) := fun _ => id
  refine .trans ?_ (hcapture _)
  split
  · exact hlanded _
  · exact (hlanded _).trans (actOnSample_keepsPorts sample _ _)

end Sys2Proof.Ports
end

section
/-! PROOFS. The commands one by one: each keeps ports with their links and parked hosts attached
(O11). -/

namespace Sys2Proof.Ports

open Sys2Proof Sys2Proof.Machine Sys2Proof.Safety Sys2Proof.Leases Sys2Proof.Maintenance
  Sys2Proof.Refresh

/-! ## Requests -/

section Requests

variable {act : State → State} (h : HostId) (f : FrameHdr)

/-- R148, R149: a frame that is delivered leaves its link UP. -/
theorem deliver_keepsPorts (ha : ∀ u, KeepsPorts u (act u)) (tagged : Bool) (s : State) :
    KeepsPorts s (deliver h f tagged act s) := by
  have haccept : KeepsPorts s (acceptFrame h f s) :=
    (standingKept_modLink (by simp [Link.accept])).sound
  exact .ite (haccept.trans (ha _)) (standingKept_discardFrame h f s).sound

theorem request_keepsPorts (tag : Tag) (kind : ReqKind) (ha : ∀ u, KeepsPorts u (act u))
    (s : State) : KeepsPorts s (request h f tag kind act s) := by
  refine deliver_keepsPorts h f (fun u => .ite (.refl u) ?_) true s
  split
  · exact (told_notify _ _ u).keeps
  · exact .trans (standingKept_setTags h _ u).sound (ha _)

/-- R156: a request that only an ATTACHED host may make reaches its block from such a one. -/
theorem requestAttached_keepsPorts (tag : Tag) (kind : ReqKind)
    (ha : ∀ u, u.port h = .attached → KeepsPorts u (act u)) (s : State) :
    KeepsPorts s (request h f tag kind (attachedOnly h tag act) s) := by
  refine request_keepsPorts h f tag kind (fun u => ?_) s
  unfold attachedOnly
  split
  next hp => exact ha u hp
  · exact (told_answerStatus _ _ _ u).keeps

theorem malformed_keepsPorts (tagged : Bool) (s : State) :
    KeepsPorts s (deliver h f tagged (malformed h) s) :=
  deliver_keepsPorts h f (fun u => (told_notify h _ u).keeps) tagged s

end Requests

/-! ## Outcomes -/

section Outcomes

variable {s t : State}

theorem nextIn_keeps (h : KeepsPorts s t) : NextIn KeepsPorts s (.next t) := nextIn_next h

theorem nextIn_told (h : Told s t) : NextIn KeepsPorts s (.next t) := nextIn_next h.keeps

theorem nextIn_stay (s : State) : NextIn KeepsPorts s (.next s) := nextIn_next (.refl s)

/-- Log 3: an event acts where its condition holds, and leaves the state as it is otherwise. -/
theorem nextIn_ite {p : Prop} [Decidable p] (h : p → KeepsPorts s t) :
    NextIn KeepsPorts s (if p then .next t else .next s) := by
  split
  next hp => exact nextIn_next (h hp)
  · exact nextIn_stay s

theorem nextIn_iteTold {p : Prop} [Decidable p] (h : Told s t) :
    NextIn KeepsPorts s (if p then .next t else .next s) := nextIn_ite fun _ => h.keeps

/-- An offer that the arbiter takes and that is of the kind the command names is issued. -/
theorem nextIn_issue {g : Offer → State} {op : MaintOp} (hg : ∀ o, Told s (g o)) :
    NextIn KeepsPorts s (match s.maintTaken with
      | none => .next s
      | some o => if o.op = op then .next (g o) else .next s) := by
  split
  · exact nextIn_stay s
  · exact nextIn_iteTold (hg _)

end Outcomes

/-! ## The commands of the lease table, the transfer engine and the links -/

section LeaseCommands

variable (s : State)

theorem execWrite_keepsPorts (h : HostId) (f : FrameHdr) (tag : Tag) (bank bursts : Byte)
    (col : BitVec 16) (payload : List WriteBurst) :
    NextIn KeepsPorts s (execWrite h f tag bank bursts col payload s) := by
  unfold execWrite
  split
  · exact nextIn_keeps
      (request_keepsPorts h f tag .write (fun u => (told_transferRequest _ u).keeps) s)
  · exact nextIn_keeps (malformed_keepsPorts h f true s)

theorem execReceiveIdleFrame_keepsPorts (h : HostId) (f : FrameHdr) :
    NextIn KeepsPorts s (execReceiveIdleFrame h f s) := by
  unfold execReceiveIdleFrame
  split
  · exact nextIn_stay s
  next hl => exact nextIn_keeps (countIdle_keepsPorts hl)
  · exact nextIn_keeps (standingKept_modLink (by simp)).sound

/-- R147: the end of QUIET leaves the link short of UP. -/
theorem execQuietEnd_keepsPorts (h : HostId) : NextIn KeepsPorts s (execQuietEnd h s) := by
  refine nextIn_ite fun ⟨hq, _⟩ hs => ?_
  have hp : s.port h = .down := port_down hs (by simp [hq])
  have hdown : (s.host h).port = .down := hp
  have hlisten : ((s.host h).link.listen s.now).state = .listening := rfl
  exact portsSound_setUnparked hs (by simp [hp]) (by simp [hdown, hlisten])

/-- A command of the lease table, the transfer engine or the links keeps the laws of the ports. -/
theorem exec_leaseCommand_keepsPorts {c : Instr} (hc : isLeaseCommand c = true) :
    NextIn KeepsPorts s (exec c s) := by
  have hstay := nextIn_stay s
  cases c with
  | holdDeadlineExpiry b h =>
    simp only [exec, execHoldDeadlineExpiry]
    split
    · exact hstay
    · exact nextIn_iteTold (told_expireHold b h _ s)
  | waitDeadlineExpiry b h =>
    simp only [exec, execWaitDeadlineExpiry]
    split
    · exact hstay
    · exact nextIn_iteTold (told_withdrawWaiter b h .timedOut s)
  | quietEnd h => exact execQuietEnd_keepsPorts s h
  | sendTimerExpiry h => exact nextIn_ite fun _ => (standingKept_modLink (by simp)).sound
  | sendFrame h => exact nextIn_ite fun _ => (standingKept_modLink (by simp)).sound
  | receiveIdleFrame h f => exact execReceiveIdleFrame_keepsPorts s h f
  | receiveCorruptedFrame h =>
    simp only [exec, execReceiveCorruptedFrame]
    split
    · exact hstay
    · exact nextIn_keeps (standingKept_modLink rfl).sound
    · exact nextIn_keeps (standingKept_modLink (by simp)).sound
  | messageFrameDiscarded h f tagged =>
    simp only [exec, execMessageFrameDiscarded]
    split
    · exact hstay
    · exact nextIn_keeps (standingKept_discardFrame h f s).sound
  | malformedMessage h f tagged => exact nextIn_keeps (malformed_keepsPorts h f tagged s)
  | joinComplete => exact nextIn_keeps (completeJoins_keepsPorts s)
  | leaveComplete h => exact nextIn_keeps (completeLeave_keepsPorts h s)
  | openLease h f tag bank row mode wait =>
    exact nextIn_keeps (requestAttached_keepsPorts h f tag _
      (fun u _ => (told_takeOpen h tag bank row mode wait u).keeps) s)
  | closeLease h f tag bank =>
    exact nextIn_keeps (requestAttached_keepsPorts h f tag _
      (fun u _ => (told_takeClose h tag bank u).keeps) s)
  | closeComplete b h | revocationFinish b h => exact nextIn_iteTold (told_finishHolder b h s)
  | grantFromQueue b => exact nextIn_told (told_serveBank b s)
  | read h f tag bank bursts col =>
    exact nextIn_keeps
      (request_keepsPorts h f tag .read (fun u => (told_transferRequest _ u).keeps) s)
  | write h f tag bank bursts col payload =>
    exact execWrite_keepsPorts s h f tag bank bursts col payload
  | intakeTake => exact nextIn_told (told_takeIntake s)
  | query h f tag =>
    exact nextIn_keeps
      (request_keepsPorts h f tag .query (fun u => (told_answer h tag .ok _ u).keeps) s)
  | queryBank h f tag bank =>
    exact nextIn_keeps (requestAttached_keepsPorts h f tag _
      (fun u _ => (told_takeQueryBank h tag bank u).keeps) s)
  | noteAck h f n =>
    exact nextIn_keeps (deliver_keepsPorts h f (takeNoteAck_keepsPorts h n) false s)
  | notificationDelivery h => exact nextIn_keeps (standingKept_deliverNote h s).sound
  | setupEnd b | commandSlotEnd | writeRecoveryEnd b => exact nextIn_iteTold (.rest rfl)
  | activateIssue =>
    simp only [exec, execActivateIssue]
    split
    · exact nextIn_told (told_issueActivate _ s)
    all_goals exact hstay
  | prechargeIssue =>
    simp only [exec, execPrechargeIssue]
    split
    · exact nextIn_told (.rest rfl)
    all_goals exact hstay
  | burstIssue =>
    simp only [exec, execBurstIssue]
    split
    · exact nextIn_told (told_issueBurst _ s)
    all_goals exact hstay
  | activateCompletion b =>
    simp only [exec, execActivateCompletion]
    split
    · exact nextIn_iteTold (.behind (told_landActivate b _ (keepPlace s)) rfl)
    all_goals exact hstay
  | prechargeCompletion b =>
    simp only [exec, execPrechargeCompletion]
    split
    · exact nextIn_iteTold (told_landPrecharge b s)
    all_goals exact hstay
  | burstCompletion b => exact nextIn_iteTold (.behind (told_completeBurst b (keepPlace s)) rfl)
  | _ => cases hc

end LeaseCommands

/-! ## The commands of the other units -/

section Commands

variable (s : State)

/-- R155: at RESET_N every link is QUIET, every port DOWN and no host parked. -/
theorem assertReset_keepsPorts : KeepsPorts s (assertReset s) := by
  obtain ⟨-, -, -, -, -, -, hreset, -⟩ := Leases.resetStateIsSound
  exact fun _ => (Told.rest (s := State.reset) rfl).keeps hreset

theorem execResetNRelease_keepsPorts : NextIn KeepsPorts s (execResetNRelease s) := by
  have hrelease : StandingKept s (releaseReset s) :=
    ⟨fun g => by simp [State.port, releaseReset_host],
      fun g => by simp [State.link, releaseReset_host], rfl⟩
  unfold execResetNRelease
  split
  · exact nextIn_stay s
  · exact nextIn_keeps hrelease.sound

theorem execReceiveNakFrame_keepsPorts (h : HostId) (f : FrameHdr) (n : Seq) :
    NextIn KeepsPorts s (execReceiveNakFrame h f n s) := by
  unfold execReceiveNakFrame
  split
  · exact nextIn_stay s
  · exact nextIn_keeps (standingKept_modLink rfl).sound
  · exact nextIn_keeps (.trans (standingKept_modLink (by simp)).sound (takeNak_keepsPorts h n _))

theorem execPropose_keepsPorts (h : HostId) (f : FrameHdr) (tag : Tag) (base : BitVec 16)
    (items : List RawItem) : NextIn KeepsPorts s (execPropose h f tag base items s) := by
  unfold execPropose
  split
  · exact nextIn_keeps (requestAttached_keepsPorts h f tag _
      (fun u _ => (told_takePropose h tag base items u).keeps) s)
  · exact nextIn_keeps (malformed_keepsPorts h f true s)

theorem execModeLoadIssue_keepsPorts : NextIn KeepsPorts s (execModeLoadIssue s) := by
  unfold execModeLoadIssue
  split
  · exact nextIn_stay s
  · split
    · split <;> exact nextIn_told (.rest rfl)
    all_goals exact nextIn_stay s

theorem execTrainStepIssue_keepsPorts : NextIn KeepsPorts s (execTrainStepIssue s) := by
  unfold execTrainStepIssue
  split
  · exact nextIn_stay s
  · split
    · exact nextIn_told (.rest rfl)
    all_goals exact nextIn_stay s

theorem execModeLoadCompletion_keepsPorts : NextIn KeepsPorts s (execModeLoadCompletion s) := by
  unfold execModeLoadCompletion
  split
  · exact nextIn_stay s
  · split
    · exact nextIn_told (told_landModeLoad _ _ s)
    all_goals exact nextIn_stay s

theorem execTrainStepCompletion_keepsPorts (sample : Bool) :
    NextIn KeepsPorts s (execTrainStepCompletion sample s) := by
  unfold execTrainStepCompletion
  split
  · exact nextIn_stay s
  · split
    · exact nextIn_keeps (landTrainStep_keepsPorts _ sample s)
    all_goals exact nextIn_stay s

end Commands

/-- Every command keeps the laws of the ports. -/
theorem exec_keepsPorts (c : Instr) (s : State) : NextIn KeepsPorts s (exec c s) := by
  by_cases hc : isLeaseCommand c = true
  · exact exec_leaseCommand_keepsPorts s hc
  cases c with
  | resetNAssert => exact nextIn_keeps (assertReset_keepsPorts s)
  | resetNRelease => exact execResetNRelease_keepsPorts s
  | holdPhaseEnd | settlePhaseEnd => exact nextIn_iteTold (.rest rfl)
  | lockPhaseEnd => exact nextIn_iteTold (told_endLock s)
  | intervalExpiry => exact nextIn_iteTold (.behind (told_expireInterval (keepPlace s)) rfl)
  | ballotDeadlineExpiry => exact nextIn_iteTold (told_abandon .timeout s)
  | drainDeadlineExpiry =>
    exact nextIn_iteTold ((told_clearDrainDeadline s).trans (told_massRevoke .config _))
  | silenceDeadlineExpiry h => exact nextIn_ite fun _ => linkDown_keepsPorts h s
  | receiveNakFrame h f n => exact execReceiveNakFrame_keepsPorts s h f n
  | join h f tag =>
    exact nextIn_keeps (request_keepsPorts h f tag .join (takeJoin_keepsPorts h tag) s)
  | leave h f tag =>
    exact nextIn_keeps
      (requestAttached_keepsPorts h f tag .leave (fun _ => takeLeave_keepsPorts) s)
  | propose h f tag base items => exact execPropose_keepsPorts s h f tag base items
  | vote h f tag number accept =>
    exact nextIn_keeps (requestAttached_keepsPorts h f tag .vote
      (fun u _ => (told_takeVote h tag number accept u).keeps) s)
  | drainComplete => exact nextIn_iteTold (told_beginApply s)
  | commit => exact nextIn_iteTold (told_commitProposal s)
  | park h f tag =>
    exact nextIn_keeps
      (requestAttached_keepsPorts h f tag .park (fun _ => takePark_keepsPorts h tag) s)
  | unpark h f tag =>
    exact nextIn_keeps
      (requestAttached_keepsPorts h f tag .unpark (fun u _ => takeUnpark_keepsPorts h tag u) s)
  | standbyEntering | standbyEnterOffer => exact nextIn_iteTold (.rest rfl)
  | refreshRequest => exact nextIn_iteTold (told_makeAccountOffer s)
  | refreshIssue | shortCalIssue | longCalIssue | standbyEnterIssue | standbyExitIssue =>
    exact nextIn_issue fun _ => .rest rfl
  | modeLoadIssue => exact execModeLoadIssue_keepsPorts s
  | trainStepIssue => exact execTrainStepIssue_keepsPorts s
  | refreshCompletion | shortCalCompletion => exact nextIn_iteTold (told_landAccountOp _ s)
  | longCalCompletion => exact nextIn_iteTold (.behind (told_beginAttempt 0 .startUp _) rfl)
  | modeLoadCompletion => exact execModeLoadCompletion_keepsPorts s
  | trainStepCompletion sample => exact execTrainStepCompletion_keepsPorts s sample
  | standbyEnterCompletion => exact nextIn_iteTold (told_landEnter s)
  | standbyExitCompletion => exact nextIn_iteTold (told_landExit s)
  | _ => exact absurd rfl hc

/-- Settles O11: the command at the front of the queue keeps the laws, and a tick moves the clock
alone. -/
theorem stepKeepsPortLaws : Obligations.StepKeepsPortLaws := by
  intro s t hs ht
  cases hp : s.pending with
  | nil =>
    rw [step_nil s hp] at ht
    cases ht
    unfold State.idle
    split <;> exact hs
  | cons c rest =>
    rw [step_cons s c rest hp] at ht
    exact exec_keepsPorts c { s with pending := rest } t ht hs

end Sys2Proof.Ports
end

section
/-! PROOFS. PARK and UNPARK (R133, R134, O49), and what an exit cause does in each standby state (R139 to
R141). -/

namespace Sys2Proof.Ports

open Sys2Proof Sys2Proof.Machine Sys2Proof.Safety Sys2Proof.Leases

/-! ## The checks of a PARK (R133) -/

section Checks

variable {s : State} {h : HostId}

/-- R133: a host with a lease, a queued OPEN or a transfer is refused BUSY_LEASES. -/
theorem parkRefusal_busyLeases (hb : (∃ b, s.holds h b = true ∨ s.waits h b = true) ∨
    (∃ e ∈ s.xfer.list, e.host = h) ∨ ∃ q ∈ s.xfer.intake, q.host = h) :
    parkRefusal h s = some .busyLeases := by
  unfold parkRefusal
  by_cases hidle : s.idleOnBanks h = false
  · rw [if_pos hidle]
  · have hbanks := (idleOnBanks_iff s h).mp (Bool.eq_true_of_not_eq_false hidle)
    have hleft : s.noTransfer h = false := by
      rw [Bool.eq_false_iff, ne_eq, noTransfer_iff]
      rintro ⟨hlist, hintake⟩
      rcases hb with ⟨b, hb⟩ | ⟨e, he, heh⟩ | ⟨q, hq, hqh⟩
      · simp [hbanks b] at hb
      · exact hlist e he heh
      · exact hintake q hq hqh
    rw [if_neg hidle, if_pos hleft]

section Free

variable (hbanks : ∀ b, s.holds h b = false ∧ s.waits h b = false)
  (hlist : ∀ e ∈ s.xfer.list, e.host ≠ h) (hintake : ∀ q ∈ s.xfer.intake, q.host ≠ h)
include hbanks hlist hintake

/-- R133: past the first check the proposal decides. -/
theorem parkRefusal_free : parkRefusal h s =
    if s.proposes h ∧ s.agree.state ≠ .idle then some .busy else none := by
  have hidle := (idleOnBanks_iff s h).mpr hbanks
  have hleft := (noTransfer_iff s h).mpr ⟨hlist, hintake⟩
  simp [parkRefusal, hidle, hleft]

theorem parkRefusal_busy (hp : ∃ p, s.agree.proposal = some p ∧ p.proposer = h)
    (hs : s.agree.state ≠ .idle) : parkRefusal h s = some .busy := by
  obtain ⟨p, hp, hph⟩ := hp
  have hproposes : s.proposes h = true := by simp [State.proposes, hp, hph]
  rw [parkRefusal_free hbanks hlist hintake, if_pos ⟨hproposes, hs⟩]

theorem parkRefusal_none
    (hp : (∀ p, s.agree.proposal = some p → p.proposer ≠ h) ∨ s.agree.state = .idle) :
    parkRefusal h s = none := by
  rw [parkRefusal_free hbanks hlist hintake, if_neg]
  rintro ⟨hproposes, hs⟩
  have hother := hp.resolve_right hs
  cases hprop : s.agree.proposal with
  | none => simp [State.proposes, hprop] at hproposes
  | some p => exact hother p hprop (by simpa [State.proposes, hprop] using hproposes)

end Free

end Checks

/-! ## PARK and UNPARK (R133, R134) -/

section Requests

variable {s : State} {h : HostId} {f : FrameHdr} {tag : Tag} (harr : RequestArrives s h f tag)
  (hport : s.port h = .attached)
include harr hport

theorem exec_park : exec (.park h f tag) s =
    .next (takePark h tag (s.setHost h (sideTaken s h f tag .park))) :=
  congrArg Host.Outcome.next (request_attached .park _ harr hport)

/-- R133: a PARK that fails a check is answered, and that is all. -/
theorem exec_park_refused {st : Status} (hr : parkRefusal h s = some st) :
    exec (.park h f tag) s = .next (s.setHost h (sideAnswered s h f [plain tag .park st])) := by
  have hr' : parkRefusal h (s.setHost h (sideTaken s h f tag .park)) = some st := hr
  rw [exec_park harr hport, takePark, hr']
  exact congrArg Host.Outcome.next (answerStatus_taken .park st harr)

/-- R133: a PARK that passes its checks puts the host in the park set. -/
theorem exec_park_taken (hr : parkRefusal h s = none) : exec (.park h f tag) s =
    .next ((s.setHost h (sideAnswered s h f [plain tag .park .ok])).setStandby
      { s.standby with park := s.standby.park.set h true }) := by
  have hr' : parkRefusal h (s.setHost h (sideTaken s h f tag .park)) = none := hr
  rw [exec_park harr hport, takePark, hr']
  exact congrArg Host.Outcome.next (answerStatus_taken
    (s := s.setStandby { s.standby with park := s.standby.park.set h true }) .park .ok harr)

/-- R134: an UNPARK is answered OK first; that of a parked host is then an exit cause. -/
theorem exec_unpark : exec (.unpark h f tag) s =
    .next (if s.standby.park.get h = true
      then exitCause (leavePark h (s.setHost h (sideAnswered s h f [plain tag .unpark .ok])))
      else s.setHost h (sideAnswered s h f [plain tag .unpark .ok])) := by
  rw [← answerStatus_taken .unpark .ok harr]
  exact congrArg Host.Outcome.next (request_attached .unpark _ harr hport)

end Requests

/-! ## An exit cause by standby state (R139 to R141) -/

section ExitCause

variable {s : State}

/-- Outside ENTERING and SELF_REFRESH there is nothing to leave. -/
theorem exitCause_stays (hs : s.standby.state = .running ∨ s.standby.state = .exiting) :
    exitCause s = s := by
  rcases hs with hs | hs <;> simp only [exitCause, hs]

/-- R140: before STANDBY_ENTER has issued, the entry is given up and its offer withdrawn. -/
theorem exitCause_givesUp (hs : s.standby.state = .entering)
    (hf : s.inFlight .standbyEnter = false) (hn : noWaiters s) : exitCause s = { s with
      standby := { s.standby with state := .running }
      gate := { s.gate with standby := false }
      chan := { s.chan with
        offers := s.chan.offers.filter fun o => decide (o.by_ ≠ .standby) } } := by
  have hgate := removeReason_noWaiters .standby
    (s := withdraw .standby (s.setStandby { s.standby with state := .running })) hn
  simp only [exitCause, hs, hf, Bool.false_eq_true, if_false]
  exact hgate

theorem offerExit_offers (hn : s.offered .standbyExit = false) :
    offerExit s = offer .standbyExit .standby s := if_neg (by simp [hn])

/-- R141: once STANDBY_ENTER has issued, the exit is offered and stays pending. -/
theorem exitCause_pends (hs : s.standby.state = .entering)
    (hf : s.inFlight .standbyEnter = true) (hn : s.offered .standbyExit = false) :
    exitCause s = { s with
      standby := { s.standby with exitPending := true }
      chan := { s.chan with offers := s.chan.offers ++ [⟨.standbyExit, .standby⟩] } } := by
  simp only [exitCause, hs, hf, if_true]
  exact offerExit_offers hn

/-- R141: in SELF_REFRESH the exit is offered. -/
theorem exitCause_offers (hs : s.standby.state = .selfRefresh)
    (hn : s.offered .standbyExit = false) : exitCause s = { s with
      chan := { s.chan with offers := s.chan.offers ++ [⟨.standbyExit, .standby⟩] } } := by
  simp only [exitCause, hs]
  exact offerExit_offers hn

end ExitCause

/-- Settles O49: a PARK is refused or taken by its checks; an UNPARK is answered, and takes a parked host
out of the park set, with what an exit cause then does in the standby state. -/
theorem parkAndUnpark : Obligations.ParkAndUnpark := by
  intro s h f tag harr hport
  refine ⟨fun hbusy => exec_park_refused harr hport (parkRefusal_busyLeases hbusy),
    fun hbanks hlist hintake =>
      ⟨fun hp hs => exec_park_refused harr hport (parkRefusal_busy hbanks hlist hintake hp hs),
        fun hp => exec_park_taken harr hport (parkRefusal_none hbanks hlist hintake hp)⟩,
    fun hout => ?_, fun hin => ?_⟩
  · rw [exec_unpark harr hport, if_neg (by simp [hout])]
  · rw [exec_unpark harr hport, if_pos hin]
    refine ⟨fun hs => ?_, fun hs hf hn => ?_, fun hs hf hn => ?_, fun hs hn => ?_⟩
    · exact congrArg Host.Outcome.next (exitCause_stays hs)
    · exact congrArg Host.Outcome.next (exitCause_givesUp hs hf hn)
    · exact congrArg Host.Outcome.next (exitCause_pends hs hf hn)
    · exact congrArg Host.Outcome.next (exitCause_offers hs hn)

end Sys2Proof.Ports
end

section
/-! PROOFS. What a command can do to what the LC4 keeps for one host (`SideMove`), and that every command
does nothing else to any host (`Moved`). The laws of the links and of the queues follow, move by move. -/

namespace Sys2Proof.Links

open Sys2Proof Sys2Proof.Machine Sys2Proof.Safety Sys2Proof.Leases Sys2Proof.Maintenance
  Sys2Proof.Refresh Sys2Proof.Ports

/-! ## One move of one side -/

/-- R147: a link that the third IDLE has brought UP. -/
def risen (now : Time) (l : Link) : Link :=
  { Link.down none with
    state := .up, idleRun := l.idleRun, lastSent := l.lastSent
    silence := some (now + Config.silenceTime), sendTimer := some (now + Config.sendTime) }

/-- R153: a link whose replay starts at the frame of number `n`. -/
def replaying (n : Seq) (l : Link) : Link :=
  { l.dropOlder n with replayCount := (l.dropOlder n).replayCount + 1, replayPos := some n }

/-- R153: a link whose peer has all its frames. -/
def allTaken (l : Link) : Link := { l with replayBuffer := [], replayCount := 0, replayPos := none }

/-- R145 to R153: one move of a link controller that stays in its place. -/
inductive LinkMove : Link → Link → Prop
  | quietUntil (l : Link) (t : Option Time) : LinkMove l { l with quietEnd := t }
  | listens {l : Link} (now : Time) (h : l.state = .quiet) : LinkMove l (l.listen now)
  | counts {l : Link} (h : l.state = .listening) (hn : l.idleRun < 2) :
      LinkMove l { l with idleRun := l.idleRun + 1 }
  | comesUp {l : Link} (now : Time) (h : l.state = .listening) :
      LinkMove l (risen now { l with idleRun := l.idleRun + 1 })
  | breaks (l : Link) : LinkMove l l.breakRun
  | hears (l : Link) (now : Time) (f : FrameHdr) : LinkMove l (l.takeValid now f)
  | accepts (l : Link) : LinkMove l l.accept
  | discards (l : Link) : LinkMove l l.discard
  | compares (l : Link) (f : FrameHdr) : LinkMove l (l.compareIdle f)
  | replays {l : Link} (n : Seq) (hb : buffered n l.replayBuffer = true)
      (hc : (l.dropOlder n).replayCount ≠ 4) : LinkMove l (replaying n l)
  | forgets (l : Link) : LinkMove l (allTaken l)
  | sends (l : Link) (now : Time) : LinkMove l (l.sendNext now)
  | idles (l : Link) (now : Time) : LinkMove l (l.transmit now l.nextSend .idle)

/-- R167 to R169: a notification queue after the NOTE_ACK of a delivered entry. -/
def acknowledged (n : Seq) (q : NoteQueue) : NoteQueue :=
  if q.overflow then
    { q with entries := placeOverflow (ackEntries n q.entries), overflow := false }
  else { q with entries := ackEntries n q.entries }

/-- One move of what the LC4 keeps for a host. -/
inductive SideMove : HostSide → HostSide → Prop
  | answered (p : HostSide) (tag : Tag) (st : Status) (x : Payload) :
      SideMove p (answeredSide tag st x p)
  | notified (p : HostSide) (n : Notification) : SideMove p (sideNotified true n p)
  | port (p : HostSide) (x : PortState) : SideMove p { p with port := x }
  | link {p : HostSide} {l : Link} (h : LinkMove p.link l) : SideMove p { p with link := l }
  | taken {p : HostSide} {tag : Tag} (kind : ReqKind) (hfree : p.tags[tag.val] = none)
      (hroom : p.heldBack true = false) :
      SideMove p { p with tags := p.tags.set tag.val (some kind) }
  | delivers (p : HostSide) : SideMove p p.deliverNote
  | acked {p : HostSide} {n : Seq} (hn : ∃ e ∈ p.notes.entries, e.number = some n) :
      SideMove p { p with notes := acknowledged n p.notes }
  | dropped (p : HostSide) : SideMove p p.dropNotes
  | down (p : HostSide) (quiet : Option Time) : SideMove p (HostSide.down quiet)

/-- A host's side after moves of it. -/
abbrev SideMoves : HostSide → HostSide → Prop := Relation.ReflTransGen SideMove

/-- What each move keeps, moves keep. -/
theorem SideMoves.keeps {P : HostSide → Prop} (hP : ∀ {p q}, SideMove p q → P p → P q)
    {p q : HostSide} (h : SideMoves p q) (hp : P p) : P q := by
  induction h with
  | refl => exact hp
  | tail _ hmove ih => exact hP hmove ih

theorem sideMoves_of_told {p q : HostSide} (h : ToldSide p q) : SideMoves p q := by
  induction h with
  | same => exact .refl
  | answered tag st x _ ih => exact ih.tail (.answered _ tag st x)
  | notified n _ ih => exact ih.tail (.notified _ n)

/-! ## Steps that do nothing else to any side -/

/-- A step does nothing to the hosts' sides but moves. -/
def Moved (s t : State) : Prop := ∀ g, SideMoves (s.host g) (t.host g)

namespace Moved

variable {s t u : State}

theorem trans (h : Moved s t) (k : Moved t u) : Moved s u := fun g => (h g).trans (k g)

theorem after (k : Moved t u) (h : Moved s t) : Moved s u := h.trans k

/-- An update of parts other than the hosts' sides. -/
theorem rest (h : t.hosts = s.hosts) : Moved s t := fun g => by rw [State.host, State.host, h]

theorem refl (s : State) : Moved s s := rest rfl

theorem ite {p : Prop} [Decidable p] (ht : Moved s t) (hu : Moved s u) :
    Moved s (if p then t else u) := by
  split
  · exact ht
  · exact hu

theorem foldl {ι : Type} {f : State → ι → State} (hf : ∀ s i, Moved s (f s i)) (l : List ι)
    (s : State) : Moved s (l.foldl f s) :=
  foldl_rel refl (fun _ _ _ => trans) hf l s

end Moved

theorem moved_of_told {s t : State} (h : Told s t) : Moved s t :=
  fun g => sideMoves_of_told (h.side g)

theorem moved_setHost {s : State} {h : HostId} {x : HostSide} (hx : SideMoves (s.host h) x) :
    Moved s (s.setHost h x) := by
  intro g
  by_cases hg : g = h
  · subst hg
    rwa [State.setHost_host_same]
  · rw [State.setHost_host_other s x hg]

/-- One move of one host's side. -/
theorem moved_one {s : State} {h : HostId} {x : HostSide} (hx : SideMove (s.host h) x) :
    Moved s (s.setHost h x) := moved_setHost (.single hx)

theorem moved_setPort (h : HostId) (p : PortState) (s : State) : Moved s (s.setPort h p) :=
  moved_one (.port _ p)

theorem moved_modLink {s : State} {h : HostId} {f : Link → Link}
    (hf : LinkMove (s.link h) (f (s.link h))) : Moved s (s.modLink h f) := moved_one (.link hf)

/-! ## Joins and leaves (R158 to R160, R182) -/

/-- R158: every JOINING port has attached, and its host is still to be answered. -/
def joiningAttached (s : State) : State :=
  { s with hosts := s.hosts.imap fun _ p =>
      if p.port = .joining then { p with port := .attached } else p }

theorem joiningAttached_host (s : State) (g : HostId) : (joiningAttached s).host g =
    if s.port g = .joining then { s.host g with port := .attached } else s.host g :=
  PerHost.get_imap _ _ g

/-- R158: the JOINs answered and the other hosts told, once their ports have attached. -/
theorem told_attachJoining (s : State) : Told (joiningAttached s) (attachJoining s) := by
  refine Told.foldl (fun t h => ?_) _ _
  refine .trans ?_ (told_notifySet _ _ _)
  split
  · exact told_answer _ _ _ _ t
  · exact .refl t

theorem moved_completeJoins (s : State) : Moved s (completeJoins s) := by
  have hattached : Moved s (joiningAttached s) := by
    intro g
    rw [joiningAttached_host]
    split
    · exact .single (.port _ _)
    · exact .refl
  exact .ite (hattached.trans (moved_of_told (told_attachJoining s))) (.refl s)

theorem moved_refuseJoining (s : State) : Moved s (refuseJoining s) := by
  refine .foldl (fun u h => ?_) allHosts s
  have hanswered := moved_of_told (told_answerOpt h (u.tagOfKind h .join) .deviceFailed u)
  exact .ite (hanswered.trans (moved_setPort h .linked _)) (.refl u)

theorem moved_takeJoin (h : HostId) (tag : Tag) (s : State) : Moved s (takeJoin h tag s) := by
  have hans := fun st => moved_of_told (told_answerStatus h tag st s)
  unfold takeJoin
  split
  · have hcaused := (moved_setPort h .joining s).trans (moved_of_told (told_exitCause _))
    exact .ite (hans _) (hcaused.trans (moved_completeJoins _))
  all_goals exact hans _

theorem moved_completeLeave (h : HostId) (s : State) : Moved s (completeLeave h s) := by
  have hlinked : Moved s (s.setHost h (sideLinked (s.host h))) :=
    moved_setHost (.tail (.single (.dropped _)) (.port _ .linked))
  exact .ite (hlinked.trans
    (moved_of_told ((told_answerOpt _ _ _ _).trans (told_notifyAttached _ _)))) (.refl s)

theorem moved_leavePark (h : HostId) (s : State) : Moved s (leavePark h s) := .rest rfl

theorem moved_takeLeave (h : HostId) (s : State) : Moved s (takeLeave h s) := by
  have hdetached := moved_of_told
    ((told_withdrawAndClose h (s.setPort h .leaving)).trans (told_detachAgreement h _))
  exact (((moved_setPort h .leaving s).trans hdetached).trans (moved_leavePark h _)).trans
    (moved_completeLeave h _)

/-! ## Links (R147 to R154) -/

theorem moved_linkDown (h : HostId) (s : State) : Moved s (linkDown h s) := by
  have hdown : Moved s (s.setHost h (HostSide.down (some (s.now + Config.quietTime)))) :=
    moved_one (.down _ _)
  have hend : ∀ u, Moved u (takeIntake (notifyAttached (.hostLeft h true) u)) := fun u =>
    moved_of_told ((told_notifyAttached _ u).trans (told_takeIntake _))
  unfold linkDown
  dsimp only
  split
  · have hdetached := moved_of_told ((told_tearDown h
      (s.setHost h (HostSide.down (some (s.now + Config.quietTime))))).trans
        (told_detachAgreement h _))
    exact ((hdown.trans hdetached).trans (moved_leavePark h _)).trans (hend _)
  · exact (hdown.trans (moved_of_told (told_tearDown h _))).trans (hend _)
  all_goals exact hdown

section CountIdle

variable {h : HostId} {s : State}

theorem idleRun_counted :
    ((s.modLink h fun l => { l with idleRun := l.idleRun + 1 }).link h).idleRun =
      (s.link h).idleRun + 1 := congrArg Link.idleRun (State.setHost_link_same s h _)

/-- R147: an IDLE short of the third in a row is counted. -/
theorem countIdle_counts (hn : (s.link h).idleRun < 2) : countIdle h s =
    s.setHost h { s.host h with
      link := { s.link h with idleRun := (s.link h).idleRun + 1 } } := by
  refine if_neg ?_
  rw [idleRun_counted]
  omega

/-- R147: the third IDLE in a row brings the link up. -/
theorem countIdle_comesUp (hn : 2 ≤ (s.link h).idleRun) : countIdle h s =
    s.setHost h { s.host h with
      port := .linked
      link := risen s.now { s.link h with idleRun := (s.link h).idleRun + 1 } } := by
  refine (if_pos (by rw [idleRun_counted]; omega)).trans ?_
  simp only [linkUp, State.setPort, State.modLink, State.setHost_setHost, State.setHost_host_same]
  rfl

theorem moved_countIdle (hl : (s.link h).state = .listening) : Moved s (countIdle h s) := by
  by_cases hn : (s.link h).idleRun < 2
  · rw [countIdle_counts hn]
    exact moved_one (.link (.counts hl hn))
  · rw [countIdle_comesUp (Nat.le_of_not_lt hn)]
    exact moved_setHost (.tail (.single (.link (.comesUp s.now hl))) (.port _ .linked))

end CountIdle

/-- R148, R149: what a valid frame that is not delivered does to an UP link. -/
theorem sideMoves_discardMessage (p : HostSide) (now : Time) (f : FrameHdr) :
    SideMoves p { p with link := (p.link.takeValid now f).discardMessage f } := by
  have hheard : SideMove p { p with link := p.link.takeValid now f } := .link (.hears _ now f)
  unfold Link.discardMessage
  split
  · exact .tail (.single hheard) (.link (.discards _))
  · exact .single hheard

theorem moved_discardFrame (h : HostId) (f : FrameHdr) (s : State) :
    Moved s (discardFrame h f s) := by
  unfold discardFrame
  split
  · exact .refl s
  · exact moved_modLink (.breaks _)
  · exact moved_setHost (sideMoves_discardMessage _ _ f)

theorem moved_takeNak (h : HostId) (n : Seq) (s : State) : Moved s (takeNak h n s) := by
  unfold takeNak
  dsimp only
  split
  next hb =>
    split
    · exact moved_linkDown h s
    next hc => exact moved_modLink (.replays n hb hc)
  · exact .ite (moved_modLink (.forgets _)) (.refl s)

theorem sideMoves_sendExpired (p : HostSide) (now : Time) :
    SideMoves p { p with link := p.link.sendExpired now } := by
  unfold Link.sendExpired
  split
  · exact .refl
  · exact .single (.link (.idles _ now))
  · exact .single (.link (.sends _ now))

/-- R167, R168: a NOTE_ACK of a number that is not delivered is told BAD_ACK. -/
theorem moved_takeNoteAck (h : HostId) (n : Seq) (s : State) : Moved s (takeNoteAck h n s) := by
  unfold takeNoteAck
  dsimp only
  split
  next hn =>
    refine moved_one (.acked (n := n) ?_)
    simpa using hn
  · exact moved_of_told (told_notify _ _ _)

/-! ## Requests (R149, R150, R156, R157) -/

/-- R150: the header of a frame moves nothing that decides on holding back. -/
theorem heldBack_linkAfter (h : HostId) (f : FrameHdr) (tagged : Bool) (s : State) :
    HostSide.heldBack { s.host h with link := linkAfter s h f } tagged =
      (s.host h).heldBack tagged := by
  simp only [HostSide.heldBack, Link.responsesWaiting, linkAfter_sendQueue]
  rfl

section Requests

variable {act : State → State} (h : HostId) (f : FrameHdr)

/-- R150: a frame that is delivered has not been held back, and has moved no queue and no tag yet. -/
theorem moved_deliver {tagged : Bool}
    (ha : ∀ u, (u.host h).heldBack tagged = false → Moved u (act u)) (s : State) :
    Moved s (deliver h f tagged act s) := by
  unfold deliver
  split
  next hd =>
    have haccepted : Moved s (acceptFrame h f s) :=
      moved_setHost (.tail (.single (.link (.hears _ s.now f))) (.link (.accepts _)))
    refine haccepted.trans (ha _ ?_)
    rw [acceptFrame_eq, State.setHost_host_same, heldBack_linkAfter]
    simp only [HostSide.delivers, Bool.and_eq_true, Bool.not_eq_true'] at hd
    exact hd.2
  · exact moved_discardFrame h f s

theorem moved_request (tag : Tag) (kind : ReqKind) (ha : ∀ u, Moved u (act u)) (s : State) :
    Moved s (request h f tag kind act s) := by
  refine moved_deliver h f (fun u hroom => .ite (.refl u) ?_) s
  split
  · exact moved_of_told (told_notify _ _ u)
  next hfree => exact .trans (moved_one (.taken kind hfree hroom)) (ha _)

theorem moved_requestAttached (tag : Tag) (kind : ReqKind) (ha : ∀ u, Moved u (act u)) (s : State) :
    Moved s (request h f tag kind (attachedOnly h tag act) s) :=
  moved_request h f tag kind
    (fun u => .ite (ha u) (moved_of_told (told_answerStatus _ _ _ u))) s

theorem moved_malformed (tagged : Bool) (s : State) :
    Moved s (deliver h f tagged (malformed h) s) :=
  moved_deliver h f (fun u _ => moved_of_told (told_notify h _ u)) s

end Requests

/-! ## The lane sweep (R179 to R184) -/

theorem moved_laneTrained (w : Sweep) (s : State) : Moved s (laneTrained w s) := by
  have hatt : ∀ lane kind q, Moved s (beginAttempt lane kind (s.setSeq q)) := fun lane kind q =>
    moved_of_told (.behind (told_beginAttempt lane kind _) rfl)
  have hready : ∀ q, Moved s (becomeReady (s.setSeq q)) := fun q =>
    .after (moved_completeJoins _) (moved_of_told (.behind (told_removeReason _ _) rfl))
  unfold laneTrained
  split
  · exact .ite (hready _) (hatt _ _ _)
  · split
    · exact .refl s
    · exact .ite (moved_of_told (.behind (told_applyBurstOrder _) rfl)) (hatt _ _ _)

theorem moved_attemptEnds (w : Sweep) (s : State) : Moved s (attemptEnds w s) := by
  have hatt : ∀ kind, Moved s (beginAttempt w.lane kind s) := fun kind =>
    moved_of_told (told_beginAttempt w.lane kind s)
  have hfailed : Moved s (becomeFailed w s) := .after (moved_refuseJoining _) (.rest rfl)
  unfold attemptEnds
  split
  · exact .ite (hatt _) hfailed
  · split
    · exact .refl s
    · exact .ite (hatt _) (moved_of_told (.behind (told_abandon _ _) rfl))

theorem moved_landTrainStep (lane : Lane) (sample : Bool) (s : State) :
    Moved s (landTrainStep lane sample s) := by
  have hact : ∀ w u, Moved u (actOnSample sample w u) := fun w u =>
    .ite (moved_laneTrained w u)
      (.ite (moved_attemptEnds w u) (moved_of_told (.behind (told_offerStep _) rfl)))
  have hsampled : Moved s (sampled s) := .rest rfl
  have hcapture : ∀ u, Moved u (restoreCapture lane u) := fun _ => .rest rfl
  refine .trans ?_ (hcapture _)
  split
  · exact hsampled
  · exact hsampled.trans (hact _ _)

end Sys2Proof.Links
end

section
/-! PROOFS. The commands one by one: each does nothing to the hosts' sides but moves. -/

namespace Sys2Proof.Links

open Sys2Proof Sys2Proof.Machine Sys2Proof.Safety Sys2Proof.Leases Sys2Proof.Maintenance
  Sys2Proof.Refresh Sys2Proof.Ports

/-! ## Outcomes -/

section Outcomes

variable {s t : State}

theorem nextIn_told (h : Told s t) : NextIn Moved s (.next t) := nextIn_next (moved_of_told h)

theorem nextIn_stay (s : State) : NextIn Moved s (.next s) := nextIn_next (.refl s)

/-- Log 3: an event acts where its condition holds, and leaves the state as it is otherwise. -/
theorem nextIn_ite {p : Prop} [Decidable p] (h : p → Moved s t) :
    NextIn Moved s (if p then .next t else .next s) := by
  split
  next hp => exact nextIn_next (h hp)
  · exact nextIn_stay s

theorem nextIn_iteTold {p : Prop} [Decidable p] (h : Told s t) :
    NextIn Moved s (if p then .next t else .next s) := nextIn_ite fun _ => moved_of_told h

/-- The offer that the arbiter takes is issued, where it is of the kind that the command names. -/
theorem nextIn_issue {g : Offer → State} {op : MaintOp} (hg : ∀ o, Told s (g o)) :
    NextIn Moved s (match s.maintTaken with
      | none => .next s
      | some o => if o.op = op then .next (g o) else .next s) := by
  split
  · exact nextIn_stay s
  · exact nextIn_iteTold (hg _)

end Outcomes

/-! ## Frames received and sent -/

section Frames

variable (s : State) (h : HostId) (f : FrameHdr)

theorem execQuietEnd_moved : NextIn Moved s (execQuietEnd h s) :=
  nextIn_ite fun ⟨hq, _⟩ => moved_modLink (.listens s.now hq)

theorem execSendTimerExpiry_moved : NextIn Moved s (execSendTimerExpiry h s) :=
  nextIn_ite fun _ => moved_setHost (sideMoves_sendExpired _ s.now)

theorem execSendFrame_moved : NextIn Moved s (execSendFrame h s) :=
  nextIn_ite fun _ => moved_modLink (.sends _ s.now)

theorem execReceiveIdleFrame_moved : NextIn Moved s (execReceiveIdleFrame h f s) := by
  unfold execReceiveIdleFrame
  split
  · exact nextIn_stay s
  next hl => exact nextIn_next (moved_countIdle hl)
  · exact nextIn_next
      (moved_setHost (.tail (.single (.link (.hears _ s.now f))) (.link (.compares _ f))))

theorem execReceiveNakFrame_moved (n : Seq) : NextIn Moved s (execReceiveNakFrame h f n s) := by
  unfold execReceiveNakFrame
  split
  · exact nextIn_stay s
  · exact nextIn_next (moved_modLink (.breaks _))
  · exact nextIn_next ((moved_modLink (.hears _ s.now f)).trans (moved_takeNak h n _))

theorem execReceiveCorruptedFrame_moved : NextIn Moved s (execReceiveCorruptedFrame h s) := by
  unfold execReceiveCorruptedFrame
  split
  · exact nextIn_stay s
  · exact nextIn_next (moved_modLink (.breaks _))
  · exact nextIn_next (moved_modLink (.discards _))

theorem execMessageFrameDiscarded_moved (tagged : Bool) :
    NextIn Moved s (execMessageFrameDiscarded h f tagged s) := by
  unfold execMessageFrameDiscarded
  split
  · exact nextIn_stay s
  · exact nextIn_next (moved_discardFrame h f s)

theorem execNotificationDelivery_moved : NextIn Moved s (execNotificationDelivery h s) :=
  nextIn_next (moved_one (.delivers _))

theorem execWrite_moved (tag : Tag) (bank bursts : Byte) (col : BitVec 16)
    (payload : List WriteBurst) :
    NextIn Moved s (execWrite h f tag bank bursts col payload s) := by
  unfold execWrite
  split
  · exact nextIn_next
      (moved_request h f tag .write (fun u => moved_of_told (told_transferRequest _ u)) s)
  · exact nextIn_next (moved_malformed h f true s)

theorem execPropose_moved (tag : Tag) (base : BitVec 16) (items : List RawItem) :
    NextIn Moved s (execPropose h f tag base items s) := by
  unfold execPropose
  split
  · exact nextIn_next (moved_requestAttached h f tag _
      (fun u => moved_of_told (told_takePropose h tag base items u)) s)
  · exact nextIn_next (moved_malformed h f true s)

theorem moved_takePark (tag : Tag) : Moved s (takePark h tag s) := by
  have hans := fun st u => moved_of_told (told_answerStatus h tag st u)
  unfold takePark
  split
  · exact hans _ s
  · exact (hans _ _).after (.rest rfl)

theorem moved_takeUnpark (tag : Tag) : Moved s (takeUnpark h tag s) := by
  have hans := moved_of_told (told_answerStatus h tag .ok s)
  exact .ite ((hans.trans (moved_leavePark h _)).trans (moved_of_told (told_exitCause _))) hans

end Frames

/-! ## RESET_N and the other units -/

section Units

variable (s : State)

/-- R145, R155, R157, R164: RESET_N gives every side its DOWN values. -/
theorem moved_assertReset : Moved s (assertReset s) := fun g => by
  have hdown : (assertReset s).host g = HostSide.down none := PerHost.get_const _ g
  rw [hdown]
  exact .single (.down _ none)

theorem execResetNRelease_moved : NextIn Moved s (execResetNRelease s) := by
  have hrelease : Moved s (releaseReset s) := fun g => by
    rw [releaseReset_host]
    exact .single (.link (.quietUntil _ _))
  unfold execResetNRelease
  split
  · exact nextIn_stay s
  · exact nextIn_next hrelease

theorem execModeLoadIssue_moved : NextIn Moved s (execModeLoadIssue s) := by
  unfold execModeLoadIssue
  split
  · exact nextIn_stay s
  · split
    · split <;> exact nextIn_told (.rest rfl)
    all_goals exact nextIn_stay s

theorem execTrainStepIssue_moved : NextIn Moved s (execTrainStepIssue s) := by
  unfold execTrainStepIssue
  split
  · exact nextIn_stay s
  · split
    · exact nextIn_told (.rest rfl)
    all_goals exact nextIn_stay s

theorem execModeLoadCompletion_moved : NextIn Moved s (execModeLoadCompletion s) := by
  unfold execModeLoadCompletion
  split
  · exact nextIn_stay s
  · split
    · exact nextIn_told (told_landModeLoad _ _ s)
    all_goals exact nextIn_stay s

theorem execTrainStepCompletion_moved (sample : Bool) :
    NextIn Moved s (execTrainStepCompletion sample s) := by
  unfold execTrainStepCompletion
  split
  · exact nextIn_stay s
  · split
    · exact nextIn_next (moved_landTrainStep _ sample s)
    all_goals exact nextIn_stay s

/-! ## Deadlines, issues and completions of the lease table -/

theorem execHoldDeadlineExpiry_moved (b : Bank) (h : HostId) :
    NextIn Moved s (execHoldDeadlineExpiry b h s) := by
  unfold execHoldDeadlineExpiry
  split
  · exact nextIn_stay s
  · exact nextIn_iteTold (told_expireHold b h _ s)

theorem execWaitDeadlineExpiry_moved (b : Bank) (h : HostId) :
    NextIn Moved s (execWaitDeadlineExpiry b h s) := by
  unfold execWaitDeadlineExpiry
  split
  · exact nextIn_stay s
  · exact nextIn_iteTold (told_withdrawWaiter b h .timedOut s)

theorem execActivateIssue_moved : NextIn Moved s (execActivateIssue s) := by
  unfold execActivateIssue
  split
  · exact nextIn_told (told_issueActivate _ s)
  all_goals exact nextIn_stay s

theorem execPrechargeIssue_moved : NextIn Moved s (execPrechargeIssue s) := by
  unfold execPrechargeIssue
  split
  · exact nextIn_told (.rest rfl)
  all_goals exact nextIn_stay s

theorem execBurstIssue_moved : NextIn Moved s (execBurstIssue s) := by
  unfold execBurstIssue
  split
  · exact nextIn_told (told_issueBurst _ s)
  all_goals exact nextIn_stay s

theorem execActivateCompletion_moved (b : Bank) : NextIn Moved s (execActivateCompletion b s) := by
  unfold execActivateCompletion
  split
  · exact nextIn_iteTold (.behind (told_landActivate b _ (keepPlace s)) rfl)
  all_goals exact nextIn_stay s

theorem execPrechargeCompletion_moved (b : Bank) :
    NextIn Moved s (execPrechargeCompletion b s) := by
  unfold execPrechargeCompletion
  split
  · exact nextIn_iteTold (told_landPrecharge b s)
  all_goals exact nextIn_stay s

end Units

/-- Every command does nothing to the hosts' sides but moves. -/
theorem exec_moved (c : Instr) (s : State) : NextIn Moved s (exec c s) := by
  cases c with
  | resetNAssert => exact nextIn_next (moved_assertReset s)
  | resetNRelease => exact execResetNRelease_moved s
  | holdPhaseEnd | settlePhaseEnd => exact nextIn_iteTold (.rest rfl)
  | lockPhaseEnd => exact nextIn_iteTold (told_endLock s)
  | intervalExpiry => exact nextIn_iteTold (.behind (told_expireInterval (keepPlace s)) rfl)
  | holdDeadlineExpiry b h => exact execHoldDeadlineExpiry_moved s b h
  | waitDeadlineExpiry b h => exact execWaitDeadlineExpiry_moved s b h
  | ballotDeadlineExpiry => exact nextIn_iteTold (told_abandon .timeout s)
  | drainDeadlineExpiry =>
    exact nextIn_iteTold ((told_clearDrainDeadline s).trans (told_massRevoke .config _))
  | silenceDeadlineExpiry h => exact nextIn_ite fun _ => moved_linkDown h s
  | quietEnd h => exact execQuietEnd_moved s h
  | sendTimerExpiry h => exact execSendTimerExpiry_moved s h
  | sendFrame h => exact execSendFrame_moved s h
  | receiveIdleFrame h f => exact execReceiveIdleFrame_moved s h f
  | receiveNakFrame h f n => exact execReceiveNakFrame_moved s h f n
  | receiveCorruptedFrame h => exact execReceiveCorruptedFrame_moved s h
  | messageFrameDiscarded h f tagged => exact execMessageFrameDiscarded_moved s h f tagged
  | malformedMessage h f tagged => exact nextIn_next (moved_malformed h f tagged s)
  | join h f tag => exact nextIn_next (moved_request h f tag .join (moved_takeJoin h tag) s)
  | joinComplete => exact nextIn_next (moved_completeJoins s)
  | leave h f tag => exact nextIn_next (moved_requestAttached h f tag .leave (moved_takeLeave h) s)
  | leaveComplete h => exact nextIn_next (moved_completeLeave h s)
  | openLease h f tag bank row mode wait =>
    exact nextIn_next (moved_requestAttached h f tag _
      (fun u => moved_of_told (told_takeOpen h tag bank row mode wait u)) s)
  | closeLease h f tag bank =>
    exact nextIn_next (moved_requestAttached h f tag _
      (fun u => moved_of_told (told_takeClose h tag bank u)) s)
  | closeComplete b h | revocationFinish b h => exact nextIn_iteTold (told_finishHolder b h s)
  | grantFromQueue b => exact nextIn_told (told_serveBank b s)
  | read h f tag bank bursts col =>
    exact nextIn_next
      (moved_request h f tag .read (fun u => moved_of_told (told_transferRequest _ u)) s)
  | write h f tag bank bursts col payload => exact execWrite_moved s h f tag bank bursts col payload
  | intakeTake => exact nextIn_told (told_takeIntake s)
  | propose h f tag base items => exact execPropose_moved s h f tag base items
  | vote h f tag number accept =>
    exact nextIn_next (moved_requestAttached h f tag .vote
      (fun u => moved_of_told (told_takeVote h tag number accept u)) s)
  | drainComplete => exact nextIn_iteTold (told_beginApply s)
  | commit => exact nextIn_iteTold (told_commitProposal s)
  | park h f tag =>
    exact nextIn_next (moved_requestAttached h f tag .park (fun u => moved_takePark u h tag) s)
  | unpark h f tag =>
    exact nextIn_next (moved_requestAttached h f tag .unpark (fun u => moved_takeUnpark u h tag) s)
  | standbyEntering | standbyEnterOffer => exact nextIn_iteTold (.rest rfl)
  | query h f tag =>
    exact nextIn_next
      (moved_request h f tag .query (fun u => moved_of_told (told_answer h tag .ok _ u)) s)
  | queryBank h f tag bank =>
    exact nextIn_next (moved_requestAttached h f tag _
      (fun u => moved_of_told (told_takeQueryBank h tag bank u)) s)
  | noteAck h f n => exact nextIn_next (moved_deliver h f (fun u _ => moved_takeNoteAck h n u) s)
  | notificationDelivery h => exact execNotificationDelivery_moved s h
  | refreshRequest => exact nextIn_iteTold (told_makeAccountOffer s)
  | setupEnd b | commandSlotEnd | writeRecoveryEnd b => exact nextIn_iteTold (.rest rfl)
  | activateIssue => exact execActivateIssue_moved s
  | prechargeIssue => exact execPrechargeIssue_moved s
  | burstIssue => exact execBurstIssue_moved s
  | refreshIssue | shortCalIssue | longCalIssue | standbyEnterIssue | standbyExitIssue =>
    exact nextIn_issue fun _ => .rest rfl
  | modeLoadIssue => exact execModeLoadIssue_moved s
  | trainStepIssue => exact execTrainStepIssue_moved s
  | activateCompletion b => exact execActivateCompletion_moved s b
  | prechargeCompletion b => exact execPrechargeCompletion_moved s b
  | burstCompletion b => exact nextIn_iteTold (.behind (told_completeBurst b (keepPlace s)) rfl)
  | refreshCompletion | shortCalCompletion => exact nextIn_iteTold (told_landAccountOp _ s)
  | longCalCompletion => exact nextIn_iteTold (.behind (told_beginAttempt 0 .startUp _) rfl)
  | modeLoadCompletion => exact execModeLoadCompletion_moved s
  | trainStepCompletion sample => exact execTrainStepCompletion_moved s sample
  | standbyEnterCompletion => exact nextIn_iteTold (told_landEnter s)
  | standbyExitCompletion => exact nextIn_iteTold (told_landExit s)

/-- So does every step: a tick moves the clock alone. -/
theorem step_moved {s t : State} (ht : step s = .next t) : Moved s t := by
  cases hp : s.pending with
  | nil =>
    rw [step_nil s hp] at ht
    cases ht
    exact .ite (.refl s) (.rest rfl)
  | cons c rest =>
    rw [step_cons s c rest hp] at ht
    exact exec_moved c { s with pending := rest } t ht

end Sys2Proof.Links
end

section
/-! PROOFS. The laws of the replay buffers (R145, R152, R153), kept by every move of a link (O12). -/

namespace Sys2Proof.Links

open Sys2Proof Sys2Proof.Machine Sys2Proof.Safety Sys2Proof.Leases Sys2Proof.Ports

/-! ## Consecutive numbers -/

theorem consecutiveTo_nil (next : Seq) : consecutiveTo next [] := nofun

theorem consecutiveTo_suffix {next : Seq} {k l : List Seq} (h : consecutiveTo next l)
    (hk : k <:+ l) : consecutiveTo next k := by
  obtain ⟨older, rfl⟩ := hk
  intro i hi
  have hat := h (older.length + i) (by rw [List.length_append]; omega)
  rw [List.getElem?_append_right (by omega), List.length_append] at hat
  rwa [Nat.add_sub_cancel_left, Nat.add_sub_add_left] at hat

/-- The next number follows the last. -/
theorem consecutiveTo_concat {next : Seq} {l : List Seq} (h : consecutiveTo next l) :
    consecutiveTo (next + 1#8) (l ++ [next]) := by
  intro i hi
  rw [List.length_append, List.length_singleton] at hi ⊢
  rcases Nat.lt_succ_iff_lt_or_eq.mp hi with hlt | rfl
  · have hrest : l.length + 1 - i = (l.length - i) + 1 := by omega
    rw [List.getElem?_append_left hlt, h i hlt, hrest, BitVec.ofNat_add]
    congr 1
    bv_omega
  · rw [List.getElem?_concat_length, Nat.add_sub_cancel_left]
    congr 1
    bv_omega

/-! ## Frames that leave the replay buffer (R152, R153) -/

theorem dropThrough_suffix (a : Seq) (l : List (Seq × OutMsg)) : dropThrough a l <:+ l :=
  (List.drop_suffix _ _).trans (List.dropWhile_suffix _)

theorem buffered_iff (a : Seq) (l : List (Seq × OutMsg)) :
    buffered a l = true ↔ ∃ x ∈ l, x.1 = a := by simp [buffered]

theorem buffered_head {n : Seq} {l : List (Seq × OutMsg)} (h : l.head?.map (fun x => x.1) = some n) :
    buffered n l = true := by
  obtain ⟨x, hx, rfl⟩ := Option.map_eq_some_iff.mp h
  exact (buffered_iff _ _).mpr ⟨x, List.mem_of_mem_head? hx, rfl⟩

/-- R152: the replay position stays on a frame of the buffer. -/
theorem buffered_movePosition {p : Option Seq} {l : List (Seq × OutMsg)} {n : Seq}
    (h : movePosition p l = some n) : buffered n l = true := by
  unfold movePosition at h
  split at h
  · cases h
  · split at h
    next hb =>
      cases h
      exact hb
    · exact buffered_head h

/-- R153: the replay goes on with a frame of the buffer. -/
theorem buffered_nextPosition {p n : Seq} {l : List (Seq × OutMsg)}
    (h : nextPosition p l = some n) : buffered n l = true := by
  obtain ⟨x, hx, hn⟩ := (buffered_iff _ _).mp (buffered_head h)
  exact (buffered_iff _ _).mpr ⟨x, (dropThrough_suffix _ _).subset hx, hn⟩

/-- R153: a frame that is named stays when the older ones leave. -/
theorem buffered_dropOlder {n : Seq} {l : Link} (h : buffered n l.replayBuffer = true) :
    buffered n (l.dropOlder n).replayBuffer = true := by
  obtain ⟨x, hx, hn⟩ := (buffered_iff _ _).mp h
  have hne : l.replayBuffer.dropWhile (fun x => decide (x.1 ≠ n)) ≠ [] := fun hnil => by
    simpa [hn] using List.dropWhile_eq_nil_iff.mp hnil x hx
  have hhead := List.head_dropWhile_not (fun x : Seq × OutMsg => decide (x.1 ≠ n)) hne
  exact (buffered_iff _ _).mpr ⟨_, List.head_mem hne, by simpa using hhead⟩

/-! ## One link -/

section Laws

variable {l k : Link}

/-- The laws of a link that has lost frames of its buffer at most. -/
theorem linkSound_shorter (h : LinkSound l) (hbuf : k.replayBuffer <:+ l.replayBuffer)
    (hsame : (k.nextSend, k.idleRun, k.state) = (l.nextSend, l.idleRun, l.state))
    (hcount : k.replayCount ≤ 4)
    (hpos : ∀ n, k.replayPos = some n → buffered n k.replayBuffer = true) : LinkSound k := by
  obtain ⟨hlen, hnum, -, -, hrun⟩ := h
  simp only [Prod.mk.injEq] at hsame
  obtain ⟨hnext, hidle, hstate⟩ := hsame
  refine ⟨hbuf.length_le.trans hlen, ?_, hcount, hpos, by rwa [hidle, hstate]⟩
  rw [hnext]
  exact consecutiveTo_suffix hnum (hbuf.map _)

/-- A link with nothing to replay whose IDLE run goes with its state. -/
theorem linkSound_empty (hbuf : l.replayBuffer = []) (hcount : l.replayCount = 0)
    (hpos : l.replayPos = none)
    (hrun : l.idleRun ≤ 3 ∧ (l.state = .quiet → l.idleRun = 0) ∧
      (l.state = .listening → l.idleRun ≤ 2)) : LinkSound l := by
  refine ⟨by simp [hbuf], ?_, by simp [hcount], by simp [hpos], hrun⟩
  rw [hbuf]
  exact consecutiveTo_nil _

theorem linkSound_down (quiet : Option Time) : LinkSound (Link.down quiet) :=
  linkSound_empty rfl rfl rfl ⟨Nat.zero_le 3, fun _ => rfl, fun _ => Nat.zero_le 2⟩

/-- R152: an acknowledgement takes the frame that it names and the older ones. -/
theorem linkSound_takeAck (h : LinkSound l) (a : Seq) : LinkSound (l.takeAck a) := by
  unfold Link.takeAck
  split
  · exact linkSound_shorter h (dropThrough_suffix a _) rfl (Nat.zero_le _)
      fun n hn => buffered_movePosition hn
  · exact h

theorem linkSound_discard (h : LinkSound l) : LinkSound l.discard := by
  unfold Link.discard
  split <;> exact h

theorem linkSound_compareIdle (h : LinkSound l) (f : FrameHdr) : LinkSound (l.compareIdle f) := by
  unfold Link.compareIdle
  split <;> exact h

/-- R153: at most four replays begin before the link goes DOWN. -/
theorem linkSound_replaying {n : Seq} (h : LinkSound l) (hb : buffered n l.replayBuffer = true)
    (hc : (l.dropOlder n).replayCount ≠ 4) : LinkSound (replaying n l) := by
  have hcount : (l.dropOlder n).replayCount ≤ 4 := by
    obtain ⟨-, -, hle, -⟩ := h
    unfold Link.dropOlder
    dsimp only
    split
    · exact hle
    · exact Nat.zero_le 4
  refine linkSound_shorter h (List.dropWhile_suffix _) rfl ?_ fun m hm => ?_
  · exact Nat.lt_of_le_of_ne hcount hc
  · cases hm
    exact buffered_dropOlder hb

/-- R151: a message sent first joins the buffer under the next number. -/
theorem linkSound_keeps (h : LinkSound l) (m : OutMsg) (hroom : l.replayBuffer.length < 8)
    (hbuf : k.replayBuffer = l.replayBuffer ++ [(l.nextSend, m)])
    (hnext : k.nextSend = l.nextSend + 1#8)
    (hsame : (k.replayCount, k.replayPos, k.idleRun, k.state) =
      (l.replayCount, l.replayPos, l.idleRun, l.state)) : LinkSound k := by
  obtain ⟨-, hnum, hcount, hpos, hrun⟩ := h
  simp only [Prod.mk.injEq] at hsame
  obtain ⟨hc, hp, hi, hs⟩ := hsame
  refine ⟨?_, ?_, by rwa [hc], fun n hn => ?_, by rwa [hi, hs]⟩
  · rw [hbuf, List.length_append]
    exact hroom
  · rw [hbuf, hnext, List.map_append]
    exact consecutiveTo_concat hnum
  · obtain ⟨x, hx, hxn⟩ := (buffered_iff _ _).mp (hpos n (hp ▸ hn))
    exact (buffered_iff _ _).mpr ⟨x, by rw [hbuf]; exact List.mem_append_left _ hx, hxn⟩

/-- R151, R153: what a link sends leaves its laws. -/
theorem linkSound_sendNext (h : LinkSound l) (now : Time) : LinkSound (l.sendNext now) := by
  obtain ⟨-, -, hcount, -⟩ := id h
  have hidle : LinkSound (if due now l.sendTimer then l.transmit now l.nextSend .idle else l) := by
    split <;> exact h
  unfold Link.sendNext
  split
  · exact h
  · split
    · exact linkSound_shorter h List.suffix_rfl rfl hcount fun n => buffered_nextPosition
    · split
      next m rest hq =>
        split
        next hroom => exact linkSound_keeps h m hroom rfl rfl rfl
        · exact hidle
      · exact hidle

/-- Every move of a link keeps its laws. -/
theorem LinkMove.sound (hm : LinkMove l k) (h : LinkSound l) : LinkSound k := by
  obtain ⟨hlen, hnum, hcount, hpos, hrun, hquiet, hlisten⟩ := id h
  cases hm with
  | quietUntil | accepts | idles => exact h
  | listens now hq =>
    exact ⟨hlen, hnum, hcount, hpos, hrun, nofun, fun _ => (hquiet hq).trans_le (Nat.zero_le 2)⟩
  | counts hl hn =>
    exact ⟨hlen, hnum, hcount, hpos, Nat.succ_le_of_lt (Nat.lt_succ_of_lt hn),
      fun hq => absurd (hl.symm.trans hq) (by decide), fun _ => hn⟩
  | comesUp now hl =>
    exact linkSound_empty rfl rfl rfl ⟨Nat.succ_le_succ (hlisten hl), nofun, nofun⟩
  | breaks =>
    exact ⟨hlen, hnum, hcount, hpos, Nat.zero_le 3, fun _ => rfl, fun _ => Nat.zero_le 2⟩
  | hears now f => 
    exact linkSound_takeAck (l := { l with silence := some (now + Config.silenceTime) }) h f.ack
  | discards => exact linkSound_discard h
  | compares f => exact linkSound_compareIdle h f
  | replays n hb hc => exact linkSound_replaying h hb hc
  | forgets => exact linkSound_empty rfl rfl rfl ⟨hrun, hquiet, hlisten⟩
  | sends now => exact linkSound_sendNext h now

end Laws

/-! ## Every host -/

/-- Answers and notifications move of a link the send queue alone. -/
theorem toldSide_linkSound {p q : HostSide} (h : ToldSide p q) (hp : LinkSound p.link) :
    LinkSound q.link := by
  rw [h.link]
  exact hp

theorem SideMove.linkSound {p q : HostSide} (h : SideMove p q) (hp : LinkSound p.link) :
    LinkSound q.link := by
  cases h with
  | answered tag st x => exact toldSide_linkSound (.answered tag st x .same) hp
  | notified n => exact toldSide_linkSound (.notified n .same) hp
  | port | taken | acked | dropped => exact hp
  | link hm => exact hm.sound hp
  | delivers =>
    unfold HostSide.deliverNote
    split
    · split <;> exact hp
    · exact hp
  | down quiet => exact linkSound_down quiet

/-- Settles O12: a step does nothing to a link but moves, and every move keeps its laws. -/
theorem stepKeepsReplayLaws : Obligations.StepKeepsReplayLaws := by
  intro s t hs ht g
  exact (step_moved ht g).keeps (P := fun p => LinkSound p.link) SideMove.linkSound (hs g)

end Sys2Proof.Links
end

section
/-! PROOFS. The bounds of the send queues (R150, R151) and the laws of the notification queues (R164), kept
by every move of a host's side (O13). -/

namespace Sys2Proof.Links

open Sys2Proof Sys2Proof.Machine Sys2Proof.Safety Sys2Proof.Leases Sys2Proof.Ports

/-! ## Tags and messages counted -/

theorem outstanding_eq (p : HostSide) :
    p.outstanding = p.tags.toList.countP fun t => t.isSome := (List.countP_eq_length_filter).symm

theorem outstanding_le (p : HostSide) : p.outstanding ≤ 16 := by
  rw [outstanding_eq]
  exact List.countP_le_length.trans_eq p.tags.length_toList

/-- R157: one tag replaced, the OUTSTANDING ones are counted anew. -/
theorem outstanding_set (p : HostSide) (tag : Tag) (v : Option ReqKind) :
    HostSide.outstanding { p with tags := p.tags.set tag.val v } =
      p.outstanding - (if p.tags[tag.val].isSome then 1 else 0) + (if v.isSome then 1 else 0) := by
  rw [outstanding_eq, outstanding_eq]
  simp only [Vector.toList_set]
  rw [List.countP_set (by simp)]
  simp

theorem outstanding_pos {p : HostSide} {tag : Tag} (h : p.tags[tag.val] ≠ none) :
    0 < p.outstanding := by
  rw [outstanding_eq, List.countP_pos_iff]
  exact ⟨p.tags[tag.val], by simp, Option.isSome_iff_ne_none.mpr h⟩

/-- R157: a FREE tag that is taken is one more. -/
theorem outstanding_taken {p : HostSide} {tag : Tag} (kind : ReqKind)
    (h : p.tags[tag.val] = none) :
    HostSide.outstanding { p with tags := p.tags.set tag.val (some kind) } = p.outstanding + 1 := by
  simp [outstanding_set, h]

/-- R157: an OUTSTANDING tag that is answered is one less. -/
theorem outstanding_answered {p : HostSide} {tag : Tag} (h : p.tags[tag.val] ≠ none) :
    HostSide.outstanding { p with tags := p.tags.set tag.val none } + 1 = p.outstanding := by
  have hpos := outstanding_pos h
  rw [outstanding_set, if_pos (Option.isSome_iff_ne_none.mpr h), Option.isSome_none,
    if_neg Bool.false_ne_true]
  omega

/-! ## Send queues (R150, R151) -/

/-- A link and tags with no more in the queue and no more tags OUTSTANDING are within the bounds too. -/
theorem sendQueueSound_less {p q : HostSide} (h : SendQueueSound p)
    (hq : q.link.sendQueue.Sublist p.link.sendQueue) (ht : q.tags = p.tags) : SendQueueSound q := by
  obtain ⟨hsum, hnotes⟩ := h
  have hresp : q.link.responsesWaiting ≤ p.link.responsesWaiting := (hq.filter _).length_le
  have hwait : q.link.notesWaiting ≤ p.link.notesWaiting := (hq.filter _).length_le
  have hout : q.outstanding = p.outstanding := by rw [outstanding_eq, outstanding_eq, ht]
  exact ⟨by omega, by omega⟩

/-- R157: the response takes the place of its tag. -/
theorem sendQueueSound_answered {p : HostSide} (h : SendQueueSound p) (tag : Tag) (st : Status)
    (x : Payload) : SendQueueSound (answeredSide tag st x p) := by
  unfold answeredSide
  split
  · exact h
  next kind ht =>
    obtain ⟨hsum, hnotes⟩ := h
    have hout := outstanding_answered (p := p) (tag := tag) (by simp [ht])
    have hresp : (sideAnswers p tag ⟨tag, kind, st, x⟩).link.responsesWaiting =
        p.link.responsesWaiting + 1 := by
      simp [sideAnswers, Link.responsesWaiting, OutMsg.isNote]
    have hwait : (sideAnswers p tag ⟨tag, kind, st, x⟩).link.notesWaiting =
        p.link.notesWaiting := by
      simp [sideAnswers, Link.notesWaiting, OutMsg.isNote]
    have hfreed : (sideAnswers p tag ⟨tag, kind, st, x⟩).outstanding + 1 = p.outstanding := hout
    exact ⟨by omega, by omega⟩

/-- R150: a request that is not held back leaves room for its response. -/
theorem sendQueueSound_taken {p : HostSide} {tag : Tag} (kind : ReqKind)
    (hfree : p.tags[tag.val] = none) (hroom : p.heldBack true = false) (h : SendQueueSound p) :
    SendQueueSound { p with tags := p.tags.set tag.val (some kind) } := by
  obtain ⟨-, hnotes⟩ := h
  have hout := outstanding_taken kind hfree
  have hle := outstanding_le { p with tags := p.tags.set tag.val (some kind) }
  have hlimit : Config.responseLimit = 16 := rfl
  simp only [HostSide.heldBack, Bool.true_and, Bool.and_eq_false_iff, decide_eq_false_iff_not,
    hlimit] at hroom
  refine ⟨?_, hnotes⟩
  change p.link.responsesWaiting + _ ≤ 16
  omega

/-- R166: a notification is delivered while fewer than four wait. -/
theorem sendQueueSound_deliverNote {p : HostSide} (h : SendQueueSound p) :
    SendQueueSound p.deliverNote := by
  unfold HostSide.deliverNote
  split
  next hr =>
    have hroom : p.link.notesWaiting < 4 := by
      simp only [HostSide.deliverReady, Bool.and_eq_true, decide_eq_true_eq] at hr
      obtain ⟨-, hfew⟩ := hr
      exact hfew
    split
    · exact h
    · obtain ⟨hsum, -⟩ := h
      refine ⟨?_, ?_⟩
      · simpa [Link.responsesWaiting, OutMsg.isNote, HostSide.outstanding] using hsum
      · simpa [Link.notesWaiting, List.filter_cons, OutMsg.isNote] using hroom
  · exact h

/-- R151: what a link sends leaves its queue from the head. -/
theorem sendNext_sendQueue (l : Link) (now : Time) :
    (l.sendNext now).sendQueue.Sublist l.sendQueue := by
  have hidle : (if due now l.sendTimer then l.transmit now l.nextSend .idle else l).sendQueue =
      l.sendQueue := by split <;> rfl
  unfold Link.sendNext
  split
  · exact .refl _
  · split
    · exact .refl _
    · split
      next m rest hq =>
        split
        · exact hq ▸ List.sublist_cons_self m rest
        · rw [hidle]
      · rw [hidle]

/-- A move of a link lets no message into its send queue. -/
theorem LinkMove.sendQueue {l k : Link} (h : LinkMove l k) : k.sendQueue.Sublist l.sendQueue := by
  cases h with
  | comesUp => exact List.nil_sublist _
  | hears now f =>
    rw [Link.takeValid, takeAck_sendQueue]
  | discards => unfold Link.discard; split <;> exact .refl _
  | compares f => unfold Link.compareIdle; split <;> exact .refl _
  | sends now => exact sendNext_sendQueue l now
  | quietUntil | listens | counts | breaks | accepts | replays | forgets | idles => exact .refl _

theorem SideMove.sendQueueSound {p q : HostSide} (hm : SideMove p q) (h : SendQueueSound p) :
    SendQueueSound q := by
  cases hm with
  | answered tag st x => exact sendQueueSound_answered h tag st x
  | notified n => exact sendQueueSound_less h (by rw [sideNotified_link]) (sideNotified_tags _ _ _)
  | port | acked => exact h
  | link hl => exact sendQueueSound_less h hl.sendQueue rfl
  | taken kind hfree hroom => exact sendQueueSound_taken kind hfree hroom h
  | delivers => exact sendQueueSound_deliverNote h
  | dropped => exact sendQueueSound_less h List.filter_sublist rfl
  | down quiet => exact ⟨(Nat.zero_add _).trans_le (outstanding_le _), Nat.zero_le 4⟩

/-! ## Notification queues (R164 to R169) -/

/-- R164: the entries of a notification queue: the delivered ones first, numbered up to the next number. -/
structure Delivered (next : Seq) (d u entries : List NoteEntry) : Prop where
  split : entries = d ++ u
  few : d.length ≤ 4
  undelivered : ∀ e ∈ u, e.number = none
  delivered : ∀ e ∈ d, e.number ≠ none
  numbers : consecutiveTo next (d.filterMap fun e => e.number)

theorem noteQueueSound_iff (q : NoteQueue) : NoteQueueSound q ↔
    q.entries.length ≤ 16 ∧ ∃ d u, Delivered q.next d u q.entries := by
  refine and_congr_right fun _ => exists_congr fun d => exists_congr fun u => ?_
  exact ⟨fun ⟨h₁, h₂, h₃, h₄, h₅⟩ => ⟨h₁, h₂, h₃, h₄, h₅⟩,
    fun ⟨h₁, h₂, h₃, h₄, h₅⟩ => ⟨h₁, h₂, h₃, h₄, h₅⟩⟩

theorem noteQueueSound_nil {q : NoteQueue} (h : q.entries = []) : NoteQueueSound q :=
  ⟨by simp [h], [], [], by simp [h, consecutiveTo_nil]⟩

namespace Delivered

variable {next : Seq} {d u entries : List NoteEntry}

/-- R166: the delivered entries are those that have a number. -/
theorem filter_isSome (h : Delivered next d u entries) :
    entries.filter (fun e => e.number.isSome) = d := by
  have hu : u.filter (fun e => e.number.isSome) = [] := by
    simpa [List.filter_eq_nil_iff] using h.undelivered
  have hd : d.filter (fun e => e.number.isSome) = d := by
    simpa [List.filter_eq_self, Option.isSome_iff_ne_none] using h.delivered
  rw [h.split, List.filter_append, hu, hd, List.append_nil]

/-- R165: an entry joins the undelivered ones. -/
theorem push (h : Delivered next d u entries) (n : Notification) :
    Delivered next d (u ++ [⟨n, none⟩]) (entries ++ [⟨n, none⟩]) where
  split := by rw [h.split, List.append_assoc]
  few := h.few
  undelivered := by simpa [or_imp, forall_and] using h.undelivered
  delivered := h.delivered
  numbers := h.numbers

/-- R166: the oldest undelivered entry takes the next number. -/
theorem mark {e : NoteEntry} (h : Delivered next d (e :: u) entries) (hroom : d.length < 4) :
    Delivered (next + 1#8) (d ++ [{ e with number := some next }]) u
      (markDelivered next entries) where
  split := by
    have hmark : ∀ l : List NoteEntry, (∀ x ∈ l, x.number ≠ none) →
        markDelivered next (l ++ e :: u) = l ++ { e with number := some next } :: u := by
      intro l hl
      induction l with
      | nil => simp [markDelivered, h.undelivered e (by simp)]
      | cons x l ih =>
        have hx : ¬x.number.isNone = true := by simpa using hl x (by simp)
        rw [List.cons_append, markDelivered, if_neg hx,
          ih fun y hy => hl y (by simp [hy]), List.cons_append]
    rw [h.split, hmark d h.delivered, List.append_assoc]
    rfl
  few := by simpa using hroom
  undelivered := fun x hx => h.undelivered x (by simp [hx])
  delivered := by
    intro x hx
    rcases List.mem_append.mp hx with hx | hx
    · exact h.delivered x hx
    · simp [List.mem_singleton.mp hx]
  numbers := by
    rw [List.filterMap_append]
    exact consecutiveTo_concat h.numbers

/-- R167: the entries left by an acknowledgement of a delivered entry. -/
theorem ack {n : Seq} (h : Delivered next d u entries) (hn : ∃ e ∈ entries, e.number = some n) :
    ∃ d', d'.length < d.length ∧ Delivered next d' u (ackEntries n entries) := by
  obtain ⟨e, he, hen⟩ := hn
  rw [h.split] at he
  have hed : e ∈ d := (List.mem_append.mp he).resolve_right fun hu => by
    simp [h.undelivered e hu] at hen
  have hne : d.dropWhile (fun e => decide (e.number ≠ some n)) ≠ [] := fun hnil => by
    simpa [hen] using List.dropWhile_eq_nil_iff.mp hnil e hed
  obtain ⟨x, d', hd'⟩ := List.exists_cons_of_ne_nil hne
  have hsuffix : x :: d' <:+ d := hd' ▸ List.dropWhile_suffix _
  have hrest : d' <:+ d := (List.suffix_cons x d').trans hsuffix
  refine ⟨d', hsuffix.length_le, ?_, ?_, h.undelivered, fun y hy => h.delivered y (hrest.subset hy),
    consecutiveTo_suffix h.numbers (hrest.filterMap _)⟩
  · rw [ackEntries, h.split, List.dropWhile_append, hd']
    rfl
  · exact hrest.length_le.trans h.few

/-- R169: OVERFLOW stands behind the delivered entries. -/
theorem placeOverflow (h : Delivered next d u entries) :
    Delivered next d (⟨.overflow, none⟩ :: u) (placeOverflow entries) where
  split := by
    have hd : ∀ e ∈ d, e.number.isSome = true := fun e he =>
      Option.isSome_iff_ne_none.mpr (h.delivered e he)
    have htake : u.takeWhile (fun e => e.number.isSome) = [] := by
      cases u with
      | nil => rfl
      | cons e u => simp [h.undelivered e (by simp)]
    have hdrop : u.dropWhile (fun e => e.number.isSome) = u := by
      cases u with
      | nil => rfl
      | cons e u => simp [h.undelivered e (by simp)]
    rw [Machine.placeOverflow, h.split, List.takeWhile_append_of_pos hd,
      List.dropWhile_append_of_pos hd, htake, hdrop, List.append_nil]
  few := h.few
  undelivered := by simpa using h.undelivered
  delivered := h.delivered
  numbers := h.numbers

end Delivered

/-- R165: a notification joins the tail, or the overflow flag is set. -/
theorem noteQueueSound_push {q : NoteQueue} (h : NoteQueueSound q) (n : Notification) :
    NoteQueueSound (q.push n) := by
  unfold NoteQueue.push
  split
  next hroom =>
    obtain ⟨-, d, u, hd⟩ := (noteQueueSound_iff q).mp h
    exact (noteQueueSound_iff _).mpr 
      ⟨by rw [List.length_append]; exact hroom, d, _, hd.push n⟩
  · exact h

theorem noteQueueSound_notified {p : HostSide} (h : NoteQueueSound p.notes) (n : Notification) :
    NoteQueueSound (sideNotified true n p).notes := by
  unfold sideNotified
  split
  · exact noteQueueSound_push h n
  · exact h

theorem length_markDelivered (n : Seq) (l : List NoteEntry) :
    (markDelivered n l).length = l.length := by
  induction l with
  | nil => rfl
  | cons e l ih => unfold markDelivered; split <;> simp [ih]

/-- R166: one delivery while fewer than four entries are delivered. -/
theorem noteQueueSound_deliverNote {p : HostSide} (h : NoteQueueSound p.notes) :
    NoteQueueSound p.deliverNote.notes := by
  obtain ⟨hlen, d, u, hd⟩ := (noteQueueSound_iff _).mp h
  unfold HostSide.deliverNote
  split
  next hr =>
    have hroom : d.length < 4 := by
      simp only [HostSide.deliverReady, NoteQueue.delivered, hd.filter_isSome, Bool.and_eq_true,
        decide_eq_true_eq] at hr
      obtain ⟨⟨-, hfew⟩, -⟩ := hr
      exact hfew
    split
    · exact h
    next e he =>
      refine (noteQueueSound_iff _).mpr ⟨(length_markDelivered _ _).trans_le hlen, ?_⟩
      cases u with
      | nil =>
        have hmem := List.mem_of_find?_eq_some he
        have hnone := List.find?_some he
        rw [hd.split, List.append_nil] at hmem
        exact absurd (by simpa using hnone) (hd.delivered e hmem)
      | cons x u => exact ⟨_, u, hd.mark hroom⟩
  · exact h

/-- R167 to R169: an acknowledged entry makes the room that OVERFLOW takes. -/
theorem noteQueueSound_acknowledged {q : NoteQueue} {n : Seq} (h : NoteQueueSound q)
    (hn : ∃ e ∈ q.entries, e.number = some n) : NoteQueueSound (acknowledged n q) := by
  obtain ⟨hlen, d, u, hd⟩ := (noteQueueSound_iff q).mp h
  obtain ⟨d', hless, hack⟩ := hd.ack hn
  have hbefore : q.entries.length = d.length + u.length := by rw [hd.split, List.length_append]
  have hafter : (ackEntries n q.entries).length = d'.length + u.length := by
    rw [hack.split, List.length_append]
  unfold acknowledged
  split
  · have hover := hack.placeOverflow
    have hplaced : (placeOverflow (ackEntries n q.entries)).length = d'.length + (u.length + 1) := by
      rw [hover.split, List.length_append, List.length_cons]
    exact (noteQueueSound_iff _).mpr ⟨by dsimp only; omega, d', _, hover⟩
  · exact (noteQueueSound_iff _).mpr ⟨by dsimp only; omega, d', u, hack⟩

theorem SideMove.noteQueueSound {p q : HostSide} (hm : SideMove p q)
    (h : NoteQueueSound p.notes) : NoteQueueSound q.notes := by
  cases hm with
  | answered tag st x => rwa [answeredSide_notes]
  | notified n => exact noteQueueSound_notified h n
  | port | link | taken => exact h
  | delivers => exact noteQueueSound_deliverNote h
  | acked hn => exact noteQueueSound_acknowledged h hn
  | dropped => exact noteQueueSound_nil rfl
  | down quiet => exact noteQueueSound_nil rfl

/-- Settles O13: a step does nothing to a host's side but moves, and every move keeps the bounds of the
send queue and the laws of the notification queue. -/
theorem stepKeepsHostQueueLaws : Obligations.StepKeepsHostQueueLaws := by
  refine fun s t => ⟨fun hs ht g => ?_, fun hs ht g => ?_⟩
  · exact (step_moved ht g).keeps SideMove.sendQueueSound (hs g)
  · exact (step_moved ht g).keeps (P := fun p => NoteQueueSound p.notes) SideMove.noteQueueSound
      (hs g)

end Sys2Proof.Links
end

section
/-! PROOFS. The commands of a host link (chapter 8): how it comes up (O55), what an acknowledgement, a NAK
and a discarded frame do to it (O56, O57), and what it sends (O58). -/

namespace Sys2Proof.Links

open Sys2Proof Sys2Proof.Machine Sys2Proof.Safety Sys2Proof.Leases Sys2Proof.Ports

/-- The state with another link controller of one host. -/
abbrev withLink (s : State) (h : HostId) (l : Link) : State := s.setHost h { s.host h with link := l }

theorem withLink_self (s : State) (h : HostId) : withLink s h (s.link h) = s := s.setHost_self h

/-! ## The commands by the state of the link (R147 to R149) -/

section Listening

variable {s : State} {h : HostId}

/-- R147: QUIET ends with the first IDLE. -/
theorem exec_quietEnd (hq : (s.link h).state = .quiet) (hd : due s.now (s.link h).quietEnd = true) :
    exec (.quietEnd h) s = .next (withLink s h ((s.link h).listen s.now)) := if_pos ⟨hq, hd⟩

theorem exec_sendTimerExpiry (hd : due s.now (s.link h).sendTimer = true) :
    exec (.sendTimerExpiry h) s = .next (withLink s h ((s.link h).sendExpired s.now)) := if_pos hd

variable (hl : (s.link h).state = .listening) (f : FrameHdr)
include hl

theorem exec_receiveIdleFrame_listening : exec (.receiveIdleFrame h f) s = .next (countIdle h s) := by
  simp only [exec, execReceiveIdleFrame, hl]

theorem exec_receiveNakFrame_listening (n : Seq) :
    exec (.receiveNakFrame h f n) s = .next (withLink s h (s.link h).breakRun) := by
  simp only [exec, execReceiveNakFrame, hl]
  rfl

theorem exec_receiveCorruptedFrame_listening :
    exec (.receiveCorruptedFrame h) s = .next (withLink s h (s.link h).breakRun) := by
  simp only [exec, execReceiveCorruptedFrame, hl]
  rfl

/-- R147: no MESSAGE is delivered by a link that is not UP. -/
theorem exec_messageFrameDiscarded_listening (tagged : Bool) :
    exec (.messageFrameDiscarded h f tagged) s = .next (withLink s h (s.link h).breakRun) := by
  have hl' : (s.host h).link.state = .listening := hl
  have hd : (s.host h).delivers f tagged = false := by simp [HostSide.delivers, hl']
  simp only [exec, execMessageFrameDiscarded, hd, discardFrame, hl]
  rfl

end Listening

section Up

variable {s : State} {h : HostId} (hu : (s.link h).state = .up) (f : FrameHdr)
include hu

theorem exec_receiveIdleFrame_up : exec (.receiveIdleFrame h f) s =
    .next (withLink s h (((s.link h).takeValid s.now f).compareIdle f)) := by
  simp only [exec, execReceiveIdleFrame, hu]
  rfl

theorem exec_receiveNakFrame_up (n : Seq) : exec (.receiveNakFrame h f n) s =
    .next (takeNak h n (withLink s h ((s.link h).takeValid s.now f))) := by
  simp only [exec, execReceiveNakFrame, hu]
  rfl

theorem exec_receiveCorruptedFrame_up :
    exec (.receiveCorruptedFrame h) s = .next (withLink s h (s.link h).discard) := by
  simp only [exec, execReceiveCorruptedFrame, hu]
  rfl

theorem exec_messageFrameDiscarded_up {tagged : Bool}
    (hd : (s.host h).delivers f tagged = false) : exec (.messageFrameDiscarded h f tagged) s =
      .next (withLink s h (((s.link h).takeValid s.now f).discardMessage f)) := by
  simp only [exec, execMessageFrameDiscarded, hd, discardFrame, hu]
  rfl

/-- R151: SEND_FRAME and the expiry of the send timer send the same. -/
theorem exec_sends {c : Instr}
    (hc : c = .sendFrame h ∨ (c = .sendTimerExpiry h ∧ due s.now (s.link h).sendTimer = true)) :
    exec c s = .next (withLink s h ((s.link h).sendNext s.now)) := by
  rcases hc with rfl | ⟨rfl, hd⟩
  · exact if_pos hu
  · rw [exec_sendTimerExpiry hd, Link.sendExpired, hu]

end Up

/-- Settles O55: the end of QUIET, the IDLEs counted in LISTENING, the frames that break the run, and the
third IDLE. -/
theorem linkComesUp : Obligations.LinkComesUp := by
  refine fun s h => ⟨exec_quietEnd, fun hl hd => ?_, fun hl f => ⟨fun hn => ?_, fun hn => ?_,
    exec_receiveNakFrame_listening hl f, exec_receiveCorruptedFrame_listening hl,
    exec_messageFrameDiscarded_listening hl f⟩⟩
  · rw [exec_sendTimerExpiry hd, Link.sendExpired, hl]
    rfl
  · rw [exec_receiveIdleFrame_listening hl, countIdle_counts hn]
  · refine ⟨_, exec_receiveIdleFrame_listening hl f, ?_⟩
    rw [countIdle_comesUp hn.ge]
    refine ⟨changesOnly_setHost s h _, fun g hg => State.setHost_host_other s _ hg, ?_⟩
    rw [State.setHost_host_same, State.setHost_link_same]
    exact ⟨rfl, rfl, rfl, rfl, rfl, rfl, rfl, rfl, rfl, rfl, rfl, rfl⟩

/-! ## Acknowledgements (R148, R152) -/

section Acknowledged

variable {l : Link} {older newer : List (Seq × OutMsg)} {m : OutMsg} {a : Seq}
  (hb : l.replayBuffer = older ++ (a, m) :: newer) (ho : ∀ x ∈ older, x.1 ≠ a)
include hb

theorem buffered_named : buffered a l.replayBuffer = true :=
  (buffered_iff _ _).mpr ⟨(a, m), by simp [hb], rfl⟩

include ho

/-- R152: the frame that an acknowledgement names leaves the buffer with every older one. -/
theorem takeAck_named : l.takeAck a = { l with
    replayBuffer := newer, replayCount := 0, replayPos := movePosition l.replayPos newer } := by
  rw [Link.takeAck, if_pos (buffered_named hb), hb, dropThrough_append ho]

/-- R153: the older frames leave with a NAK of a buffered one, which itself stays. -/
theorem dropOlder_named : l.dropOlder a = { l with
    replayBuffer := (a, m) :: newer
    replayCount := if older = [] then l.replayCount else 0 } := by
  have hdrop : l.replayBuffer.dropWhile (fun x => decide (x.1 ≠ a)) = (a, m) :: newer := by
    rw [hb, List.dropWhile_append_of_pos (by simpa using ho), List.dropWhile_cons_of_neg (by simp)]
  have hhead : l.replayBuffer.head?.map (fun x => x.1) = some a ↔ older = [] := by
    rw [hb]
    cases older with
    | nil => simp
    | cons x older => simp [ho x (by simp)]
  simp only [Link.dropOlder, hdrop, hhead]

theorem find_named : l.replayBuffer.find? (fun x => decide (x.1 = a)) = some (a, m) := by
  rw [hb, List.find?_append, List.find?_eq_none.mpr (by simpa using ho)]
  simp

end Acknowledged

/-- R148: a link whose silence deadline has restarted. -/
def heard (now : Time) (l : Link) : Link := { l with silence := some (now + 2000000) }

theorem takeValid_unknown {l : Link} {f : FrameHdr} (now : Time)
    (h : ∀ x ∈ l.replayBuffer, x.1 ≠ f.ack) : l.takeValid now f = heard now l :=
  takeAck_unknown (l := heard now l) h

theorem takeValid_named {l : Link} {f : FrameHdr} (now : Time)
    {older newer : List (Seq × OutMsg)} {m : OutMsg}
    (hb : l.replayBuffer = older ++ (f.ack, m) :: newer) (ho : ∀ x ∈ older, x.1 ≠ f.ack) :
    l.takeValid now f = { heard now l with
      replayBuffer := newer, replayCount := 0, replayPos := movePosition l.replayPos newer } :=
  takeAck_named (l := heard now l) hb ho

/-- R149: an IDLE with the expected number makes the receiver NORMAL. -/
theorem compareIdle_expected {l : Link} {f : FrameHdr} (h : f.seq = l.expected) :
    l.compareIdle f = { l with receiver := .normal } := if_pos h

theorem movePosition_kept {n : Seq} {l : List (Seq × OutMsg)} (h : n ∈ l.map fun x => x.1) :
    movePosition (some n) l = some n := by
  obtain ⟨x, hx, hn⟩ := List.mem_map.mp h
  exact if_pos ((buffered_iff n l).mpr ⟨x, hx, hn⟩)

theorem movePosition_moved {n : Seq} {l : List (Seq × OutMsg)} (h : n ∉ l.map fun x => x.1) :
    movePosition (some n) l = l.head?.map fun x => x.1 := by
  refine if_neg fun hb => h ?_
  obtain ⟨x, hx, hn⟩ := (buffered_iff n l).mp hb
  exact List.mem_map.mpr ⟨x, hx, hn⟩

/-- Settles O56: an acknowledgement that names no frame of the buffer restarts the silence deadline alone;
one that does takes the frame and the older ones with it. -/
theorem acknowledgementActsOnReplayBuffer : Obligations.AcknowledgementActsOnReplayBuffer := by
  intro s h f hu hf
  have hexec := exec_receiveIdleFrame_up hu f
  rw [compareIdle_expected (by rwa [Link.takeValid, takeAck_expected])] at hexec
  refine ⟨fun hunknown => ?_, fun older newer m hb ho => ?_⟩
  · rw [hexec, takeValid_unknown s.now hunknown]
    rfl
  · rw [takeValid_named s.now hb ho] at hexec
    refine ⟨_, hexec, changesOnly_setHost s h _, fun g hg => State.setHost_host_other s _ hg, ?_⟩
    rw [State.setHost_host_same, State.setHost_link_same]
    refine ⟨rfl, fun hp => ?_, fun n hp => ?_⟩
    · exact congrArg (movePosition · newer) hp
    · have hpos : movePosition (s.link h).replayPos newer = movePosition (some n) newer :=
        congrArg (movePosition · newer) hp
      exact ⟨fun hin => hpos.trans (movePosition_kept hin),
        fun hout => hpos.trans (movePosition_moved hout)⟩

/-! ## NAKs, discards and replays (R149, R150, R153) -/

/-- R149: a discarded frame calls for a NAK while the receiver is NORMAL. -/
theorem discard_eq (l : Link) : l.discard =
    if l.receiver = .normal then { l with nakDue := some l.expected, receiver := .nakSent }
    else l := by
  unfold Link.discard Link.callNak
  cases l.receiver <;> rfl

/-- R149: the frames that are discarded carry the expected number or one of the 127 ahead of it. -/
theorem discardMessage_ahead {l : Link} {f : FrameHdr}
    (h : f.seq = l.expected ∨ (f.seq - l.expected).toNat ≤ 127) :
    l.discardMessage f = l.discard := by
  refine if_pos ?_
  by_cases he : f.seq = l.expected
  · exact .inl he
  · refine .inr ?_
    have hle := h.resolve_left he
    have hpos : 1 ≤ (f.seq - l.expected).toNat := by
      by_contra hz
      exact he (by bv_omega)
    simp only [aheadOf, hpos, hle, decide_true, Bool.and_self]

/-- R149: the others are duplicates. -/
theorem discardMessage_duplicate {l : Link} {f : FrameHdr}
    (h : 128 ≤ (f.seq - l.expected).toNat) : l.discardMessage f = l := by
  refine if_neg ?_
  rintro (he | ha)
  · simp [he] at h
  · simp only [aheadOf, Bool.and_eq_true, decide_eq_true_eq] at ha
    omega

section Naks

variable {s : State} {h : HostId} {n : Seq}

/-- R153: a NAK of a buffered frame starts a replay of it, unless four have begun. -/
theorem takeNak_replays {older newer : List (Seq × OutMsg)} {m : OutMsg}
    (hb : (s.link h).replayBuffer = older ++ (n, m) :: newer) (ho : ∀ x ∈ older, x.1 ≠ n)
    (hc : older ≠ [] ∨ (s.link h).replayCount < 4) :
    takeNak h n s = withLink s h { s.link h with
      replayBuffer := (n, m) :: newer
      replayCount := (if older = [] then (s.link h).replayCount else 0) + 1
      replayPos := some n } := by
  have hcount : ((s.link h).dropOlder n).replayCount ≠ Config.replayAttempts := by
    rw [dropOlder_named hb ho]
    dsimp only
    split
    next hnil => exact ((hc.resolve_left (not_not.mpr hnil)).ne)
    · decide
  refine ((if_pos (buffered_named hb)).trans (if_neg hcount)).trans ?_
  change withLink s h (replaying n (s.link h)) = _
  rw [replaying, dropOlder_named hb ho]

/-- R153: the fifth replay of one frame takes the link DOWN. -/
theorem takeNak_goesDown {newer : List (Seq × OutMsg)} {m : OutMsg}
    (hb : (s.link h).replayBuffer = (n, m) :: newer) (hc : (s.link h).replayCount = 4) :
    takeNak h n s = linkDown h s := by
  have hcount : ((s.link h).dropOlder n).replayCount = Config.replayAttempts := by
    rw [dropOlder_named (older := []) hb (by simp)]
    exact hc
  exact (if_pos (buffered_named (older := []) hb)).trans (if_pos hcount)

/-- R153: a NAK of no buffered frame acts where it names the next number, and else not at all. -/
theorem takeNak_unbuffered (hn : ∀ x ∈ (s.link h).replayBuffer, x.1 ≠ n) : takeNak h n s =
    if n = (s.link h).nextSend then withLink s h (allTaken (s.link h)) else s := by
  refine if_neg fun hb => ?_
  obtain ⟨x, hx, hxn⟩ := (buffered_iff _ _).mp hb
  exact hn x hx hxn

end Naks

/-- R145, R157: nothing is answered or told to a side whose port is DOWN and whose tags are FREE. -/
theorem toldSide_down {quiet : Option Time} {q : HostSide} (h : ToldSide (HostSide.down quiet) q) :
    q = HostSide.down quiet := by
  induction h with
  | same => rfl
  | answered tag st x _ ih => simp [ih, answeredSide, HostSide.down]
  | notified n _ ih => simp [ih, sideNotified, HostSide.down]

theorem host_down_of_told {s t : State} {h : HostId} {quiet : Option Time} (ht : Told s t)
    (hs : s.host h = HostSide.down quiet) : t.host h = HostSide.down quiet :=
  toldSide_down (hs ▸ ht.side h)

/-- R145, R154: the side of the host whose link goes DOWN takes its DOWN values and keeps them. -/
theorem linkDown_host (h : HostId) (s : State) :
    (linkDown h s).host h = HostSide.down (some (s.now + 2500000)) := by
  have hdown : (s.setHost h (HostSide.down (some (s.now + Config.quietTime)))).host h =
      HostSide.down (some (s.now + 2500000)) := State.setHost_host_same _ _ _
  have htorn := host_down_of_told (told_tearDown h _) hdown
  have hend : ∀ u, Told u (takeIntake (notifyAttached (.hostLeft h true) u)) := fun u =>
    (told_notifyAttached _ u).trans (told_takeIntake _)
  have hparked : ∀ u, (leavePark h u).host h = u.host h := fun _ => rfl
  unfold linkDown
  dsimp only
  split
  · have hleft := host_down_of_told (told_detachAgreement h _) htorn
    exact host_down_of_told (hend _) ((hparked _).trans hleft)
  · exact host_down_of_told (hend _) htorn
  all_goals exact hdown

/-- Settles O57: what the other frames do to an UP link, by what they carry and what the buffer holds. -/
theorem naksAndDiscards : Obligations.NaksAndDiscards := by
  intro s h f l hu hl
  refine ⟨?_, fun hunknown => ?_⟩
  · rw [exec_receiveCorruptedFrame_up hu, discard_eq]
  have hvalid : (s.link h).takeValid s.now f = l := (takeValid_unknown s.now hunknown).trans hl.symm
  have hlink : (withLink s h l).link h = l := State.setHost_link_same s h _
  have hexpected : l.expected = (s.link h).expected := by rw [hl]
  have hbuffer : l.replayBuffer = (s.link h).replayBuffer := by rw [hl]
  have hcount : l.replayCount = (s.link h).replayCount := by rw [hl]
  have hreceiver : l.receiver = (s.link h).receiver := by rw [hl]
  have hsecond : ∀ k, withLink (withLink s h l) h k = withLink s h k := fun k => by
    simp only [withLink, State.setHost_host_same, State.setHost_setHost]
  rw [← hexpected, ← hbuffer, ← hcount, ← hreceiver]
  refine ⟨fun hf => ?_, fun tagged hd => ⟨fun hahead => ?_, fun hdup => ?_⟩,
    fun n older newer m hb ho => ⟨fun hc => ?_, fun hnil hc => ?_⟩,
    fun n hn => ⟨fun hnext => ?_, fun hnext => ?_⟩⟩
  · rw [exec_receiveIdleFrame_up hu, hvalid, Link.compareIdle, if_neg hf]
    rfl
  · rw [exec_messageFrameDiscarded_up hu f hd, hvalid, discardMessage_ahead hahead, discard_eq]
  · rw [exec_messageFrameDiscarded_up hu f hd, hvalid, discardMessage_duplicate hdup]
  all_goals rw [exec_receiveNakFrame_up hu, hvalid]
  · rw [takeNak_replays (by rw [hlink]; exact hb) ho (by rw [hlink]; exact hc), hlink, hsecond]
  · subst hnil
    refine ⟨_, rfl, ?_⟩
    rw [takeNak_goesDown (by rw [hlink]; exact hb) (by rw [hlink]; exact hc)]
    exact linkDown_host h _
  all_goals rw [takeNak_unbuffered (by rw [hlink]; exact hn), hlink]
  · rw [if_pos (by rw [hnext, hl]), hsecond]
    rfl
  · rw [if_neg (by rw [hl]; exact hnext)]

/-! ## Sending (R151, R153) -/

section Sending

variable {l : Link} (now : Time)

theorem sendNext_nak {n : Seq} (hn : l.nakDue = some n) :
    l.sendNext now = { l with nakDue := none }.transmit now l.nextSend (.nak n) := by
  simp only [Link.sendNext, hn]

/-- R153: the frame at the replay position goes out again, and the position moves on. -/
theorem sendNext_replay {older newer : List (Seq × OutMsg)} {n : Seq} {m : OutMsg}
    (hn : l.nakDue = none) (hp : l.replayPos = some n)
    (hb : l.replayBuffer = older ++ (n, m) :: newer) (ho : ∀ x ∈ older, x.1 ≠ n) :
    l.sendNext now =
      { l with replayPos := newer.head?.map Prod.fst }.transmit now n (.message m) := by
  have hnext : nextPosition n l.replayBuffer = newer.head?.map fun x => x.1 := by
    rw [nextPosition, hb, dropThrough_append ho]
  simp only [Link.sendNext, hn, hp, Option.bind_some, find_named hb ho, hnext]

section Idle

variable (hn : l.nakDue = none) (hp : l.replayPos = none)
include hn hp

/-- R151: the head of the send queue goes out while the buffer has room for it. -/
theorem sendNext_message {m : OutMsg} {rest : List OutMsg} (hq : l.sendQueue = m :: rest)
    (hroom : l.replayBuffer.length < 8) : l.sendNext now =
      { l with
        sendQueue := rest
        replayBuffer := l.replayBuffer ++ [(l.nextSend, m)]
        nextSend := l.nextSend + 1#8 }.transmit now l.nextSend (.message m) := by
  simp only [Link.sendNext, hn, hp, Option.bind_none, hq]
  exact if_pos hroom

/-- R151: with nothing to send an IDLE goes out once the send timer has expired. -/
theorem sendNext_idle (hq : l.sendQueue = [] ∨ 8 ≤ l.replayBuffer.length) : l.sendNext now =
    if due now l.sendTimer then l.transmit now l.nextSend .idle else l := by
  simp only [Link.sendNext, hn, hp, Option.bind_none]
  split
  next m rest hm =>
    have hfull := hq.resolve_left (by simp [hm])
    exact if_neg (Nat.not_lt.mpr hfull)
  · rfl

end Idle

end Sending

/-- Settles O58: what an UP link sends, case by case in the order of R151. -/
theorem sendingFollowsItsOrder : Obligations.SendingFollowsItsOrder := by
  rintro s h l a hu rfl rfl c hc
  rw [exec_sends hu hc]
  refine ⟨fun n hn => ?_, fun hn => ⟨fun older newer n m hp hb ho => ?_,
    fun hp => ⟨fun m rest hq hroom => ?_, fun hq => ?_⟩⟩⟩
  · rw [sendNext_nak s.now hn]
    rfl
  · rw [sendNext_replay s.now hn hp hb ho]
    rfl
  · rw [sendNext_message s.now hn hp hq hroom]
    rfl
  · rw [sendNext_idle s.now hn hp hq]
    refine ⟨fun hd => ?_, fun hd => ?_⟩
    · rw [if_pos hd]
      rfl
    · rw [if_neg (by simp [hd]), withLink_self]

end Sys2Proof.Links
end

section
/-! PROOFS. Messages that reach no owner (R156, R157, R165, R188, O21): requests refused NOT_ATTACHED,
malformed messages, and requests whose tag is OUTSTANDING. -/

namespace Sys2Proof.Links

open Sys2Proof Sys2Proof.Machine Sys2Proof.Safety Sys2Proof.Leases

/-! ## NOT_ATTACHED (R156) -/

section Refused

variable {s : State} {h : HostId} {f : FrameHdr} {tag : Tag} (harr : RequestArrives s h f tag)
include harr

/-- R156: a request that only an ATTACHED host may make is refused to any other. -/
theorem request_notAttached (kind : ReqKind) (act : State → State) (hp : s.port h ≠ .attached) :
    request h f tag kind (attachedOnly h tag act) s =
      s.setHost h (sideAnswered s h f [plain tag kind .notAttached]) := by
  have hport : ¬(s.setHost h (sideTaken s h f tag kind)).port h = .attached := by
    rwa [State.setHost_port_same, sideTaken_port]
  rw [request_arrives kind _ harr, attachedOnly, if_neg hport, answerStatus_taken kind _ harr]

/-- R156: a READ or WRITE is refused to a LINKED or JOINING host. -/
theorem request_transfer_notAttached {q : TransferReq} (kind : ReqKind) (hq : q.host = h)
    (ht : q.tag = tag) (hp : s.port h = .linked ∨ s.port h = .joining) :
    request h f tag kind (transferRequest q) s =
      s.setHost h (sideAnswered s h f [plain tag kind .notAttached]) := by
  subst hq ht
  have hport : (s.setHost q.host (sideTaken s q.host f q.tag kind)).port q.host = s.port q.host :=
    State.setHost_port_same s _ _
  rw [request_arrives kind _ harr, transferRequest, hport]
  rcases hp with hp | hp <;> rw [hp] <;> exact answerStatus_taken kind _ harr

end Refused

/-! ## Malformed messages and tags in use (R157, R188) -/

section Faults

variable {s : State} {h : HostId} {f : FrameHdr}

/-- R188: a malformed message that is delivered leaves a FAULT, and its frame's header has acted. -/
theorem deliver_malformed {tagged : Bool} (hd : (s.host h).delivers f tagged = true) :
    deliver h f tagged (malformed h) s =
      s.setHost h (sideNotified true (.fault .malformed)
        { s.host h with link := linkAfter s h f }) := by
  rw [deliver_delivered _ hd, malformed, notify_eq, State.setHost_host_same, State.setHost_setHost]

/-- R157: so does a request whose tag is OUTSTANDING. -/
theorem request_tagInUse {tag : Tag} (kind : ReqKind) (act : State → State)
    (hd : (s.host h).delivers f true = true) (hp : s.port h ≠ .down)
    (ht : (s.host h).tags[tag.val] ≠ none) :
    request h f tag kind act s =
      s.setHost h (sideNotified true (.fault (.tagInUse tag))
        { s.host h with link := linkAfter s h f }) := by
  have hport : ¬(s.setHost h { s.host h with link := linkAfter s h f }).port h = .down := by
    rwa [State.setHost_port_same]
  obtain ⟨k, hk⟩ := Option.ne_none_iff_exists'.mp ht
  rw [request, deliver_delivered _ hd, takeRequest, if_neg hport, State.setHost_host_same]
  simp only [hk]
  rw [notify_eq, State.setHost_host_same, State.setHost_setHost]

/-- Log 26: a WRITE or PROPOSE whose list does not agree with its count acts as a malformed message. -/
theorem exec_malformed {tagged : Bool} {c : Instr}
    (hc : c = .malformedMessage h f tagged ∨ (tagged = true ∧
      ((∃ tag bank n col p, c = .write h f tag bank n col p ∧ p.length ≠ n.toNat) ∨
        ∃ tag base l, c = .propose h f tag base l ∧ (l = [] ∨ 16 < l.length)))) :
    exec c s = .next (deliver h f tagged (malformed h) s) := by
  rcases hc with rfl | ⟨rfl, ⟨tag, bank, n, col, p, rfl, hlen⟩ | ⟨tag, base, l, rfl, hlen⟩⟩
  · rfl
  · exact if_neg hlen
  · refine if_neg fun ⟨hlow, hhigh⟩ => ?_
    rcases hlen with rfl | hlen
    · exact absurd hlow (by simp)
    · exact absurd hhigh (Nat.not_le.mpr hlen)

/-- R187: the commands that carry a well-formed request with this header and tag. -/
def carriesRequest (h : HostId) (f : FrameHdr) (tag : Tag) (c : Instr) : Prop :=
  c = .join h f tag ∨ c = .leave h f tag ∨ c = .park h f tag ∨ c = .unpark h f tag ∨
    c = .query h f tag ∨ (∃ b, c = .queryBank h f tag b) ∨ (∃ b, c = .closeLease h f tag b) ∨
    (∃ n y, c = .vote h f tag n y) ∨ (∃ b n col, c = .read h f tag b n col) ∨
    (∃ b r m w, c = .openLease h f tag b r m w) ∨
    (∃ b n col p, c = .write h f tag b n col p ∧ Instr.wf c = true) ∨
    (∃ e l, c = .propose h f tag e l ∧ Instr.wf c = true)

/-- R157: each of them is taken as a request under its tag. -/
theorem exec_carriesRequest {tag : Tag} {c : Instr} (hc : carriesRequest h f tag c) :
    ∃ kind act, exec c s = .next (request h f tag kind act s) := by
  rcases hc with rfl | rfl | rfl | rfl | rfl | ⟨b, rfl⟩ | ⟨b, rfl⟩ | ⟨n, y, rfl⟩ | ⟨b, n, col, rfl⟩ |
    ⟨b, r, m, w, rfl⟩ | ⟨b, n, col, p, rfl, hwf⟩ | ⟨e, l, rfl, hwf⟩
  -- Ten kinds have no list whose length could disagree.
  iterate 10 exact ⟨_, _, rfl⟩
  · exact ⟨.write, _, if_pos (of_decide_eq_true hwf)⟩
  · refine ⟨.propose, _, if_pos ?_⟩
    simpa [Instr.wf, proposeWellFormed] using hwf

end Faults

/-- Settles O21: a request from a host that may not make it is answered, a malformed message and a tag in
use leave a FAULT. -/
theorem messagesThatReachNoOwner : Obligations.MessagesThatReachNoOwner := by
  refine ⟨fun s h f tag harr => ⟨fun hp => ?_, fun hp => ?_⟩, fun s h f =>
    ⟨fun tagged c hd hc => ?_, fun tag c hd hp ht hc => ?_⟩⟩
  · have hrefused := fun kind act => congrArg (Host.Outcome.next (φ := Fault) (ρ := Refusal))
      (request_notAttached harr kind act hp)
    refine ⟨fun _ _ _ _ => hrefused _ _, fun _ => hrefused _ _, fun base items hlow hhigh => ?_,
      fun _ _ => hrefused _ _, hrefused _ _, hrefused _ _, hrefused _ _, fun _ => hrefused _ _⟩
    exact (if_pos ⟨hlow, hhigh⟩).trans (hrefused _ _)
  · refine ⟨fun bank n col => ?_, fun bank n col p hlen => ?_⟩
    · exact congrArg Host.Outcome.next (request_transfer_notAttached harr .read rfl rfl hp)
    · exact (if_pos hlen).trans
        (congrArg Host.Outcome.next (request_transfer_notAttached harr .write rfl rfl hp))
  · rw [exec_malformed hc, deliver_malformed hd]
  · obtain ⟨kind, act, hexec⟩ := exec_carriesRequest (s := s) hc
    rw [hexec, request_tagInUse kind act hd hp ht]

end Sys2Proof.Links
end

section
/-! PROOFS. The joins that complete in one event (R158): what each host's side becomes (O52), and a JOIN
that is refused, waits or completes in its own event (R139 to R141, O51). -/

namespace Sys2Proof.Links

open Sys2Proof Sys2Proof.Machine Sys2Proof.Safety Sys2Proof.Leases Sys2Proof.Ports

/-! ## The join condition (R158) -/

theorem joinReady_iff (s : State) : s.joinReady = true ↔
    (s.seq.device = .ready ∧ s.agree.state = .idle ∧ s.standby.state = .running) ∧
      ∃ g, s.port g = .joining := by
  simp only [State.joinReady, State.joinCondition, Bool.and_eq_true, any_allHosts, decide_eq_true_eq,
    and_assoc]

theorem completeJoins_stays {s : State} (h : s.seq.device ≠ .ready ∨ s.agree.state ≠ .idle ∨
    s.standby.state ≠ .running) : completeJoins s = s := by
  refine if_neg fun hr => ?_
  obtain ⟨⟨hd, ha, hs⟩, -⟩ := (joinReady_iff s).mp hr
  rcases h with h | h | h
  exacts [h hd, h ha, h hs]

/-! ## One joined host after another -/

/-- R158: the attached set after all the joins of one event. -/
def joinedSet (s : State) : HostSet :=
  PerHost.of fun k => inSet s k || decide (s.port k = .joining)

theorem joiningAttached_attachedSet (s : State) : (joiningAttached s).attachedSet = joinedSet s := by
  refine PerHost.ext_get fun g => ?_
  rw [attachedSet_get, joinedSet, PerHost.get_of, inSet, inSet, State.port, joiningAttached_host]
  by_cases hp : s.port g = .joining
  · rw [if_pos hp, decide_eq_true hp, Bool.or_true]
    rfl
  · rw [if_neg hp, decide_eq_false hp, Bool.or_false]
    rfl

/-- R158: the answer to a host that has joined. -/
def joinAnswer (s : State) (h : HostId) (t : State) : State :=
  match s.tagOfKind h .join with
  | some tag => answer h tag .ok (.joined s.agree.epoch (joinedSet s)) t
  | none => t

/-- R158: its side with that answer. -/
def sideJoined (s : State) (h : HostId) (p : HostSide) : HostSide :=
  match s.tagOfKind h .join with
  | some tag => answeredSide tag .ok (.joined s.agree.epoch (joinedSet s)) p
  | none => p

theorem joinAnswer_eq (s : State) (h : HostId) (t : State) :
    joinAnswer s h t = t.setHost h (sideJoined s h (t.host h)) := by
  unfold joinAnswer sideJoined
  split
  · exact answer_eq _ _ _ _ t
  · exact (State.setHost_self t h).symm

/-- R158: one host that has joined is answered, and the others in the attached set are told. -/
def joinOne (s : State) (t : State) (h : HostId) : State :=
  notifySet ((joinAnswer s h t).attachedSet.without h) (.hostJoined h) (joinAnswer s h t)

/-- R158: the JOINING hosts, in port order. -/
def joiners (s : State) : List HostId := allHosts.filter fun h => decide (s.port h = .joining)

theorem mem_joiners {s : State} {g : HostId} : g ∈ joiners s ↔ s.port g = .joining := by
  simp [joiners]

theorem joiners_nodup (s : State) : (joiners s).Nodup := List.Nodup.filter _ (by decide)

theorem attachJoining_eq (s : State) :
    attachJoining s = (joiners s).foldl (joinOne s) (joiningAttached s) := by
  unfold joinOne joinAnswer
  rw [← joiningAttached_attachedSet]
  rfl

/-- R158: what one joined host makes of a host's side: its own is answered, and one in the attached set is
told. -/
def sideAfterJoin (s : State) (g : HostId) (p : HostSide) (k : HostId) : HostSide :=
  if g = k then sideJoined s g p
  else sideNotified (decide (p.port = .attached)) (.hostJoined k) p

theorem joinOne_host (s t : State) (k g : HostId) :
    (joinOne s t k).host g = sideAfterJoin s g (t.host g) k := by
  rw [joinOne, notifySet_host, joinAnswer_eq, sideAfterJoin]
  by_cases hg : g = k
  · subst hg
    rw [if_pos rfl, State.setHost_host_same, HostSet.without, PerHost.get_set_same,
      sideNotified_false]
  · rw [if_neg hg, State.setHost_host_other _ _ hg, HostSet.without, PerHost.get_set_other _ _ hg,
      attachedSet_get, inSet, State.setHost_port_other _ _ hg]
    rfl

theorem sideJoined_port (s : State) (g : HostId) (p : HostSide) :
    (sideJoined s g p).port = p.port := by
  unfold sideJoined
  split
  · exact answeredSide_port _ _ _ p
  · rfl

theorem sideJoined_notes (s : State) (g : HostId) (p : HostSide) :
    (sideJoined s g p).notes = p.notes := by
  unfold sideJoined
  split
  · exact answeredSide_notes _ _ _ p
  · rfl

/-- The answer does not meet the notification queue. -/
theorem sideJoined_withNotes (s : State) (g : HostId) (p : HostSide) (q : NoteQueue) :
    sideJoined s g { p with notes := q } = { sideJoined s g p with notes := q } := by
  unfold sideJoined answeredSide
  split
  · dsimp only
    split <;> rfl
  · rfl

/-- Nor the port. -/
theorem sideJoined_withPort (s : State) (g : HostId) (p : HostSide) (x : PortState) :
    sideJoined s g { p with port := x } = { sideJoined s g p with port := x } := by
  unfold sideJoined answeredSide
  split
  · dsimp only
    split <;> rfl
  · rfl

/-- R165: HOST_JOINED of several hosts, one after another. -/
def pushJoined (l : List HostId) (q : NoteQueue) : NoteQueue :=
  l.foldl (fun q k => q.push (.hostJoined k)) q

/-- R158: of several joined hosts, each once, a host of the attached set is told of the others, and answered
where it is one of them. -/
theorem foldl_sideAfterJoin (s : State) (g : HostId) {l : List HostId} (hl : l.Nodup)
    {p : HostSide} (hp : p.port = .attached) : l.foldl (sideAfterJoin s g) p =
      { (if g ∈ l then sideJoined s g p else p) with
        notes := pushJoined (l.filter fun k => decide (k ≠ g)) p.notes } := by
  induction l generalizing p with
  | nil => rfl
  | cons k l ih =>
    obtain ⟨hk, hrest⟩ := List.nodup_cons.mp hl
    rw [List.foldl_cons]
    by_cases hg : g = k
    · subst hg
      have hside : sideAfterJoin s g p g = sideJoined s g p := if_pos rfl
      rw [hside, ih hrest ((sideJoined_port s g p).trans hp), if_neg hk, if_pos List.mem_cons_self,
        sideJoined_notes, List.filter_cons_of_neg (by simp)]
    · have hside : sideAfterJoin s g p k = { p with notes := p.notes.push (.hostJoined k) } := by
        simp [sideAfterJoin, hg, hp, sideNotified]
      have hne : k ≠ g := fun e => hg e.symm
      rw [hside, ih hrest (p := { p with notes := p.notes.push (.hostJoined k) }) hp,
        List.filter_cons_of_pos (by simpa using hne), sideJoined_withNotes]
      simp only [List.mem_cons, hg, false_or]
      split <;> rfl

/-- R158: a host that is not in the attached set is told of none. -/
theorem foldl_sideAfterJoin_out (s : State) {g : HostId} {l : List HostId} (hg : g ∉ l)
    {p : HostSide} (hp : p.port ≠ .attached) : l.foldl (sideAfterJoin s g) p = p := by
  induction l with
  | nil => rfl
  | cons k l ih =>
    have hk : g ≠ k := List.ne_of_not_mem_cons hg
    have hside : sideAfterJoin s g p k = p := by simp [sideAfterJoin, hk, hp]
    rw [List.foldl_cons, hside, ih (List.not_mem_of_not_mem_cons hg)]

/-! ## All the joins of one event -/

/-- R158: a host's notification queue once every JOINING host has joined. -/
def joinedNotes (s : State) (g : HostId) : NoteQueue :=
  if s.port g = .attached ∨ s.port g = .joining then
    pushJoined ([HostId.a, .b, .c, .d].filter fun k => decide (s.port k = .joining ∧ k ≠ g))
      (s.host g).notes
  else (s.host g).notes

theorem joinedNotes_eq (s : State) (g : HostId) : joinedNotes s g =
    if s.port g = .attached ∨ s.port g = .joining then
      pushJoined ((joiners s).filter fun k => decide (k ≠ g)) (s.host g).notes
    else (s.host g).notes := by
  simp only [joinedNotes, joiners, List.filter_filter, Bool.decide_and, Bool.and_comm]
  rfl

theorem attachJoining_host (s : State) (g : HostId) : (attachJoining s).host g =
    (joiners s).foldl (sideAfterJoin s g) ((joiningAttached s).host g) := by
  rw [attachJoining_eq]
  exact (List.foldl_hom (fun t : State => t.host g) fun t k => (joinOne_host s t k g).symm).symm

section Completes

variable {s : State} (hr : s.joinReady = true) {g : HostId}
include hr

theorem completeJoins_host : (completeJoins s).host g =
    { (if s.port g = .joining then { sideJoined s g (s.host g) with port := .attached }
        else s.host g) with notes := joinedNotes s g } := by
  rw [completeJoins, if_pos hr, attachJoining_host, joiningAttached_host, joinedNotes_eq]
  by_cases hp : s.port g = .joining
  · rw [if_pos hp, if_pos hp, if_pos (.inr hp), foldl_sideAfterJoin s g (joiners_nodup s) rfl,
      if_pos (mem_joiners.mpr hp), sideJoined_withPort]
  · have hout : g ∉ joiners s := fun hg => hp (mem_joiners.mp hg)
    rw [if_neg hp, if_neg hp]
    by_cases ha : s.port g = .attached
    · rw [if_pos (.inl ha), foldl_sideAfterJoin s g (joiners_nodup s) ha, if_neg hout]
    · rw [if_neg (by simp [ha, hp]), foldl_sideAfterJoin_out s hout ha]

/-- R158: a host that has joined is ATTACHED, and its JOIN is answered. -/
theorem completeJoins_joining {tag : Tag} (hp : s.port g = .joining) (ho : OnlyTag s g .join tag) :
    (completeJoins s).host g = { sideAnswers (s.host g) tag
      ⟨tag, .join, .ok, .joined s.agree.epoch (joinedSet s)⟩ with
        port := .attached, notes := joinedNotes s g } := by
  have hside : sideJoined s g (s.host g) = sideAnswers (s.host g) tag
      ⟨tag, .join, .ok, .joined s.agree.epoch (joinedSet s)⟩ := by
    rw [sideJoined, tagOfKind_only ho]
    exact answeredSide_outstanding .ok _ ((ho tag).mpr rfl)
  rw [completeJoins_host hr, if_pos hp, hside]

theorem completeJoins_other (hp : s.port g ≠ .joining) :
    (completeJoins s).host g = { s.host g with notes := joinedNotes s g } := by
  rw [completeJoins_host hr, if_neg hp]

end Completes

theorem completeJoins_changes (s : State) : ChangesOnly [.hosts] s (completeJoins s) := by
  have hone : ∀ t k, ChangesOnly [.hosts] t (joinOne s t k) := fun t k => by
    rw [joinOne, joinAnswer_eq]
    exact (changesOnly_setHost t k _).trans (changesOnly_notifyEach _ _)
  have hattached : ChangesOnly [.hosts] s (joiningAttached s) := by
    intro p hp
    cases p <;> simp_all [Part.same, joiningAttached]
  unfold completeJoins
  split
  · rw [attachJoining_eq]
    exact hattached.trans
      (foldl_rel (ChangesOnly.refl _) (fun _ _ _ => ChangesOnly.trans) hone _ _)
  · exact .refl _ s

/-- Settles O52: each side of the hosts that join, of the others, and the notification queue of each. -/
theorem joinCompleteAttachesEveryJoiningHost : Obligations.JoinCompleteAttachesEveryJoiningHost := by
  intro s tags hd ha hs hg htags
  have hr := (joinReady_iff s).mpr ⟨⟨hd, ha, hs⟩, hg⟩
  refine ⟨_, rfl, completeJoins_changes s, fun g hp => ?_, fun g hp => ?_, fun g => ?_⟩
  · rw [completeJoins_joining hr hp (htags g hp)]
    rfl
  · rw [completeJoins_other hr hp]
  · rw [completeJoins_host hr]
    rfl

end Sys2Proof.Links
end

section
/-! PROOFS. JOIN (R158): refused, waiting with its exit cause (R139 to R141), or complete in its own event
(O51). -/

namespace Sys2Proof.Links

open Sys2Proof Sys2Proof.Machine Sys2Proof.Safety Sys2Proof.Leases Sys2Proof.Ports

/-! ## A single host that joins -/

section Alone

variable {s : State} {h : HostId} (hp : s.port h = .joining)
  (hother : ∀ g, g ≠ h → s.port g ≠ .joining)
include hp hother

theorem joiners_alone : joiners s = [h] := by
  have hfilter : joiners s = allHosts.filter fun k => decide (k = h) := by
    refine List.filter_congr fun k _ => decide_eq_decide.mpr ⟨fun hk => ?_, fun hk => hk ▸ hp⟩
    by_contra hne
    exact hother k hne hk
  rw [hfilter]
  cases h <;> rfl

/-- R158: it is answered, and every other host of the attached set is told of it. -/
theorem completeJoins_alone {tag : Tag} (hr : s.joinReady = true) (ho : OnlyTag s h .join tag) :
    (completeJoins s).host h = { sideAnswers (s.host h) tag
      ⟨tag, .join, .ok, .joined s.agree.epoch (joinedSet s)⟩ with port := .attached } ∧
    ∀ g, g ≠ h → (completeJoins s).host g =
      sideNotified (inSet s g) (.hostJoined h) (s.host g) := by
  have halone := joiners_alone hp hother
  refine ⟨?_, fun g hg => ?_⟩
  · have hnotes : joinedNotes s h = (s.host h).notes := by
      simp [joinedNotes_eq, halone, hp, pushJoined]
    rw [completeJoins_joining hr hp ho, hnotes]
    rfl
  · have hne : h ≠ g := fun e => hg e.symm
    rw [completeJoins_other hr (hother g hg), joinedNotes_eq, halone]
    by_cases ha : s.port g = .attached
    · have hup : (s.host g).port ≠ .down := fun e => nomatch ha.symm.trans e
      simp [ha, hne, hup, inSet, sideNotified, pushJoined]
    · simp [ha, hother g hg, inSet]

end Alone

/-! ## The host's side while it joins -/

/-- R158: the side of a host whose JOIN is taken. -/
def sideJoining (s : State) (h : HostId) (f : FrameHdr) (tag : Tag) : HostSide :=
  { sideTaken s h f tag .join with port := .joining }

/-- R158: the state with it, before the exit cause. -/
def joining (s : State) (h : HostId) (f : FrameHdr) (tag : Tag) : State :=
  s.setHost h (sideJoining s h f tag)

/-- R140: in ENTERING, before STANDBY_ENTER has issued, the JOIN gives the entry up. -/
theorem joining_givesUp {s : State} {h : HostId} {f : FrameHdr} {tag : Tag}
    (hs : s.standby.state = .entering) (hf : s.inFlight .standbyEnter = false)
    (hw : noWaiters s) : ∃ u, exitCause (joining s h f tag) = u ∧
      ChangesOnly [.hosts, .standby, .gate, .chan] s u ∧
      u.standby = { s.standby with state := .running } ∧
      u.gate = { s.gate with standby := false } ∧
      u.chan = { s.chan with
        offers := s.chan.offers.filter fun o => decide (o.by_ ≠ .standby) } ∧
      (u.hosts, u.agree) = (s.hosts.set h (sideJoining s h f tag), s.agree) := by
  refine ⟨_, exitCause_givesUp (s := joining s h f tag) hs hf hw, ?_, rfl, rfl, rfl, rfl⟩
  intro p hp
  cases p <;> simp_all [Part.same, joining]

section Join

variable {s : State} {h : HostId} {f : FrameHdr} {tag : Tag} (harr : RequestArrives s h f tag)
include harr

theorem exec_join : exec (.join h f tag) s =
    .next (takeJoin h tag (s.setHost h (sideTaken s h f tag .join))) :=
  congrArg Host.Outcome.next (request_arrives .join _ harr)

/-- R158: a JOIN from a port that is not LINKED is refused. -/
theorem exec_join_alreadyJoined (hp : s.port h ≠ .linked) : exec (.join h f tag) s =
    .next (s.setHost h (sideAnswered s h f [plain tag .join .alreadyJoined])) := by
  have hport : (s.setHost h (sideTaken s h f tag .join)).port h = s.port h :=
    State.setHost_port_same s h _
  rw [exec_join harr, ← answerStatus_taken .join .alreadyJoined harr, takeJoin, hport]
  cases hs : s.port h with
  | linked => exact absurd hs hp
  | down | joining | attached | leaving => rfl

variable (hp : s.port h = .linked)
include hp

theorem exec_join_deviceFailed (hd : s.seq.device = .failed) : exec (.join h f tag) s =
    .next (s.setHost h (sideAnswered s h f [plain tag .join .deviceFailed])) := by
  have hport : (s.setHost h (sideTaken s h f tag .join)).port h = .linked :=
    (State.setHost_port_same s h _).trans hp
  rw [exec_join harr, ← answerStatus_taken .join .deviceFailed harr, takeJoin, hport]
  exact congrArg Host.Outcome.next (if_pos hd)

/-- R158: otherwise the port goes JOINING, which is an exit cause. -/
theorem exec_join_taken (hd : s.seq.device ≠ .failed) : exec (.join h f tag) s =
    .next (completeJoins (exitCause (joining s h f tag))) := by
  have hport : (s.setHost h (sideTaken s h f tag .join)).port h = .linked :=
    (State.setHost_port_same s h _).trans hp
  have hjoining : (s.setHost h (sideTaken s h f tag .join)).setPort h .joining =
      joining s h f tag := by
    rw [State.setPort, State.setHost_host_same, State.setHost_setHost]
    rfl
  rw [exec_join harr, takeJoin, hport, ← hjoining]
  exact congrArg Host.Outcome.next (if_neg hd)

omit hp in
/-- R158: where the join condition holds, the JOIN of a single host completes in its own event. -/
theorem join_completes {t : State}
    (ht : (t.hosts, t.agree) = (s.hosts.set h (sideJoining s h f tag), s.agree))
    (hr : t.seq.device = .ready ∧ t.agree.state = .idle ∧ t.standby.state = .running)
    (hports : ∀ g, s.port g ≠ .joining)
    (htags : ∀ i : Tag, (s.host h).tags[i.val] ≠ some .join) :
    (completeJoins t).host h = { sideAnswered s h f
      [⟨tag, .join, .ok,
        .joined s.agree.epoch (PerHost.of fun g => inSet s g || decide (g = h))⟩] with
        port := .attached } ∧
      ∀ g, g ≠ h → (completeJoins t).host g =
        sideNotified (inSet s g) (.hostJoined h) (s.host g) := by
  obtain ⟨hhosts, hagree⟩ := Prod.mk.inj ht
  have hside : t.host h = sideJoining s h f tag := by
    rw [State.host, hhosts, PerHost.get_set_same]
  have hothers : ∀ g, g ≠ h → t.host g = s.host g := fun g hg => by
    rw [State.host, hhosts, PerHost.get_set_other _ _ hg]
    rfl
  have hport : t.port h = .joining := by rw [State.port, hside]; rfl
  have hrest : ∀ g, g ≠ h → t.port g = s.port g := fun g hg => by
    rw [State.port, hothers g hg]
    rfl
  have hset : joinedSet t = PerHost.of fun g => inSet s g || decide (g = h) := by
    refine PerHost.ext_get fun g => ?_
    rw [joinedSet, PerHost.get_of, PerHost.get_of, inSet, inSet]
    by_cases hg : g = h
    · simp [hg, hport]
    · simp [hg, hrest g hg, hports g]
  have honly : OnlyTag t h .join tag := by
    intro i
    rw [hside]
    by_cases hi : i = tag
    · subst hi
      exact iff_of_true (sideTaken_tags_same s h f i .join) rfl
    · refine iff_of_false (fun hj => htags i ?_) hi
      exact (sideTaken_tags_other s h f .join hi).symm.trans hj
  obtain ⟨hjoined, htold⟩ := completeJoins_alone hport
    (fun g hg => by rw [hrest g hg]; exact hports g) ((joinReady_iff t).mpr ⟨hr, h, hport⟩) honly
  refine ⟨?_, fun g hg => ?_⟩
  · obtain ⟨-, -, hfree⟩ := harr
    rw [hjoined, hside, hset, hagree, ← sideAnswers_sideTaken f .join _ hfree]
    rfl
  · rw [htold g hg, hothers g hg, inSet, inSet, hrest g hg]

end Join

/-- Settles O51: a JOIN by the port, the device and the standby state that it finds. -/
theorem joinWaitsOrCompletes : Obligations.JoinWaitsOrCompletes := by
  intro s h f tag harr
  refine ⟨exec_join_alreadyJoined harr, fun hp => ⟨exec_join_deviceFailed harr hp, fun hd => ?_⟩⟩
  rw [exec_join_taken harr hp hd]
  refine ⟨fun hs => ?_, fun hs hn => ?_, fun hs hf hn => ?_, fun hs hf hw => ?_,
    fun hs hready hidle hports htags => ?_⟩
  · have hstays : exitCause (joining s h f tag) = joining s h f tag :=
      exitCause_stays (hs.symm.imp_left And.left)
    have hwaits : s.seq.device ≠ .ready ∨ s.agree.state ≠ .idle ∨ s.standby.state ≠ .running := by
      rcases hs with hs | ⟨-, hs | hs⟩
      · exact .inr (.inr (by simp [hs]))
      · exact .inl hs
      · exact .inr (.inl hs)
    rw [hstays, completeJoins_stays (s := joining s h f tag) hwaits]
    rfl
  · rw [exitCause_offers (s := joining s h f tag) hs hn]
    exact congrArg Host.Outcome.next (completeJoins_stays (.inr (.inr (hs.trans_ne nofun))))
  · rw [exitCause_pends (s := joining s h f tag) hs hf hn]
    exact congrArg Host.Outcome.next (completeJoins_stays (.inr (.inr (hs.trans_ne nofun))))
  · obtain ⟨u, hu, hch, hstandby, hgate, hchan, hsides⟩ :=
      joining_givesUp (h := h) (f := f) (tag := tag) hs hf hw
    have hseq : u.seq = s.seq := hch .seq (by decide)
    obtain ⟨hhosts, hagree⟩ := Prod.mk.inj hsides
    have hjoins := completeJoins_changes u
    rw [hu]
    refine ⟨_, rfl, hch.trans (hjoins.mono (by decide)), (hjoins .standby (by decide)).trans hstandby,
      (hjoins .gate (by decide)).trans hgate, (hjoins .chan (by decide)).trans hchan,
      fun hwaits => ?_, fun hready hidle hports htags => ?_⟩
    · have hstays : completeJoins u = u := completeJoins_stays (by
        rw [hseq, hagree]
        exact hwaits.imp_right .inl)
      rw [hstays]
      refine ⟨?_, fun g hg => ?_⟩
      · rw [State.host, hhosts, PerHost.get_set_same]
        rfl
      · rw [State.host, hhosts, PerHost.get_set_other _ _ hg]
        rfl
    · exact join_completes harr hsides
        ⟨by rw [hseq]; exact hready, by rw [hagree]; exact hidle, by rw [hstandby]⟩ hports htags
  · have hstays : exitCause (joining s h f tag) = joining s h f tag := exitCause_stays (.inl hs)
    rw [hstays]
    exact ⟨_, rfl, (changesOnly_setHost s h _).trans (completeJoins_changes _),
      join_completes harr rfl ⟨hready, hidle, hs⟩ hports htags⟩

end Sys2Proof.Links
end

section
/-! PROOFS. The notification queue of a host (R164 to R169): what a NOTE_ACK takes out of it and where it
places OVERFLOW, and what a delivery puts in the send queue (O60). -/

namespace Sys2Proof.Links

open Sys2Proof Sys2Proof.Machine Sys2Proof.Safety

/-! ## The entries of a queue, the delivered ones first (R164) -/

section Entries

variable {d u rest : List NoteEntry} {e : NoteEntry}

/-- R167: the entries behind the acknowledged one stay. -/
theorem ackEntries_named {older : List NoteEntry} {x : Notification} {n : Seq}
    (ho : ∀ e ∈ older, e.number ≠ some n) :
    ackEntries n (older ++ ⟨x, some n⟩ :: rest) = rest := by
  have hdrop : (older ++ ⟨x, some n⟩ :: rest).dropWhile (fun e => decide (e.number ≠ some n)) =
      ⟨x, some n⟩ :: rest := by
    rw [List.dropWhile_append_of_pos (by simpa using ho), List.dropWhile_cons_of_neg (by simp)]
  rw [ackEntries, hdrop, List.drop_one, List.tail_cons]

section Undelivered

variable (hu : ∀ e ∈ u, e.number = none)
include hu

/-- R167: only a delivered entry has the number that a NOTE_ACK names. -/
theorem exists_number_iff (n : Seq) :
    (∃ e ∈ d ++ u, e.number = some n) ↔ ∃ e ∈ d, e.number = some n := by
  refine exists_congr fun e => and_congr_left fun hn => ?_
  have hout : e ∉ u := fun he => nomatch (hu e he).symm.trans hn
  rw [List.mem_append, or_iff_left hout]

variable (hd : ∀ e ∈ d, e.number ≠ none)
include hd

/-- R169: OVERFLOW goes between the delivered entries and the others. -/
theorem placeOverflow_between : placeOverflow (d ++ u) = d ++ ⟨.overflow, none⟩ :: u := by
  have hsome : ∀ e ∈ d, e.number.isSome = true := fun e he =>
    Option.isSome_iff_ne_none.mpr (hd e he)
  have hstop : u.takeWhile (fun e => e.number.isSome) = [] ∧
      u.dropWhile (fun e => e.number.isSome) = u := by
    cases u with
    | nil => exact ⟨rfl, rfl⟩
    | cons e rest => simp [hu e List.mem_cons_self]
  obtain ⟨htake, hdrop⟩ := hstop
  rw [placeOverflow, List.takeWhile_append_of_pos hsome, List.dropWhile_append_of_pos hsome, htake,
    hdrop, List.append_nil]

/-- R166: the entries that fill the window are the delivered ones. -/
theorem delivered_eq_length {q : NoteQueue} (hq : q.entries = d ++ u) : q.delivered = d.length := by
  have hnone : u.countP (fun e => e.number.isSome) = 0 :=
    List.countP_eq_zero.mpr fun e he => by simp [hu e he]
  have hall : d.countP (fun e => e.number.isSome) = d.length :=
    List.countP_eq_length.mpr fun e he => Option.isSome_iff_ne_none.mpr (hd e he)
  rw [NoteQueue.delivered, hq, ← List.countP_eq_length_filter, List.countP_append, hall, hnone,
    Nat.add_zero]

end Undelivered

section Oldest

variable (hd : ∀ x ∈ d, x.number ≠ none) (he : e.number = none)
include hd he

theorem find_oldestUndelivered :
    (d ++ e :: rest).find? (fun x => x.number.isNone) = some e := by
  rw [List.find?_append, List.find?_eq_none.mpr (by simpa using hd), Option.none_or]
  exact List.find?_cons_of_pos (by simp [he])

/-- R166: it is the entry that is marked. -/
theorem markDelivered_oldestUndelivered (n : Seq) :
    markDelivered n (d ++ e :: rest) = d ++ ⟨e.note, some n⟩ :: rest := by
  induction d with
  | nil => exact if_pos (by simp [he])
  | cons x d ih =>
    have hx : ¬x.number.isNone = true := by simpa using hd x List.mem_cons_self
    exact (if_neg hx).trans (congrArg (x :: ·) (ih fun y hy => hd y (List.mem_cons_of_mem x hy)))

end Oldest

end Entries

/-! ## NOTE_ACK (R167 to R169) -/

/-- R167, R169: the queue once a delivered entry is acknowledged. -/
theorem acknowledged_named {q : NoteQueue} {older newer u : List NoteEntry} {x : Notification}
    {n : Seq} (hq : q.entries = older ++ ⟨x, some n⟩ :: newer ++ u)
    (ho : ∀ e ∈ older, e.number ≠ some n) (hnewer : ∀ e ∈ newer, e.number ≠ none)
    (hu : ∀ e ∈ u, e.number = none) : acknowledged n q = { q with
      overflow := false
      entries := newer ++ (if q.overflow then [⟨.overflow, none⟩] else []) ++ u } := by
  have hleft : ackEntries n q.entries = newer ++ u := by
    rw [hq, List.append_assoc, List.cons_append, ackEntries_named ho]
  rw [acknowledged, hleft]
  split
  next hover => rw [placeOverflow_between hu hnewer, List.append_cons]
  next hover => rw [List.append_nil, Bool.eq_false_of_not_eq_true hover]

/-- R167, R168: a host's side after its NOTE_ACK. -/
def sideNoteAcked (n : Seq) (p : HostSide) : HostSide :=
  if ∃ e ∈ p.notes.entries, e.number = some n then { p with notes := acknowledged n p.notes }
  else sideNotified true (.fault .badAck) p

theorem takeNoteAck_eq (h : HostId) (n : Seq) (s : State) :
    takeNoteAck h n s = s.setHost h (sideNoteAcked n (s.host h)) := by
  simp only [takeNoteAck, sideNoteAcked, List.any_eq_true, decide_eq_true_eq, notify_eq]
  split <;> rfl

theorem exec_noteAck {s : State} {h : HostId} {f : FrameHdr} (n : Seq)
    (hdel : (s.host h).delivers f false = true) : exec (.noteAck h f n) s =
      .next (s.setHost h (sideNoteAcked n { s.host h with link := linkAfter s h f })) := by
  refine congrArg Host.Outcome.next ?_
  rw [deliver_delivered _ hdel, takeNoteAck_eq, State.setHost_host_same, State.setHost_setHost]

/-! ## NOTIFICATION_DELIVERY (R166) -/

section Delivery

variable {p : HostSide} {d rest : List NoteEntry} {e : NoteEntry}
  (hq : p.notes.entries = d ++ e :: rest) (hu : ∀ x ∈ e :: rest, x.number = none)
  (hd : ∀ x ∈ d, x.number ≠ none)
include hq hu hd

/-- R166: a queue with an undelivered entry delivers while neither window is full. -/
theorem deliverReady_iff : p.deliverReady = true ↔ d.length < 4 ∧ p.link.notesWaiting < 4 := by
  have hany : p.notes.entries.any (fun x => x.number.isNone) = true :=
    List.any_eq_true.mpr ⟨e, by simp [hq], by simp [hu e List.mem_cons_self]⟩
  have hlimit : Config.noteWindow = 4 := rfl
  simp [HostSide.deliverReady, hany, delivered_eq_length hu hd hq, hlimit]

theorem deliverNote_delivers (hroom : d.length < 4) (hwait : p.link.notesWaiting < 4) :
    p.deliverNote = { p with
      notes := { p.notes with
        entries := d ++ ⟨e.note, some p.notes.next⟩ :: rest, next := p.notes.next + 1#8 }
      link := { p.link with
        sendQueue := p.link.sendQueue ++ [.note p.notes.next e.note] } } := by
  have he : e.number = none := hu e List.mem_cons_self
  rw [HostSide.deliverNote, if_pos ((deliverReady_iff hq hu hd).mpr ⟨hroom, hwait⟩), hq,
    find_oldestUndelivered hd he, markDelivered_oldestUndelivered hd he]

theorem deliverNote_waits (hfull : 4 ≤ d.length ∨ 4 ≤ p.link.notesWaiting) : p.deliverNote = p := by
  refine if_neg fun hr => ?_
  obtain ⟨hroom, hwait⟩ := (deliverReady_iff hq hu hd).mp hr
  omega

end Delivery

theorem exec_notificationDelivery (h : HostId) (s : State) : exec (.notificationDelivery h) s =
    .next (s.setHost h (s.host h).deliverNote) := rfl

/-- Settles O60: a NOTE_ACK by the number it names, a delivery by the room in the two windows. -/
theorem notificationsDeliveredAndAcknowledged :
    Obligations.NotificationsDeliveredAndAcknowledged := by
  rintro s h q d u rfl hq hu hd
  refine ⟨fun f n hdel => ?_, fun e rest hsplit => ?_⟩
  · have hnamed : (∃ e ∈ (s.host h).notes.entries, e.number = some n) ↔
        ∃ e ∈ d, e.number = some n := hq ▸ exists_number_iff hu n
    rw [exec_noteAck n hdel, sideNoteAcked]
    refine ⟨fun older newer x hsplit ho => ?_, fun hunknown => ?_⟩
    · subst hsplit
      have hnewer : ∀ e ∈ newer, e.number ≠ none := fun e he => hd e (by simp [he])
      rw [if_pos (hnamed.mpr ⟨⟨x, some n⟩, by simp, rfl⟩), acknowledged_named hq ho hnewer hu]
    · rw [if_neg fun hin => ?_]
      obtain ⟨e, he, hn⟩ := hnamed.mp hin
      exact hunknown e he hn
  · subst hsplit
    rw [exec_notificationDelivery]
    refine ⟨fun hroom hwait => ?_, fun hfull => ?_⟩
    · rw [deliverNote_delivers hq hu hd hroom hwait]
      rfl
    · rw [deliverNote_waits hq hu hd hfull, State.setHost_self]

end Sys2Proof.Links
end

section
/-! PROOFS. The fields and the frames of chapter 11 read back (R185 to R187): every frame that the LC4 sends
passes the receiver's checks (O15). -/

namespace Sys2Proof.Formats

open Sys2Proof Sys2Proof.Machine

/-! ## Fields (R185, R187) -/

theorem toNat_append_byte {n : Nat} (x : BitVec n) (b : Byte) :
    (x ++ b).toNat = x.toNat * 256 + b.toNat := by
  rw [BitVec.toNat_append, ← Nat.shiftLeft_add_eq_or_of_lt b.isLt, Nat.shiftLeft_eq]

theorem of16_le16 (x : BitVec 16) : of16 (x.setWidth 8) ((x >>> 8).setWidth 8) = x := by
  refine BitVec.eq_of_toNat_eq ((toNat_append_byte _ _).trans ?_)
  simp only [BitVec.toNat_setWidth, BitVec.toNat_ushiftRight, Nat.shiftRight_eq_div_pow]
  omega

theorem of32_le32 (x : BitVec 32) :
    of32 (x.setWidth 8) ((x >>> 8).setWidth 8) ((x >>> 16).setWidth 8) ((x >>> 24).setWidth 8) = x := by
  refine BitVec.eq_of_toNat_eq ((toNat_append_byte _ _).trans ?_)
  simp only [toNat_append_byte, BitVec.toNat_setWidth, BitVec.toNat_ushiftRight,
    Nat.shiftRight_eq_div_pow]
  omega

@[simp] theorem length_le32 (x : BitVec 32) : (le32 x).length = 4 := rfl

@[simp] theorem tagOfByte_tagByte (t : Tag) : tagOfByte (tagByte t) = t := by
  revert t
  decide

/-! ## Frames (R186) -/

/-- R186: the CRC that a sender appends is the one that the receiver computes. -/
theorem openFrame_sealFrame (l : List Byte) : openFrame (sealFrame l) = some l := by
  have hbody : (sealFrame l).take ((sealFrame l).length - 4) = l := by simp [sealFrame]
  have hcrc : (sealFrame l).drop ((sealFrame l).length - 4) = le32 (crc32 l) := by simp [sealFrame]
  have hlength : 4 ≤ (sealFrame l).length := by simp [sealFrame]
  simp only [openFrame, hbody, hcrc, hlength, and_self, if_true]

theorem readFrame_sealFrame (l : List Byte) : readFrame (sealFrame l) = readBody l := by
  simp only [readFrame, openFrame_sealFrame]

theorem readBody_idle (f : FrameHdr) : readBody (frameBytes f 0x00#8 []) = .idle f := rfl

theorem readBody_nak (f : FrameHdr) (n : Seq) : readBody (frameBytes f 0x02#8 [n]) = .nak f n := rfl

/-- R186: a MESSAGE body is at least a message header. -/
theorem readBody_message (f : FrameHdr) {m : List Byte} (hm : 4 ≤ m.length) :
    readBody (frameBytes f 0x01#8 m) = .message f m :=
  if_pos hm

/-- R187: what the LC4 sends is a message with its header. -/
theorem four_le_outMsgBytes (m : OutMsg) : 4 ≤ m.bytes.length := by
  cases m with
  | response r => exact Laws.MessageCarriesHeader.four_le_messageBytes _ _ _
  | note n x => exact Laws.MessageCarriesHeader.four_le_messageBytes _ _ _

/-- Settles O15: the receiver's CRC is the sender's, and each body has the length that its kind asks for. -/
theorem sentFramesPassTheChecks : Obligations.SentFramesPassTheChecks := by
  rintro ⟨seq, ack, body⟩
  cases body with
  | idle => exact (readFrame_sealFrame _).trans (readBody_idle _)
  | nak n => exact (readFrame_sealFrame _).trans (readBody_nak _ n)
  | message m => exact (readFrame_sealFrame _).trans (readBody_message _ (four_le_outMsgBytes m))

end Sys2Proof.Formats
end

section
/-! PROOFS. The messages of requests read back (R187 to R189): the frame that carries a well-formed request
is read as that request (O14). -/

namespace Sys2Proof.Formats

open Sys2Proof Sys2Proof.Machine

/-! ## The fields of a payload (R189) -/

/-- R189: only bit 0 of a mode byte is read. -/
@[simp] theorem modeOfByte_modeByte (m : LeaseMode) : modeOfByte (modeByte m) = m := by
  cases m <;> rfl

/-- R189: only bit 0 of the byte of a VOTE is read. -/
@[simp] theorem getElem_voteByte (y : Bool) : (if y then 1#8 else 0#8 : Byte)[0] = y := by
  cases y <;> rfl

/-! ## The bursts of a WRITE and the items of a PROPOSE (R189) -/

@[simp] theorem length_burstWords (w : WriteBurst) : (burstWords w).length = 36 := by
  simp [burstWords]

@[simp] theorem length_itemBytes (x : RawItem) : (itemBytes x).length = 8 := rfl

/-- R189: the 32 data bytes come first. -/
theorem getD_burstWords_data (w : WriteBurst) (l : List Byte) (i : Fin 32) :
    (burstWords w ++ l).getD i.val 0#8 = w.data[i] := by
  have hi : i.val < w.data.toList.length := by simp
  rw [burstWords, List.append_assoc, List.getD_append _ _ _ _ hi, List.getD_eq_getElem _ _ hi]
  exact Vector.getElem_toList _

/-- R189: the enable word stands behind the 32 data bytes. -/
theorem getD_burstWords_enables (w : WriteBurst) (l : List Byte) {k : Nat} (hk : 32 ≤ k) :
    (burstWords w ++ l).getD k 0#8 = (le32 w.enables ++ l).getD (k - 32) 0#8 := by
  have hlength : w.data.toList.length = 32 := by simp
  rw [burstWords, List.append_assoc, List.getD_append_right _ _ _ _ (hlength.trans_le hk), hlength]

theorem readBurst_burstWords_append (w : WriteBurst) (l : List Byte) :
    readBurst (burstWords w ++ l) = w := by
  have hdata : (readBurst (burstWords w ++ l)).data = w.data := by
    refine Vector.ext fun i hi => ?_
    rw [readBurst, Vector.getElem_ofFn]
    exact getD_burstWords_data w l ⟨i, hi⟩
  have henables : (readBurst (burstWords w ++ l)).enables = w.enables := by
    simp only [readBurst, getD_burstWords_enables, Nat.reduceLeDiff, Nat.reduceSub, le_refl]
    exact of32_le32 w.enables
  exact congr (congrArg WriteBurst.mk hdata) henables

theorem readItem_itemBytes_append (x : RawItem) (l : List Byte) : readItem (itemBytes x ++ l) = x := by
  obtain ⟨kind, target, bankSet, rights, valueA, valueB⟩ := x
  simp [readItem, itemBytes, le16, of16_le16]

theorem readBursts_flatMap (l : List WriteBurst) : readBursts l.length (l.flatMap burstWords) = l := by
  induction l with
  | nil => rfl
  | cons w l ih =>
    simp [readBursts, readBurst_burstWords_append, List.drop_left' (length_burstWords w), ih]

theorem readItems_flatMap (l : List RawItem) : readItems l.length (l.flatMap itemBytes) = l := by
  induction l with
  | nil => rfl
  | cons x l ih => simp [readItems, readItem_itemBytes_append, List.drop_left' (length_itemBytes x), ih]

theorem length_flatMap_burstWords (l : List WriteBurst) :
    (l.flatMap burstWords).length = 36 * l.length := by
  simp [List.length_flatMap, mul_comm]

theorem length_flatMap_itemBytes (l : List RawItem) :
    (l.flatMap itemBytes).length = 8 * l.length := by
  simp [List.length_flatMap, mul_comm]

/-! ## Messages (R187, R188) -/

/-- R188: a message is well formed where all four checks pass. -/
theorem malformedBy_none {kind : Byte} {p : List Byte} (hfits : p.length < 2 ^ 16)
    (hkind : knownKind kind = true) (hcount : badItemCount kind p = false)
    (hpayload : payloadLength kind p = some p.length) :
    malformedBy kind (BitVec.ofNat 16 p.length) p = none := by
  have hlength : (BitVec.ofNat 16 p.length).toNat = p.length := by
    rw [BitVec.toNat_ofNat, Nat.mod_eq_of_lt hfits]
  simp [malformedBy, hlength, hkind, hcount, hpayload]

/-- R187: the receiver finds the payload's length in the header that the sender wrote. -/
theorem commandOfMessage_messageBytes (h : HostId) (f : FrameHdr) {kind : Byte} (tag : Byte)
    {p : List Byte} (hp : malformedBy kind (BitVec.ofNat 16 p.length) p = none) :
    commandOfMessage h f (messageBytes kind tag p) = requestOf h f kind tag p := by
  simp only [messageBytes, le16, List.cons_append, List.nil_append, commandOfMessage, of16_le16, hp]

/-- R186: a message's frame is never taken for another body. -/
theorem commandOfFrame_messageBytes (h : HostId) (f : FrameHdr) {kind : Byte} (tag : Byte)
    {p : List Byte} (hp : malformedBy kind (BitVec.ofNat 16 p.length) p = none) :
    commandOfFrame h (sealFrame (frameBytes f 0x01#8 (messageBytes kind tag p))) =
      requestOf h f kind tag p := by
  have hread := (readFrame_sealFrame _).trans
    (readBody_message f (Laws.MessageCarriesHeader.four_le_messageBytes kind tag p))
  simp only [commandOfFrame, hread, commandOfMessage_messageBytes h f tag hp]

/-- R51, R189: the bursts of a WRITE are as many as its burst count byte says. -/
theorem commandOfFrame_write (h : HostId) (f : FrameHdr) (t : Tag) (b : Byte) {n : Byte}
    (c : BitVec 16) {p : List WriteBurst} (hn : p.length = n.toNat) :
    commandOfFrame h (sealFrame (frameBytes f 0x01#8
        (messageBytes 0x06#8 (tagByte t) ([b, n] ++ le16 c ++ p.flatMap burstWords)))) =
      .write h f t b n c p := by
  have hlength : ([b, n] ++ le16 c ++ p.flatMap burstWords).length = 4 + 36 * n.toNat := by
    rw [List.length_append, length_flatMap_burstWords, hn]
    rfl
  have hfits := n.isLt
  rw [commandOfFrame_messageBytes _ _ _ (malformedBy_none (by omega) rfl rfl (hlength ▸ rfl))]
  simp [requestOf, of16_le16, le16, ← hn, readBursts_flatMap]

/-- R188: the item count of a PROPOSE stands behind its base epoch. -/
theorem badItemCount_propose (e : BitVec 16) (n : Byte) (l : List Byte) :
    badItemCount 0x07#8 (le16 e ++ [n] ++ l) =
      (decide (n.toNat = 0) || decide (16 < n.toNat)) := rfl

/-- R188, R189: the items of a PROPOSE, at most 16, are as many as its item count byte says. -/
theorem commandOfFrame_propose (h : HostId) (f : FrameHdr) (t : Tag) (e : BitVec 16)
    {items : List RawItem} (hone : 1 ≤ items.length) (hmax : items.length ≤ 16) :
    commandOfFrame h (sealFrame (frameBytes f 0x01#8 (messageBytes 0x07#8 (tagByte t)
        (le16 e ++ [byteOf items.length] ++ items.flatMap itemBytes)))) =
      .propose h f t e items := by
  have hcount : (byteOf items.length).toNat = items.length :=
    (BitVec.toNat_ofNat _ _).trans (Nat.mod_eq_of_lt (by omega))
  have hlength : (le16 e ++ [byteOf items.length] ++ items.flatMap itemBytes).length =
      3 + 8 * (byteOf items.length).toNat := by
    rw [List.length_append, length_flatMap_itemBytes, hcount]
    rfl
  have hgood : badItemCount 0x07#8 (le16 e ++ [byteOf items.length] ++ items.flatMap itemBytes) =
      false := by
    rw [badItemCount_propose, hcount, decide_eq_false (by omega), decide_eq_false (by omega),
      Bool.or_self]
  rw [commandOfFrame_messageBytes _ _ _ (malformedBy_none (by omega) rfl hgood (hlength ▸ rfl))]
  simp [requestOf, of16_le16, le16, hcount, readItems_flatMap]

/-- R186 to R189: the frame with the message of a well-formed request is read as that request. -/
theorem commandOfFrame_requestMessage {c : Instr} {h : HostId} {f : FrameHdr} {m : List Byte}
    (hwf : Instr.wf c = true) (hh : requestHeader c = some (h, f)) (hm : requestMessage c = some m) :
    commandOfFrame h (sealFrame (frameBytes f 0x01#8 m)) = c := by
  cases c with
  | write =>
    cases hh; cases hm
    exact commandOfFrame_write _ _ _ _ _ (of_decide_eq_true hwf)
  | propose =>
    cases hh; cases hm
    obtain ⟨hone, hmax⟩ := Bool.and_eq_true_iff.mp hwf
    exact commandOfFrame_propose _ _ _ _ (of_decide_eq_true hone) (of_decide_eq_true hmax)
  | join | leave | openLease | closeLease | read | vote | park | unpark | query | queryBank
  | noteAck =>
    cases hh; cases hm
    rw [commandOfFrame_messageBytes _ _ _ rfl]
    simp [requestOf, le16, of16_le16]
  | _ => cases hh

/-- R186: an encoded request is the sealed frame of the request's message. -/
theorem encodeRequest_some {c : Instr} {h : HostId} {l : List Byte}
    (hc : encodeRequest c = some (h, l)) :
    ∃ f m, requestHeader c = some (h, f) ∧ requestMessage c = some m ∧
      l = sealFrame (frameBytes f 0x01#8 m) := by
  unfold encodeRequest at hc
  split at hc
  next g f m hh hm =>
    cases hc
    exact ⟨f, m, hh, hm, rfl⟩
  next => cases hc

/-- Settles O14: the frame opens to the request's message, which is read as the request. -/
theorem requestFramesReadBack : Obligations.RequestFramesReadBack := by
  intro c h l hwf hc
  obtain ⟨f, m, hh, hm, rfl⟩ := encodeRequest_some hc
  exact commandOfFrame_requestMessage hwf hh hm

end Sys2Proof.Formats
end

section
/-! PROOFS. What is not the device's, the waiting commands and the moment (`OutsideKept`), and the shared
operations of the units and the ports, which leave it alone. -/

namespace Sys2Proof.Steps

open Sys2Proof Sys2Proof.Machine Sys2Proof.Safety Sys2Proof.Leases Sys2Proof.Configuration
  Sys2Proof.Maintenance Sys2Proof.Refresh

/-- Log 1, 2: a step that leaves the queue and the moment as they are. -/
def OutsideKept (s t : State) : Prop := (t.pending, t.now) = (s.pending, s.now)

namespace OutsideKept

variable {s t u : State}

theorem refl (s : State) : OutsideKept s s := rfl

theorem trans (h : OutsideKept s t) (k : OutsideKept t u) : OutsideKept s u := Eq.trans k h

/-- An operation that follows an update of other parts. -/
theorem after (k : OutsideKept t u) (h : OutsideKept s t) : OutsideKept s u := h.trans k

theorem ite {p : Prop} [Decidable p] (ht : OutsideKept s t) (hu : OutsideKept s u) :
    OutsideKept s (if p then t else u) := by
  split
  · exact ht
  · exact hu

theorem of_changes {l : List Part} (h : ChangesOnly l s t) (hp : .pending ∉ l) (hn : .now ∉ l) :
    OutsideKept s t := Prod.ext (h .pending hp) (h .now hn)

theorem of_unit (h : UnitMoves s t) : OutsideKept s t := of_changes h.1 (by decide) (by decide)

theorem of_moves (h : LeaseMoves s t) : OutsideKept s t := by
  rw [h]
  rfl

end OutsideKept

/-- The relation passes through a request to the block that owns it. -/
theorem frame_outsideKept : Frame OutsideKept := ⟨OutsideKept.of_moves, OutsideKept.trans⟩

/-! ## The refresh account (chapter 5) -/

section Account

variable (s : State)

theorem outsideKept_judgeAccount : OutsideKept s (judgeAccount s) := .of_unit (unitMoves_judgeAccount s)

/-- The account's state is judged after an update of the account. -/
theorem outsideKept_judgeUpdated (a : Account) : OutsideKept s (judgeAccount (s.setAccount a)) :=
  .after (outsideKept_judgeAccount _) rfl

theorem outsideKept_removeReason (r : GateReason) : OutsideKept s (removeReason r s) :=
  .of_unit (unitMoves_removeReason r s)

theorem outsideKept_makeAccountOffer : OutsideKept s (makeAccountOffer s) := .ite rfl rfl

theorem outsideKept_afterAccountOp : OutsideKept s (afterAccountOp s) :=
  .ite (outsideKept_makeAccountOffer s)
    (.ite (.ite (outsideKept_makeAccountOffer s) (.after (outsideKept_removeReason _ .refresh) rfl))
      (outsideKept_removeReason s .refresh))

/-- R97 to R99: the end of an operation of the account, with the counts that it leaves. -/
theorem outsideKept_landAccountOp (a : Account) :
    OutsideKept s (afterAccountOp (judgeAccount ((landMaint .active s).setAccount a))) := by
  have hlanded : OutsideKept s (landMaint .active s) := rfl
  exact (hlanded.trans (outsideKept_judgeUpdated _ a)).trans (outsideKept_afterAccountOp _)

theorem outsideKept_raiseOwed : OutsideKept s (raiseOwed s) :=
  .ite ((outsideKept_judgeUpdated s _).trans (.of_moves (leaseMoves_massRevoke .refresh _)))
    (outsideKept_judgeUpdated s _)

theorem outsideKept_expireInterval : OutsideKept s (expireInterval s) :=
  .ite (.after (outsideKept_raiseOwed _) rfl) rfl

/-- R101: the account's timer starts, and it offers what its request condition gives. -/
theorem outsideKept_endLock : OutsideKept s (endLock s) := by
  have hoffered : ∀ q, OutsideKept s (offer .longCal .sequencer (s.setSeq q)) := fun _ => rfl
  exact .ite (((hoffered _).trans (outsideKept_judgeUpdated _ _)).trans
    (outsideKept_makeAccountOffer _)) ((hoffered _).trans (outsideKept_judgeUpdated _ _))

end Account

/-! ## The agreement unit (chapter 6) -/

section Agreement

variable (s : State) (h : HostId) (tag : Tag)

theorem outsideKept_answer (st : Status) (p : Payload) : OutsideKept s (answer h tag st p s) :=
  .of_moves (leaseMoves_answer h tag st p s)

theorem outsideKept_answerStatus (st : Status) : OutsideKept s (answerStatus h tag st s) :=
  outsideKept_answer s h tag st .none

theorem outsideKept_judgeBallot : OutsideKept s (judgeBallot s) := .of_unit (unitMoves_judgeBallot s)

theorem outsideKept_abandon (r : AbandonReason) : OutsideKept s (abandon r s) :=
  .of_unit (unitMoves_abandon r s)

theorem outsideKept_postProposal (items : List ChangeItem) :
    OutsideKept s (postProposal h tag items s) := by
  have hanswered : ∀ a st p, OutsideKept s (answer h tag st p (s.setAgree a)) := fun _ st p =>
    .after (outsideKept_answer _ h tag st p) rfl
  have hposted : ∀ l n u, OutsideKept u (judgeBallot (notifySet l n u)) := fun _ _ _ =>
    .after (outsideKept_judgeBallot _) rfl
  exact (hanswered _ _ _).trans (hposted _ _ _)

theorem outsideKept_takePropose (base : BitVec 16) (items : List RawItem) :
    OutsideKept s (takePropose h tag base items s) := by
  have hrefused := outsideKept_answerStatus s h tag
  refine .ite (hrefused _) (.ite (hrefused _) (.ite (hrefused _) ?_))
  split
  · exact outsideKept_answer s h tag _ _
  · exact outsideKept_postProposal s h tag _

theorem outsideKept_castVote (accept : Bool) (p : Proposal) :
    OutsideKept s (castVote h tag accept p s) := by
  have hanswered := outsideKept_answerStatus s h tag .ok
  exact .ite (hanswered.trans (.after (outsideKept_judgeBallot _) rfl))
    (hanswered.trans (outsideKept_abandon _ _))

theorem outsideKept_takeVote (number : Seq) (accept : Bool) :
    OutsideKept s (takeVote h tag number accept s) := by
  unfold takeVote
  split
  · split
    · exact outsideKept_answerStatus s h tag _
    · exact outsideKept_castVote s h tag accept _
  · exact outsideKept_answerStatus s h tag _

theorem outsideKept_expireDrain : OutsideKept s (massRevoke .config (clearDrainDeadline s)) := by
  refine .after (.of_moves (leaseMoves_massRevoke _ _)) ?_
  unfold clearDrainDeadline
  split <;> rfl

theorem outsideKept_commitProposal : OutsideKept s (commitProposal s) := by
  have hset : ∀ a t, OutsideKept t (t.setAgree a) := fun _ _ => rfl
  have hlive : OutsideKept s (recheckWaiters (stagedLive s)) :=
    (hset _ s).trans (.of_moves (leaseMoves_recheckWaiters _))
  have hrecord : OutsideKept s (recordTaken s) := hlive.trans (hset _ _)
  rw [commitProposal_eq]
  exact ((hrecord.trans (outsideKept_removeReason _ _)).trans
    (.of_unit (unitMoves_resolveProposal _ _))).trans (outsideKept_judgeAccount _)

end Agreement

/-! ## The standby controller (chapter 7) -/

section Standby

variable (s : State)

theorem outsideKept_offerExit : OutsideKept s (offerExit s) := .ite rfl rfl

theorem outsideKept_exitCause : OutsideKept s (exitCause s) := by
  unfold exitCause
  split
  · rfl
  · rfl
  · exact .ite (.after (outsideKept_offerExit _) rfl) (.after (outsideKept_removeReason _ _) rfl)
  · exact outsideKept_offerExit s

theorem outsideKept_leavePark (h : HostId) : OutsideKept s (leavePark h s) := rfl

theorem outsideKept_takePark (h : HostId) (tag : Tag) : OutsideKept s (takePark h tag s) := by
  unfold takePark
  split
  · exact outsideKept_answerStatus s h tag _
  · exact .after (outsideKept_answerStatus _ h tag .ok) rfl

theorem outsideKept_takeUnpark (h : HostId) (tag : Tag) : OutsideKept s (takeUnpark h tag s) := by
  have hanswered := outsideKept_answerStatus s h tag .ok
  exact .ite (hanswered.trans (.after (outsideKept_exitCause _) rfl)) hanswered

theorem outsideKept_stopAccount : OutsideKept s (stopAccount s) :=
  .after (outsideKept_removeReason _ .refresh) rfl

theorem outsideKept_landEnter : OutsideKept s (landEnter s) := by
  have hstopped : OutsideKept s (notifyAttached .standbyEntered (stopAccount (refreshing s))) :=
    .trans (t := stopAccount (refreshing s)) (.after (outsideKept_stopAccount _) rfl) rfl
  exact .ite (hstopped.trans (outsideKept_offerExit _)) hstopped

theorem outsideKept_landExit : OutsideKept s (landExit s) := by
  have hleft : ∀ x, OutsideKept s (removeReason .standby ((landMaint .active s).setStandby x)) :=
    fun _ => .after (outsideKept_removeReason _ .standby) rfl
  have htold : ∀ n t, OutsideKept t (notifyAttached n t) := fun _ _ => rfl
  exact ((hleft _).trans (outsideKept_judgeUpdated _ _)).trans (htold _ _)

end Standby

/-! ## Links and ports (chapter 8) -/

section Ports

variable (s : State) (h : HostId)

theorem outsideKept_detachAgreement : OutsideKept s (detachAgreement h s) :=
  .of_unit (unitMoves_detachAgreement h s)

theorem outsideKept_linkDown : OutsideKept s (linkDown h s) := by
  have hdown : ∀ x, OutsideKept s (tearDown h (s.setHost h x)) := fun _ =>
    .after (.of_moves (leaseMoves_tearDown h _)) rfl
  have hend : ∀ t, OutsideKept t (takeIntake (notifyAttached (.hostLeft h true) t)) := fun _ =>
    .after (.of_moves (leaseMoves_takeIntake _)) rfl
  unfold linkDown
  dsimp only
  split
  · exact (((hdown _).trans (outsideKept_detachAgreement _ h)).trans
      (outsideKept_leavePark _ h)).trans (hend _)
  · exact (hdown _).trans (hend _)
  all_goals rfl

theorem outsideKept_takeNak (n : Seq) : OutsideKept s (takeNak h n s) :=
  .ite (.ite (outsideKept_linkDown s h) rfl) (.ite rfl rfl)

theorem outsideKept_takeJoin (tag : Tag) : OutsideKept s (takeJoin h tag s) := by
  have hjoining : OutsideKept s (s.setPort h .joining) := rfl
  unfold takeJoin
  split
  · exact .ite (outsideKept_answerStatus s h tag _)
      ((hjoining.trans (outsideKept_exitCause _)).trans (.of_moves (leaseMoves_completeJoins _)))
  all_goals exact outsideKept_answerStatus s h tag _

theorem outsideKept_takeLeave : OutsideKept s (takeLeave h s) := by
  have hclosed : OutsideKept s (withdrawAndClose h (s.setPort h .leaving)) :=
    .after (.of_moves (leaseMoves_withdrawAndClose h _)) rfl
  exact ((hclosed.trans (outsideKept_detachAgreement _ h)).trans (outsideKept_leavePark _ h)).trans
    (.of_moves (leaseMoves_completeLeave h _))

end Ports

/-! ## The start-up sequencer (chapter 10) -/

section StartUp

variable (s : State)

theorem outsideKept_beginAttempt (lane : Lane) (kind : SweepKind) :
    OutsideKept s (beginAttempt lane kind s) := .of_unit (unitMoves_beginAttempt lane kind s)

theorem outsideKept_landLongCal : OutsideKept s (landLongCal s) :=
  .after (outsideKept_beginAttempt _ 0 .startUp) rfl

theorem outsideKept_landModeLoad (m : ModeSetting) (by_ : Requester) :
    OutsideKept s (landModeLoad m by_ s) := by
  have hload : OutsideKept s (loadSetting m (landMaint .active s)) := by
    cases m <;> rfl
  have hcount : ∀ t, OutsideKept t (countModeLoad t) := fun _ => .ite rfl rfl
  exact .ite (hload.trans (hcount _)) (hload.trans rfl)

theorem outsideKept_becomeReady : OutsideKept s (becomeReady s) :=
  .after (.of_moves (leaseMoves_completeJoins _)) (.after (outsideKept_removeReason _ .startup) rfl)

theorem outsideKept_laneTrained (w : Sweep) : OutsideKept s (laneTrained w s) := by
  have hnext : ∀ lane kind q, OutsideKept s (beginAttempt lane kind (s.setSeq q)) :=
    fun lane kind _ => .after (outsideKept_beginAttempt _ lane kind) rfl
  unfold laneTrained
  split
  · exact .ite (.after (outsideKept_becomeReady _) rfl) (hnext _ _ _)
  · split
    · rfl
    · exact .ite (.after (.of_unit (unitMoves_applyBurstOrder _)) rfl) (hnext _ _ _)

theorem outsideKept_attemptEnds (w : Sweep) : OutsideKept s (attemptEnds w s) := by
  have hagain := outsideKept_beginAttempt s w.lane
  unfold attemptEnds
  split
  · exact .ite (hagain _) (.after (.of_moves (leaseMoves_refuseJoining _)) rfl)
  · split
    · rfl
    · exact .ite (hagain _) (.after (outsideKept_abandon _ _) rfl)

theorem outsideKept_actOnSample (sample : Bool) (w : Sweep) :
    OutsideKept s (actOnSample sample w s) :=
  .ite (outsideKept_laneTrained s w)
    (.ite (outsideKept_attemptEnds s w) (.after (.of_unit (unitMoves_offerStep _)) rfl))

theorem outsideKept_landTrainStep (lane : Lane) (sample : Bool) :
    OutsideKept s (landTrainStep lane sample s) := by
  have hlanded : ∀ q, OutsideKept s ((landMaint .active s).setSeq q) := fun _ => rfl
  have hcapture : ∀ t, OutsideKept t (restoreCapture lane t) := fun _ => rfl
  refine .trans ?_ (hcapture _)
  split
  · exact hlanded _
  · exact (hlanded _).trans (outsideKept_actOnSample _ sample _)

end StartUp

end Sys2Proof.Steps
end

section
/-! PROOFS. Every command answers a next state, and leaves the queue and the moment as they are (log 1, 2, 3). -/

namespace Sys2Proof.Steps

open Sys2Proof Sys2Proof.Machine Sys2Proof.Safety Sys2Proof.Leases Sys2Proof.Maintenance
  Sys2Proof.Refresh

/-! ## Every command answers a next state -/

/-- An outcome that is a next state: no fault and no refusal. -/
def Answers (o : Host.Outcome State Fault Refusal) : Prop := ∃ t, o = .next t

theorem answers_next (t : State) : Answers (.next t) := ⟨t, rfl⟩

theorem answers_ite {p : Prop} [Decidable p] (t u : State) :
    Answers (if p then .next t else .next u) := by
  split
  · exact answers_next t
  · exact answers_next u

/-- The issue of a maintenance operation: the arbiter takes an offer of its kind, or nothing happens. -/
theorem answers_issue (s : State) (g : Offer → State) (op : MaintOp) :
    Answers (match s.maintTaken with
      | none => .next s
      | some o => if o.op = op then .next (g o) else .next s) := by
  split
  · exact answers_next s
  · exact answers_ite _ s

theorem execModeLoadIssue_answers (s : State) : Answers (execModeLoadIssue s) := by
  unfold execModeLoadIssue
  split
  · exact answers_next s
  · split
    · exact answers_ite _ _
    all_goals exact answers_next s

theorem execTrainStepIssue_answers (s : State) : Answers (execTrainStepIssue s) := by
  unfold execTrainStepIssue
  split
  · exact answers_next s
  · split <;> exact answers_next _

theorem execModeLoadCompletion_answers (s : State) : Answers (execModeLoadCompletion s) := by
  unfold execModeLoadCompletion
  split
  · exact answers_next s
  · split <;> exact answers_next _

theorem execTrainStepCompletion_answers (sample : Bool) (s : State) :
    Answers (execTrainStepCompletion sample s) := by
  unfold execTrainStepCompletion
  split
  · exact answers_next s
  · split <;> exact answers_next _

/-- Log 3: an event whose condition does not hold answers the state as it is, and no command is refused. -/
theorem exec_answers (c : Instr) (s : State) : Answers (exec c s) := by
  cases c with
  | resetNAssert | malformedMessage | join | joinComplete | leave | leaveComplete | openLease
  | closeLease | grantFromQueue | read | intakeTake | vote | park | unpark | query | queryBank
  | noteAck | notificationDelivery => exact answers_next _
  | resetNRelease | holdPhaseEnd | settlePhaseEnd | lockPhaseEnd | intervalExpiry
  | ballotDeadlineExpiry | drainDeadlineExpiry | silenceDeadlineExpiry | quietEnd
  | sendTimerExpiry | sendFrame | messageFrameDiscarded | closeComplete | revocationFinish | write
  | propose | drainComplete | commit | standbyEntering | standbyEnterOffer | refreshRequest
  | setupEnd | commandSlotEnd | writeRecoveryEnd | burstCompletion | refreshCompletion
  | shortCalCompletion | longCalCompletion | standbyEnterCompletion | standbyExitCompletion =>
    exact answers_ite _ _
  | holdDeadlineExpiry b h =>
    simp only [exec, execHoldDeadlineExpiry]
    split
    · exact answers_next s
    · exact answers_ite _ s
  | waitDeadlineExpiry b h =>
    simp only [exec, execWaitDeadlineExpiry]
    split
    · exact answers_next s
    · exact answers_ite _ s
  | receiveIdleFrame h f =>
    simp only [exec, execReceiveIdleFrame]
    split <;> exact answers_next _
  | receiveNakFrame h f n =>
    simp only [exec, execReceiveNakFrame]
    split <;> exact answers_next _
  | receiveCorruptedFrame h =>
    simp only [exec, execReceiveCorruptedFrame]
    split <;> exact answers_next _
  | activateIssue =>
    simp only [exec, execActivateIssue]
    split <;> exact answers_next _
  | prechargeIssue =>
    simp only [exec, execPrechargeIssue]
    split <;> exact answers_next _
  | burstIssue =>
    simp only [exec, execBurstIssue]
    split <;> exact answers_next _
  | refreshIssue | shortCalIssue | longCalIssue | standbyEnterIssue | standbyExitIssue =>
    exact answers_issue s _ _
  | modeLoadIssue => exact execModeLoadIssue_answers s
  | trainStepIssue => exact execTrainStepIssue_answers s
  | activateCompletion b =>
    simp only [exec, execActivateCompletion]
    split
    · exact answers_ite _ s
    all_goals exact answers_next s
  | prechargeCompletion b =>
    simp only [exec, execPrechargeCompletion]
    split
    · exact answers_ite _ s
    all_goals exact answers_next s
  | modeLoadCompletion => exact execModeLoadCompletion_answers s
  | trainStepCompletion sample => exact execTrainStepCompletion_answers sample s

/-! ## Every command leaves the queue and the moment -/

section Commands

variable {s t : State}

theorem nextIn_iteKept {p : Prop} [Decidable p] (h : OutsideKept s t) :
    NextIn OutsideKept s (if p then .next t else .next s) := frame_outsideKept.ite fun _ => h

/-- An offer that the arbiter takes and that is of the kind the command names is issued. -/
theorem nextIn_issue {g : Offer → State} {op : MaintOp} (hg : ∀ o, OutsideKept s (g o)) :
    NextIn OutsideKept s (match s.maintTaken with
      | none => .next s
      | some o => if o.op = op then .next (g o) else .next s) := by
  split
  · exact frame_outsideKept.next_refl s
  · exact nextIn_iteKept (hg _)

variable (s)

theorem execResetNRelease_kept : NextIn OutsideKept s (execResetNRelease s) := by
  have hreleased : OutsideKept s (releaseReset s) := rfl
  unfold execResetNRelease
  split
  · exact frame_outsideKept.next_refl s
  · exact nextIn_next hreleased

theorem execReceiveNakFrame_kept (h : HostId) (f : FrameHdr) (n : Seq) :
    NextIn OutsideKept s (execReceiveNakFrame h f n s) := by
  unfold execReceiveNakFrame
  split
  · exact frame_outsideKept.next_refl s
  · exact nextIn_next rfl
  · exact nextIn_next (.after (outsideKept_takeNak _ h n) rfl)

theorem execPropose_kept (h : HostId) (f : FrameHdr) (tag : Tag) (base : BitVec 16)
    (items : List RawItem) : NextIn OutsideKept s (execPropose h f tag base items s) := by
  have hF := frame_outsideKept
  unfold execPropose
  split
  · exact nextIn_next
      (hF.requestAttached (fun t => outsideKept_takePropose t h tag base items) h f tag .propose s)
  · exact nextIn_next (hF.deliver (fun t => .of_moves (leaseMoves_malformed h t)) h f true s)

theorem execModeLoadIssue_kept : NextIn OutsideKept s (execModeLoadIssue s) := by
  unfold execModeLoadIssue
  split
  · exact frame_outsideKept.next_refl s
  · split
    · split <;> exact nextIn_next rfl
    all_goals exact frame_outsideKept.next_refl s

theorem execTrainStepIssue_kept : NextIn OutsideKept s (execTrainStepIssue s) := by
  unfold execTrainStepIssue
  split
  · exact frame_outsideKept.next_refl s
  · split
    · exact nextIn_next rfl
    all_goals exact frame_outsideKept.next_refl s

theorem execModeLoadCompletion_kept : NextIn OutsideKept s (execModeLoadCompletion s) := by
  unfold execModeLoadCompletion
  split
  · exact frame_outsideKept.next_refl s
  · split
    · exact nextIn_next (outsideKept_landModeLoad s _ _)
    all_goals exact frame_outsideKept.next_refl s

theorem execTrainStepCompletion_kept (sample : Bool) :
    NextIn OutsideKept s (execTrainStepCompletion sample s) := by
  unfold execTrainStepCompletion
  split
  · exact frame_outsideKept.next_refl s
  · split
    · exact nextIn_next (outsideKept_landTrainStep s _ sample)
    all_goals exact frame_outsideKept.next_refl s

end Commands

/-- Log 1, 2: no command touches the queue or the moment; those of the lease table, the transfer engine
and the links stay within `LeaseMoves`, and the rest are looked at one by one. -/
theorem exec_outsideKept (c : Instr) (s : State) : NextIn OutsideKept s (exec c s) := by
  have hF := frame_outsideKept
  by_cases hc : isLeaseCommand c = true
  · exact fun t ht => hF.moves (exec_leaseCommand hc s t ht)
  cases c with
  | resetNAssert => exact nextIn_next rfl
  | resetNRelease => exact execResetNRelease_kept s
  | holdPhaseEnd | settlePhaseEnd | standbyEntering | standbyEnterOffer => exact nextIn_iteKept rfl
  | lockPhaseEnd => exact nextIn_iteKept (outsideKept_endLock s)
  | intervalExpiry => exact nextIn_iteKept (.after (outsideKept_expireInterval _) rfl)
  | ballotDeadlineExpiry => exact nextIn_iteKept (outsideKept_abandon s .timeout)
  | drainDeadlineExpiry => exact nextIn_iteKept (outsideKept_expireDrain s)
  | silenceDeadlineExpiry h => exact nextIn_iteKept (outsideKept_linkDown s h)
  | receiveNakFrame h f n => exact execReceiveNakFrame_kept s h f n
  | join h f tag =>
    exact nextIn_next (hF.request (fun t => outsideKept_takeJoin t h tag) h f tag .join s)
  | leave h f tag =>
    exact nextIn_next (hF.requestAttached (fun t => outsideKept_takeLeave t h) h f tag .leave s)
  | propose h f tag base items => exact execPropose_kept s h f tag base items
  | vote h f tag number accept =>
    exact nextIn_next
      (hF.requestAttached (fun t => outsideKept_takeVote t h tag number accept) h f tag .vote s)
  | drainComplete => exact nextIn_iteKept (.of_unit (unitMoves_beginApply s))
  | commit => exact nextIn_iteKept (outsideKept_commitProposal s)
  | park h f tag =>
    exact nextIn_next (hF.requestAttached (fun t => outsideKept_takePark t h tag) h f tag .park s)
  | unpark h f tag =>
    exact nextIn_next
      (hF.requestAttached (fun t => outsideKept_takeUnpark t h tag) h f tag .unpark s)
  | refreshRequest => exact nextIn_iteKept (outsideKept_makeAccountOffer s)
  | refreshIssue | shortCalIssue | longCalIssue | standbyEnterIssue | standbyExitIssue =>
    exact nextIn_issue fun _ => rfl
  | modeLoadIssue => exact execModeLoadIssue_kept s
  | trainStepIssue => exact execTrainStepIssue_kept s
  | refreshCompletion | shortCalCompletion =>
    exact nextIn_iteKept (outsideKept_landAccountOp s _)
  | longCalCompletion => exact nextIn_iteKept (outsideKept_landLongCal s)
  | modeLoadCompletion => exact execModeLoadCompletion_kept s
  | trainStepCompletion sample => exact execTrainStepCompletion_kept s sample
  | standbyEnterCompletion => exact nextIn_iteKept (outsideKept_landEnter s)
  | standbyExitCompletion => exact nextIn_iteKept (outsideKept_landExit s)
  | _ => exact absurd rfl hc

/-- A command answers a next state with the queue and the moment as they were. -/
theorem exec_next (c : Instr) (s : State) :
    ∃ t, exec c s = .next t ∧ t.pending = s.pending ∧ t.now = s.now := by
  obtain ⟨t, ht⟩ := exec_answers c s
  exact ⟨t, ht, Prod.mk.inj (exec_outsideKept c s t ht)⟩

/-! ## The tick -/

/-- Log 2: a tick moves the clock by 1 ns, or leaves it. -/
theorem idle_now (s : State) : s.idle.now = s.now ∨ s.idle.now = s.now + 1 := by
  unfold State.idle
  split
  · exact .inl rfl
  · exact .inr rfl

theorem changesOnly_idle (s : State) : ChangesOnly [.now] s s.idle := by
  unfold State.idle
  split
  · exact .refl _ s
  · intro p hp
    cases p with
    | now => exact absurd (List.mem_singleton_self _) hp
    | _ => rfl

/-- Log 2: the clock does not pass a moment with a timed event still to be taken. -/
theorem idle_of_timerDue {s : State} (h : s.timerDue = true) : s.idle = s := by
  have hheld : s.timeHeld = true := by simp [State.timeHeld, h]
  exact if_pos hheld

/-! ## Every step -/

/-- Settles O1: with a command at the front of the queue, a step is that command on the queue's rest. -/
theorem stepRunsFrontCommand : Obligations.StepRunsFrontCommand :=
  fun c rest s => step_cons { s with pending := c :: rest } c rest rfl

/-- Settles O2: the command at the front answers and leaves the queue's rest and the moment, and on an
empty queue the step is a tick. -/
theorem everyStepAnswersNext : Obligations.EveryStepAnswersNext := by
  intro s
  cases hp : s.pending with
  | nil =>
    exact ⟨s.idle, step_nil s hp, nofun,
      fun _ => ⟨changesOnly_idle s, idle_now s, idle_of_timerDue⟩⟩
  | cons c rest =>
    obtain ⟨t, ht, hpending, hnow⟩ := exec_next c { s with pending := rest }
    refine ⟨t, (step_cons s c rest hp).trans ht, ?_, nofun⟩
    rintro _ _ ⟨⟩
    exact ⟨hpending, hnow⟩

end Sys2Proof.Steps
end
